-- ==== Sys2Proof/Word.lean ====
section
/-! DEFINITION. The plainest types of the model: bytes, directions, the common numbering of motions and channels
(00_scope.md, "Motions, channels and numbering"), records kept once per motion or per port, and a table of a fixed
number of cells. -/

namespace Sys2Proof

/-- One byte of a frame (R161). -/
abbrev Byte := BitVec 8

/-- The two directions of every motion (00_scope.md, "Directions and units"). -/
inductive Dir where
  | plus
  | minus
  deriving DecidableEq, Repr

/-- The other direction. -/
def Dir.opposite : Dir → Dir
  | .plus => .minus
  | .minus => .plus

/-- Motions, count channels and loops share one numbering: HOIST 1, DRAG 2, SWING 3, WALK 4. -/
inductive Motion where
  | hoist
  | drag
  | swing
  | walk
  deriving DecidableEq, Repr

/-- The four motions in number order. -/
def Motion.all : List Motion := [.hoist, .drag, .swing, .walk]

/-- The number of a motion, a channel or a loop. -/
def Motion.number : Motion → Nat
  | .hoist => 1
  | .drag => 2
  | .swing => 3
  | .walk => 4

/-- The dig motions: HOIST, DRAG and SWING together. -/
inductive Dig where
  | hoist
  | drag
  | swing
  deriving DecidableEq, Repr

/-- The dig motions in number order. -/
def Dig.all : List Dig := [.hoist, .drag, .swing]

/-- A dig motion as one of the four motions. -/
def Dig.motion : Dig → Motion
  | .hoist => .hoist
  | .drag => .drag
  | .swing => .swing

/-- The dig motion of a motion number other than WALK. -/
def Motion.dig? : Motion → Option Dig
  | .hoist => some .hoist
  | .drag => some .drag
  | .swing => some .swing
  | .walk => none

/-- The two request ports. -/
inductive Port where
  | cab
  | service
  deriving DecidableEq, Repr

/-- One value for each of the four motions, channels or loops. -/
structure PerMotion (α : Type) where
  hoist : α
  drag : α
  swing : α
  walk : α
  deriving DecidableEq, Repr

/-- The value kept for a motion. -/
def PerMotion.get {α : Type} (p : PerMotion α) : Motion → α
  | .hoist => p.hoist
  | .drag => p.drag
  | .swing => p.swing
  | .walk => p.walk

/-- Replace the value kept for a motion. -/
def PerMotion.set {α : Type} (p : PerMotion α) (m : Motion) (x : α) : PerMotion α :=
  match m with
  | .hoist => { p with hoist := x }
  | .drag => { p with drag := x }
  | .swing => { p with swing := x }
  | .walk => { p with walk := x }

/-- The same value for every motion. -/
def PerMotion.const {α : Type} (x : α) : PerMotion α := ⟨x, x, x, x⟩

/-- Apply a function to the value of every motion. -/
def PerMotion.map {α β : Type} (f : α → β) (p : PerMotion α) : PerMotion β :=
  ⟨f p.hoist, f p.drag, f p.swing, f p.walk⟩

/-- One value for each dig motion. -/
structure PerDig (α : Type) where
  hoist : α
  drag : α
  swing : α
  deriving DecidableEq, Repr

/-- The value kept for a dig motion. -/
def PerDig.get {α : Type} (p : PerDig α) : Dig → α
  | .hoist => p.hoist
  | .drag => p.drag
  | .swing => p.swing

/-- Replace the value kept for a dig motion. -/
def PerDig.set {α : Type} (p : PerDig α) (m : Dig) (x : α) : PerDig α :=
  match m with
  | .hoist => { p with hoist := x }
  | .drag => { p with drag := x }
  | .swing => { p with swing := x }

/-- The same value for every dig motion. -/
def PerDig.const {α : Type} (x : α) : PerDig α := ⟨x, x, x⟩

/-- Apply a function to the value of every dig motion. -/
def PerDig.map {α β : Type} (f : α → β) (p : PerDig α) : PerDig β := ⟨f p.hoist, f p.drag, f p.swing⟩

/-- One value for each port. -/
structure PerPort (α : Type) where
  cab : α
  service : α
  deriving DecidableEq, Repr

/-- The value kept for a port. -/
def PerPort.get {α : Type} (p : PerPort α) : Port → α
  | .cab => p.cab
  | .service => p.service

/-- Replace the value kept for a port. -/
def PerPort.set {α : Type} (p : PerPort α) (q : Port) (x : α) : PerPort α :=
  match q with
  | .cab => { p with cab := x }
  | .service => { p with service := x }

/-- A table of exactly `n` cells, numbered from 0 (the forty zone slots, the sixteen cache entries, the twelve
generator numbers, the forty-eight alarm slots). It is kept as a list so that the kernel can evaluate it. -/
structure Table (α : Type) (n : Nat) where
  cells : List α
  size : cells.length = n
  deriving DecidableEq, Repr

/-- The content of a cell. -/
def Table.get {α : Type} {n : Nat} (t : Table α n) (i : Fin n) : α :=
  t.cells.get ⟨i.val, by rw [t.size]; exact i.isLt⟩

/-- Replace the content of a cell; a number beyond the table changes nothing. -/
def Table.setAt {α : Type} {n : Nat} (t : Table α n) (i : Nat) (x : α) : Table α n :=
  ⟨t.cells.set i x, by rw [List.length_set]; exact t.size⟩

/-- Replace the content of a cell. -/
def Table.set {α : Type} {n : Nat} (t : Table α n) (i : Fin n) (x : α) : Table α n := t.setAt i.val x

/-- Apply a function to every cell. -/
def Table.map {α β : Type} {n : Nat} (f : α → β) (t : Table α n) : Table β n :=
  ⟨t.cells.map f, by rw [List.length_map]; exact t.size⟩

/-- The same content in every cell. -/
def Table.const {α : Type} (n : Nat) (x : α) : Table α n := ⟨List.replicate n x, List.length_replicate⟩

/-- A cell key: swing cell, drag band, hoist band (R21). -/
structure CellKey where
  cell : Nat
  drag : Nat
  hoist : Nat
  deriving DecidableEq, Repr

/-- An alarm key: the pair (code, number), the number being a channel, motion, generator, zone or phase, or 0 (R135). -/
structure AlarmKey where
  code : Nat
  num : Nat
  deriving DecidableEq, Repr

end Sys2Proof
end

