-- ==== Sys2Proof/Config.lean ====
section
/-! DEFINITION. What an implementation or an installation fixes: the design level (an open constant), the machine
constants of the settings store with their defaults (R176), and the settings image (R176, R31). The ranges and the
agreement tests of the constants are in Machine/Operands.lean. -/

namespace Sys2Proof

/-- The design level that STATUS reports is 1–255 and the spec gives no value (R170): it is one more than this open
number. UNVERIFIED value, safe: nothing can be proved of it (log entry 7). -/
opaque Config.designLevelLessOne : Fin 255

/-- Permission codes (R23). -/
inductive Permission where
  | none
  | plus
  | minus
  | both
  deriving DecidableEq, Repr

/-- Count multiplier (R1). -/
inductive Multiplier where
  | x1
  | x2
  | x4
  deriving DecidableEq, Repr

/-- Count mode (R1, R2). -/
inductive CountMode where
  | quadrature
  | countDirection
  deriving DecidableEq, Repr

/-- Count sense (R1, R2). -/
inductive CountSense where
  | normal
  | inverted
  deriving DecidableEq, Repr

/-- Reference qualifier (R11). -/
inductive Qualifier where
  | switch
  | switchThenIndex
  deriving DecidableEq, Repr

/-- Reference mode (R12). -/
inductive RefMode where
  | once
  | everyEdge
  deriving DecidableEq, Repr

/-- What happens when the closes of a move have failed (R59). -/
inductive AttemptPolicy where
  | lockOut
  | keepTrying
  deriving DecidableEq, Repr

/-- Where a returned generator goes (R60). -/
inductive ParkPolicy where
  | parkLast
  | openContactor
  deriving DecidableEq, Repr

/-- The constants every count channel has (constants 1–3 and 9–12 of R176). -/
structure ChannelConstants where
  multiplier : Multiplier
  mode : CountMode
  sense : CountSense
  rateWindow : Nat
  stoppedThreshold : Nat
  overspeedLimit : Nat
  plausibilityLimit : Nat
  deriving DecidableEq, Repr

/-- The reference constants of HOIST, DRAG and SWING (constants 6–8 of R176). -/
structure ReferenceConstants where
  direction : Dir
  qualifier : Qualifier
  mode : RefMode
  deriving DecidableEq, Repr

/-- The machine constants of R176. Times are in the unit R176 gives their range in, the dwell time in tenths of a
second. `withdrawn` holds bit n − 1 for generator n. -/
structure Constants where
  channel : PerMotion ChannelConstants
  reference : PerDig ReferenceConstants
  cprSwing : Nat
  cprWalk : Nat
  refValueHoist : Int
  refValueDrag : Int
  hoistBand : Nat
  dragBand : Nat
  defaultPermission : PerDig Permission
  swingLookahead : Nat
  unreferencedPermission : PerDig Permission
  fittedCount : Nat
  withdrawn : BitVec 12
  contactorProofTime : Nat
  transferAttempts : Nat
  attemptPolicy : AttemptPolicy
  parkPolicy : ParkPolicy
  releaseHold : Nat
  recallLimit : Nat
  recallBase : Nat
  rotationCount : Nat
  starveTime : Nat
  minimumComplement : PerMotion Nat
  fullComplement : PerMotion Nat
  brakeProofTime : Nat
  stopTimeout : Nat
  shoeEnd : Nat
  strideEnd : Nat
  setDownEnd : Nat
  dwellTenths : Nat
  phaseTimeout : Nat
  prepareTimeout : Nat
  headingTolerance : Nat
  groundedPayout : Nat
  escalationWindow : Nat
  cabLinkPeriod : Nat
  deriving DecidableEq, Repr

/-- The defaults of R176. -/
def Constants.defaults : Constants where
  channel := PerMotion.const
    { multiplier := .x4, mode := .quadrature, sense := .normal, rateWindow := 100, stoppedThreshold := 4,
      overspeedLimit := 16000, plausibilityLimit := 40000 }
  reference := PerDig.const { direction := .plus, qualifier := .switch, mode := .everyEdge }
  cprSwing := 65536
  cprWalk := 16384
  refValueHoist := 0
  refValueDrag := 0
  hoistBand := 16384
  dragBand := 16384
  defaultPermission := PerDig.const .none
  swingLookahead := 64
  unreferencedPermission := PerDig.const .plus
  fittedCount := 8
  withdrawn := 0
  contactorProofTime := 400
  transferAttempts := 2
  attemptPolicy := .lockOut
  parkPolicy := .parkLast
  releaseHold := 8
  recallLimit := 0
  recallBase := 1
  rotationCount := 3
  starveTime := 10
  minimumComplement := ⟨2, 2, 1, 4⟩
  fullComplement := ⟨3, 3, 2, 4⟩
  brakeProofTime := 600
  stopTimeout := 6
  shoeEnd := 200
  strideEnd := 700
  setDownEnd := 850
  dwellTenths := 20
  phaseTimeout := 20
  prepareTimeout := 30
  headingTolerance := 32
  groundedPayout := 600000
  escalationWindow := 120
  cabLinkPeriod := 500

/-- Zone kinds (02, the slot and its record). -/
inductive ZoneKind where
  | machine
  | site
  deriving DecidableEq, Repr

/-- The body fields of a zone record, less the check code (02, the slot and its record). An absent label is empty. -/
structure ZoneBody where
  kind : ZoneKind
  exclusion : Bool
  dragMin : Nat
  dragMax : Nat
  hoistMin : Nat
  hoistMax : Nat
  permission : PerDig Permission
  label : List Byte
  deriving DecidableEq, Repr

/-- The cleared form of a body (R19). DESIGN CHOICE, safe: its fields carry no meaning and are never returned (log
entry 6). -/
def ZoneBody.cleared : ZoneBody where
  kind := .machine
  exclusion := false
  dragMin := 0
  dragMax := 0
  hoistMin := 0
  hoistMax := 0
  permission := PerDig.const .none
  label := []

/-- A swing window: base and span in swing units (R20). -/
structure SwingWindow where
  base : Nat
  span : Nat
  deriving DecidableEq, Repr

/-- A zone slot in the stored form of R31. -/
inductive StoredZone where
  | empty
  | defective (revision : BitVec 16) (window : SwingWindow)
  | zone (revision : BitVec 16) (window : SwingWindow) (body : ZoneBody)
  deriving DecidableEq, Repr

/-- The settings image of R176: every constant (the withdrawn-generators set among them) and the forty zone slots. -/
structure Image where
  constants : Constants
  zones : Table StoredZone 40
  deriving DecidableEq, Repr

/-- Agreement of a stored zone body with its check code (R32). -/
inductive BodyFault where
  | sound
  | single
  | uncorrectable
  deriving DecidableEq, Repr

end Sys2Proof
end

