-- ==== Sys2Proof/Syntax.lean ====
section
/-! DEFINITION. The commands of the SD410: one constructor for each row of spec/opcode_table.json, with the row's
operands. A request carries its frame; a field event carries the input that changed and its new level. -/

namespace Sys2Proof

/-- A valid request frame of a known code: the port it came on, its tag and its field bytes (R175). -/
structure Frame where
  port : Port
  tag : Byte
  fields : List Byte
  deriving DecidableEq, Repr

/-- The two encoder inputs that are counted (R1, R2). -/
inductive EncoderInput where
  | a
  | b
  deriving DecidableEq, Repr

/-- A fault that a stored zone body has taken (R32). -/
structure StorageFault where
  slot : Fin 40
  fault : BodyFault
  deriving DecidableEq, Repr

/-- The commands and events of the opcode table. Generator g of the manual is `Fin 12` number g − 1. -/
inductive Instr where
  -- requests (R167)
  | read (f : Frame)
  | next (f : Frame)
  | status (f : Frame)
  | demand (f : Frame)
  | arm (f : Frame)
  | stopAll (f : Frame)
  | parkMachine (f : Frame)
  | walk (f : Frame)
  | walkHalt (f : Frame)
  | walkResume (f : Frame)
  | walkCancel (f : Frame)
  | writeZone (f : Frame)
  | retireZone (f : Frame)
  | confirmZones (f : Frame)
  | flushCache (f : Frame)
  | referenceReset (f : Frame)
  | acknowledge (f : Frame)
  | shelve (f : Frame)
  | unshelve (f : Frame)
  | setAnnounce (f : Frame)
  | lockOutGenerator (f : Frame)
  | returnGenerator (f : Frame)
  | openGuard (f : Frame)
  | writeConstant (f : Frame)
  | commit (f : Frame)
  | restart (f : Frame)
  -- the lines
  | unknown (f : Frame) (code : Byte)
  | check (p : Port) (tag code : Byte)
  | lengthOutOfRange (p : Port) (length : Byte)
  | frameGap (p : Port) (byte : Byte)
  | lineBreakOrFramingError (p : Port)
  | frameDiscarded (p : Port)
  | answerSent (p : Port)
  | guardWindowEnd
  | cabLinkPeriodEnd
  -- count channels
  | quadratureCount (c : Motion) (input : EncoderInput) (level : Bool)
  | countDirectionCount (c : Motion) (input : EncoderInput) (level : Bool)
  | quadratureError (c : Motion)
  | rateWindowEnd (c : Motion)
  | referenceSwitchMake (c : Dig)
  | referenceSwitchBreak (c : Dig)
  | encoderIndex (c : Dig)
  | camIndex
  | tubLiftOff
  | tubSetDown
  -- zone table and resolver
  | scrubVisit (faults : List StorageFault)
  | resolutionEnd
  -- generators
  | closureProof (g : Fin 12) (loop : Motion)
  | dropOutProof (g : Fin 12) (loop : Motion)
  | strayOrLostProof (g : Fin 12) (loop : Motion) (present : Bool)
  | lockedOutProofChange (g : Fin 12) (loop : Motion) (present : Bool)
  | openingProofTimeEnd (g : Fin 12)
  | failedClose (g : Fin 12)
  -- arbiter
  | releaseHoldExpiry (m : Dig)
  | starveTimeEnd (m : Motion)
  -- brakes
  | brakeReleaseProof (m : Motion)
  | brakeSetProof (m : Motion)
  | releaseProofLost (m : Motion)
  | brakeLiftWithoutCommand (m : Motion)
  | brakeReleaseTimeEnd (m : Motion)
  | brakeSetTimeEnd (m : Motion)
  | stopTimeout (m : Motion)
  -- walk timers
  | prepareTimeout
  | phaseTimeout
  | dwellEnd
  -- alarms, supply and start-up
  | emergencyStopInput (stop : Bool)
  | shelfMinute (key : AlarmKey)
  | mainsLoss
  | mainsReturn
  | holdupExhausted
  | markerWriteDone
  | commitWriteEnd (left : Option Image)
  | powerOn
  | resetLine
  | settingsLoadEnd
  deriving DecidableEq, Repr

/-- The request code of R167 for a request; none for any other command. -/
def Instr.requestCode : Instr → Option Nat
  | .read _ => some 1
  | .next _ => some 2
  | .status _ => some 3
  | .demand _ => some 4
  | .arm _ => some 5
  | .stopAll _ => some 6
  | .parkMachine _ => some 7
  | .walk _ => some 8
  | .walkHalt _ => some 9
  | .walkResume _ => some 10
  | .walkCancel _ => some 11
  | .writeZone _ => some 12
  | .retireZone _ => some 13
  | .confirmZones _ => some 14
  | .flushCache _ => some 15
  | .referenceReset _ => some 16
  | .acknowledge _ => some 17
  | .shelve _ => some 18
  | .unshelve _ => some 19
  | .setAnnounce _ => some 20
  | .lockOutGenerator _ => some 21
  | .returnGenerator _ => some 22
  | .openGuard _ => some 23
  | .writeConstant _ => some 24
  | .commit _ => some 25
  | .restart _ => some 26
  | .unknown _ _ | .check _ _ _ | .lengthOutOfRange _ _ | .frameGap _ _ | .lineBreakOrFramingError _ => none
  | .frameDiscarded _ | .answerSent _ | .guardWindowEnd | .cabLinkPeriodEnd => none
  | .quadratureCount _ _ _ | .countDirectionCount _ _ _ | .quadratureError _ | .rateWindowEnd _ => none
  | .referenceSwitchMake _ | .referenceSwitchBreak _ | .encoderIndex _ | .camIndex => none
  | .tubLiftOff | .tubSetDown | .scrubVisit _ | .resolutionEnd => none
  | .closureProof _ _ | .dropOutProof _ _ | .strayOrLostProof _ _ _ | .lockedOutProofChange _ _ _ => none
  | .openingProofTimeEnd _ | .failedClose _ | .releaseHoldExpiry _ | .starveTimeEnd _ => none
  | .brakeReleaseProof _ | .brakeSetProof _ | .releaseProofLost _ | .brakeLiftWithoutCommand _ => none
  | .brakeReleaseTimeEnd _ | .brakeSetTimeEnd _ | .stopTimeout _ => none
  | .prepareTimeout | .phaseTimeout | .dwellEnd => none
  | .emergencyStopInput _ | .shelfMinute _ | .mainsLoss | .mainsReturn | .holdupExhausted => none
  | .markerWriteDone | .commitWriteEnd _ | .powerOn | .resetLine | .settingsLoadEnd => none

/-- The frame a command carries, if it is a frame. -/
def Instr.frame? : Instr → Option Frame
  | .read f | .next f | .status f | .demand f | .arm f | .stopAll f | .parkMachine f | .walk f => some f
  | .walkHalt f | .walkResume f | .walkCancel f | .writeZone f | .retireZone f | .confirmZones f => some f
  | .flushCache f | .referenceReset f | .acknowledge f | .shelve f | .unshelve f | .setAnnounce f => some f
  | .lockOutGenerator f | .returnGenerator f | .openGuard f | .writeConstant f | .commit f | .restart f => some f
  | .unknown f _ => some f
  | .check _ _ _ | .lengthOutOfRange _ _ | .frameGap _ _ | .lineBreakOrFramingError _ => none
  | .frameDiscarded _ | .answerSent _ | .guardWindowEnd | .cabLinkPeriodEnd => none
  | .quadratureCount _ _ _ | .countDirectionCount _ _ _ | .quadratureError _ | .rateWindowEnd _ => none
  | .referenceSwitchMake _ | .referenceSwitchBreak _ | .encoderIndex _ | .camIndex => none
  | .tubLiftOff | .tubSetDown | .scrubVisit _ | .resolutionEnd => none
  | .closureProof _ _ | .dropOutProof _ _ | .strayOrLostProof _ _ _ | .lockedOutProofChange _ _ _ => none
  | .openingProofTimeEnd _ | .failedClose _ | .releaseHoldExpiry _ | .starveTimeEnd _ => none
  | .brakeReleaseProof _ | .brakeSetProof _ | .releaseProofLost _ | .brakeLiftWithoutCommand _ => none
  | .brakeReleaseTimeEnd _ | .brakeSetTimeEnd _ | .stopTimeout _ => none
  | .prepareTimeout | .phaseTimeout | .dwellEnd => none
  | .emergencyStopInput _ | .shelfMinute _ | .mainsLoss | .mainsReturn | .holdupExhausted => none
  | .markerWriteDone | .commitWriteEnd _ | .powerOn | .resetLine | .settingsLoadEnd => none

end Sys2Proof
end

