-- ==== Sys2Proof/Machine/State.lean ====
section
/-! DEFINITION. The state of the SD410, block by block as the manual's chapters own it, the reasons a step can stop
(there is none but the name for a command without a meaning) and the state after reset. Derived fields of the manual's
records (held, proven, wanted, stopped, angles, outputs, attention lines) are computed in Machine/Ops.lean and
Machine/Flags.lean (log entry 33). Every timer is the milliseconds left, absent when it does not run. -/

namespace Sys2Proof.Machine

/-- The reasons a command can stop the machine: none. The manual names no command that stops the part; the exhaustion
of the backup cell (R160) is a state of the part. -/
inductive Fault where
  deriving DecidableEq, Repr

/-- The reasons a command has no meaning. -/
inductive Refusal where
  /-- The command is not modelled yet; raised by an arm of exec alone; safe, because the model stops. -/
  | notModelled (mnemonic : String)
  deriving DecidableEq, Repr

/-- Milliseconds left of a running timer. -/
abbrev Timer := Option Nat

/-- Whether the part runs, is loading its settings in a cold start (R180), or has stopped on an exhausted backup cell
(R160). -/
inductive Power where
  | running
  | loading
  | stopped
  deriving DecidableEq, Repr

/-! ### Field inputs -/

/-- The present levels of the field inputs. `proof` is the closed-on-loop proofs, `brakeProof` true while the brake
shows released (R92), `estop` true while the input shows the stop (R136), `mains` true while supply is shown (R153). -/
structure Inputs where
  encA : PerMotion Bool
  encB : PerMotion Bool
  refSwitch : PerDig Bool
  tub : Bool
  proof : Table (PerMotion Bool) 12
  brakeProof : PerMotion Bool
  estop : Bool
  mains : Bool
  deriving DecidableEq, Repr

/-! ### Count channels (01) -/

inductive RefState where
  | unreferenced
  | referenced
  | suspect
  deriving DecidableEq, Repr

inductive SuspectCause where
  | limit
  | quadrature
  | jump
  | missedIndex
  deriving DecidableEq, Repr

/-- The position just before a reference edge, with the machine time (R12). -/
structure Capture where
  position : Int
  time : Nat
  deriving DecidableEq, Repr

/-- A tub bearing capture (R14). -/
structure TubCapture where
  stride : Nat
  time : Nat
  referenced : Bool
  deriving DecidableEq, Repr

/-- The channel record fields every channel has (01, Inputs and the channel record). `windowLeft` is what is left of
the rate window in progress (R7). -/
structure Chan where
  position : Int
  lastDirection : Option Dir
  rateCounter : Int
  rate : Int
  quietWindows : Nat
  refState : RefState
  suspectCause : Option SuspectCause
  capture : Option Capture
  armed : Bool
  windowLeft : Nat
  deriving DecidableEq, Repr

/-- The four channels, with the turns counter of SWING (R4) and the step counter and bearing captures of WALK
(R6, R14). -/
structure Channels where
  ch : PerMotion Chan
  turns : BitVec 16
  stepCounter : BitVec 8
  liftOff : Option TubCapture
  setDown : Option TubCapture
  deriving DecidableEq, Repr

/-! ### Zone table (02) -/

inductive ZoneState where
  | empty
  | inForce
  | stale
  | defective
  deriving DecidableEq, Repr

/-- A zone slot: its header, its body, and whether the stored body agrees with its check code (R32, log entry 5). -/
structure ZoneSlot where
  state : ZoneState
  revision : BitVec 16
  window : Option SwingWindow
  body : ZoneBody
  fault : BodyFault
  deriving DecidableEq, Repr

structure ZoneTable where
  slots : Table ZoneSlot 40
  epoch : BitVec 16
  scrub : Fin 40
  deriving DecidableEq, Repr

/-! ### Permission resolver (03) -/

inductive Source where
  | cell
  | held
  | unreferenced
  deriving DecidableEq, Repr

/-- The three permissions in force, with the one source, key and epoch they share (R37). -/
structure InForce where
  codes : PerDig Permission
  source : Source
  key : Option CellKey
  epoch : Option (BitVec 16)
  deriving DecidableEq, Repr

/-- The SWING lookahead permission (R37). -/
structure Lookahead where
  code : Permission
  source : Source
  key : Option CellKey
  epoch : Option (BitVec 16)
  direction : Option Dir
  deriving DecidableEq, Repr

/-- What a resolution finds: three codes and a winning zone or none (R24). -/
structure Result where
  codes : PerDig Permission
  winner : Option Nat
  deriving DecidableEq, Repr

/-- The contents of a cache entry that has been filled. -/
structure CacheContent where
  key : CellKey
  result : Result
  epoch : BitVec 16
  deriving DecidableEq, Repr

/-- A cache entry (R46). -/
structure CacheEntry where
  valid : Bool
  content : Option CacheContent
  age : Option Nat
  deriving DecidableEq, Repr

/-- The key in flight with the epoch of its resolution (R43). -/
structure InFlight where
  key : CellKey
  epoch : BitVec 16
  deriving DecidableEq, Repr

structure Resolver where
  force : InForce
  look : Lookahead
  cache : Table CacheEntry 16
  queue : List CellKey
  inFlight : Option InFlight
  currentKey : Option CellKey
  lookKey : Option CellKey
  deriving DecidableEq, Repr

/-! ### Generators (04) -/

inductive MoveStep where
  | opening
  | closing
  deriving DecidableEq, Repr

/-- Lock-out causes that a request or a write can leave pending (04, the generator record). -/
inductive PendingCause where
  | service
  | withdrawn
  deriving DecidableEq, Repr

inductive LockCause where
  | service
  | welded
  | noProof
  | withdrawn
  deriving DecidableEq, Repr

/-- What a step owes to a failed close: `no`, it follows none; else it is the OPENING that follows one, and goes on by
what that failed close made of the constants then in force: `again`, attempts stood below the constant (R58); `keepTrying`
and `lockOut`, attempts reached it under that policy (R59). The constants take effect at a failed close (R67). -/
inductive AfterFail where
  | no
  | again
  | keepTrying
  | lockOut
  deriving DecidableEq, Repr

/-- A move in progress (R55–R58). `on` is the loop whose proof the step waits for, `loop` the Loop field, `target`
none for OPEN, `afterFail` what the step owes to a failed close, `keepTrying` the condition CONTACTOR NO PROOF of R59,
`seq` the order of the hand-over that made the claim (R75). -/
structure Move where
  holder : Option Motion
  step : MoveStep
  on : Motion
  loop : Option Motion
  target : Option Motion
  afterFail : AfterFail
  lockPending : Option PendingCause
  keepTrying : Bool
  seq : Nat
  timer : Timer
  deriving DecidableEq, Repr

/-- The state of a generator, with the fields that are present in it (R53). A number above the fitted count in force
has no record (R181). -/
inductive GenState where
  | noRecord
  | free
  | parked (loop : Motion) (since : Nat)
  | moving (m : Move)
  | granted (holder : Motion)
  | lockedOut (cause : LockCause) (loop : Option Motion)
  deriving DecidableEq, Repr

structure Gen where
  st : GenState
  attempts : Nat
  deriving DecidableEq, Repr

/-! ### Lease arbiter (05) -/

/-- A waiting-list entry less its wanted count, which follows held and the complement (R72). -/
structure Entry where
  motion : Motion
  joinTime : Nat
  shortSince : Option Nat
  deriving DecidableEq, Repr

structure Arbiter where
  list : List Entry
  countedMotion : Option Motion
  count : Nat
  handed : Nat
  deriving DecidableEq, Repr

/-! ### Brakes and motion records (06) -/

inductive BrakeState where
  | set
  | releasing
  | released
  | setting
  deriving DecidableEq, Repr

/-- A drum brake: its sub-state, the proof time left of a step, the stop wait with the stop timeout left, whether the set
under way followed a stop timeout, and the time left in which a release proof is a late one of a release that was dropped
(R92–R94, log entry 44). -/
structure Brake where
  state : BrakeState
  proofTimer : Timer
  stopWait : Option Nat
  stopTimer : Timer
  afterTimeout : Bool
  late : Timer
  deriving DecidableEq, Repr

/-- Alarm classes (R135). -/
inductive AlarmClass where
  | trip
  | stop
  | warn
  | notice
  deriving DecidableEq, Repr

/-- An alarm key taken as a cause, with the effective class it had when it was taken (R103, R128). -/
structure Cause where
  key : AlarmKey
  cls : AlarmClass
  deriving DecidableEq, Repr

inductive MotionState where
  | idle
  | acquiring
  | ready
  | releasing
  | tripped
  | locked
  deriving DecidableEq, Repr

inductive Complement where
  | minimum
  | full
  deriving DecidableEq, Repr

inductive HoldReason where
  | zone
  | lookahead
  | resolving
  | reversal
  | brake
  | lease
  deriving DecidableEq, Repr

/-- A dig motion record (06, the motion record). `holdTimer` is what is left of the release hold (R81). -/
structure MotionRec where
  state : MotionState
  demand : Option Dir
  complement : Complement
  brake : Brake
  permit : Option Dir
  holdReason : Option HoldReason
  tripCause : Option Cause
  holdStart : Option Nat
  holdTimer : Timer
  reversal : Bool
  deriving DecidableEq, Repr

/-! ### Walk record (07) -/

inductive WalkState where
  | idle
  | preparing
  | stepping
  | interrupted
  deriving DecidableEq, Repr

inductive Phase where
  | lowerShoes
  | liftAndStride
  | setDown
  | raiseShoes
  | dwell
  deriving DecidableEq, Repr

inductive WalkOutcome where
  | completed
  | halted
  | cancelled
  | prepareFailed
  deriving DecidableEq, Repr

structure WalkRec where
  state : WalkState
  phase : Option Phase
  ending : Option WalkOutcome
  direction : Dir
  heading : Option Nat
  stepsRequested : Option Nat
  stepsDone : Nat
  haltRequested : Bool
  interruptCause : Option Cause
  lastOutcome : Option WalkOutcome
  lifted : Bool
  setDownSeen : Bool
  liftOff : Option TubCapture
  setDown : Option TubCapture
  siteMarked : Bool
  brake : Brake
  permit : Option Dir
  prepareTimer : Timer
  phaseTimer : Timer
  dwellTimer : Timer
  deriving DecidableEq, Repr

/-! ### Alarm table (08) -/

inductive AlarmState where
  | activeUnack
  | activeAck
  | clearedUnack
  deriving DecidableEq, Repr

/-- The shelf of a record: minutes remaining, and the milliseconds to the next count (R144). -/
structure Shelf where
  minutes : Nat
  next : Nat
  deriving DecidableEq, Repr

/-- An alarm record (R135); its slot is its place in the table and its base class follows from its code. -/
structure AlarmRec where
  key : AlarmKey
  cls : AlarmClass
  state : AlarmState
  shelf : Option Shelf
  raiseCount : Nat
  repeatRun : Nat
  firstRaised : Nat
  lastRaised : Nat
  lastCleared : Option Nat
  ackBy : Option Port
  deriving DecidableEq, Repr

/-- A true condition key: the time it became true and the mark of unrecorded (R136). -/
structure Condition where
  key : AlarmKey
  since : Nat
  unrecorded : Bool
  deriving DecidableEq, Repr

/-- A port's announce setting; bit 0 of the mask is TRIP, bit 3 NOTICE (R148, R175). -/
structure Announce where
  announcing : Bool
  mask : BitVec 4
  deriving DecidableEq, Repr

structure Alarms where
  slots : Table (Option AlarmRec) 48
  conditions : List Condition
  lostEvents : Nat
  announce : PerPort Announce
  deriving DecidableEq, Repr

/-! ### Supply (09) and store (11) -/

inductive SupplyState where
  | run
  | holdup
  deriving DecidableEq, Repr

/-- The supply record of R153; `marker` is true for SET. -/
structure Supply where
  state : SupplyState
  lastEntry : Option Nat
  lastReturn : Option Nat
  marker : Bool
  deriving DecidableEq, Repr

/-- The holdup-entry marker as the store holds it (R154). -/
inductive StoredMarker where
  | clear
  | set
  | unreadable
  deriving DecidableEq, Repr

/-- The settings store: the image (none when what it holds fails its check), the marker, and the value of a marker write
in progress (R154, R176). -/
structure Store where
  image : Option Image
  marker : StoredMarker
  markerWrite : Option Bool
  deriving DecidableEq, Repr

/-- A COMMIT in progress: the image formed at the take and the time its write has left (R178). -/
structure CommitRun where
  image : Image
  timeLeft : Nat
  deriving DecidableEq, Repr

/-! ### Request ports (10) -/

inductive Receiver where
  | hunting
  | receiving
  deriving DecidableEq, Repr

/-- Statuses of R165. -/
inductive Status where
  | done
  | accepted
  | refused
  | stale
  | noRecord
  | badField
  | notFitted
  | wrongPort
  | guarded
  | busy
  | unknown
  | check
  deriving DecidableEq, Repr

/-- Reasons of a REFUSED answer (R165). -/
inductive Reason where
  | none
  | state
  | tripped
  | locked
  | holdup
  | granted
  | condition
  deriving DecidableEq, Repr

/-- What the sending of an answer does besides (R171, R179). -/
inductive AfterSent where
  | nothing
  | closeGuard
  | closeGuardAndRestart
  deriving DecidableEq, Repr

/-- An answer in progress (R163): the fields of its response frame (R175) and what its sending does. -/
structure Answer where
  tag : Byte
  code : Byte
  status : Status
  reason : Reason
  body : List Byte
  after : AfterSent
  deriving DecidableEq, Repr

structure PortState where
  receiver : Receiver
  answer : Option Answer
  deriving DecidableEq, Repr

/-- The cab link timer (R172). -/
inductive CabTimer where
  | stopped
  | running (left : Nat)
  | expired
  deriving DecidableEq, Repr

/-- The state of the part. `clock` is milliseconds since the last cold start; `k` the live constants; `fitted` the
fitted count in force (R181); `guardLeft` absent while the guard is CLOSED (R171). -/
structure State where
  pending : List Instr
  power : Power
  clock : Nat
  k : Constants
  fitted : Nat
  store : Store
  commit : Option CommitRun
  inputs : Inputs
  chans : Channels
  zones : ZoneTable
  res : Resolver
  gens : Table Gen 12
  arb : Arbiter
  motions : PerDig MotionRec
  walk : WalkRec
  alarms : Alarms
  supply : Supply
  ports : PerPort PortState
  guardLeft : Timer
  cabTimer : CabTimer
  deriving DecidableEq, Repr

/-! ### Cold-start values -/

/-- Cold-start values of a channel (R18); its first rate window has the length given. -/
def Chan.cold (window : Nat) : Chan where
  position := 0
  lastDirection := none
  rateCounter := 0
  rate := 0
  quietWindows := 0
  refState := .unreferenced
  suspectCause := none
  capture := none
  armed := false
  windowLeft := window

/-- Cold-start values of the count channels (R18). -/
def Channels.cold (k : Constants) : Channels where
  ch := k.channel.map fun c => Chan.cold c.rateWindow
  turns := 0
  stepCounter := 0
  liftOff := none
  setDown := none

/-- An EMPTY slot (R31). -/
def ZoneSlot.empty : ZoneSlot := ⟨.empty, 0, none, ZoneBody.cleared, .sound⟩

/-- Cold-start values of the resolver, on the unreferenced path (R38, R51). -/
def Resolver.cold (k : Constants) : Resolver where
  force := ⟨k.unreferencedPermission, .unreferenced, none, none⟩
  look := ⟨k.unreferencedPermission.swing, .unreferenced, none, none, none⟩
  cache := Table.const 16 ⟨false, none, none⟩
  queue := []
  inFlight := none
  currentKey := none
  lookKey := none

/-- The arbiter at a cold start (R84). -/
def Arbiter.cold : Arbiter := ⟨[], none, 0, 0⟩

/-- A brake proven set. -/
def Brake.cold : Brake := ⟨.set, none, none, none, false, none⟩

/-- Cold-start values of a dig motion record whose brake proof shows set (R110). -/
def MotionRec.cold : MotionRec where
  state := .idle
  demand := none
  complement := .minimum
  brake := Brake.cold
  permit := none
  holdReason := none
  tripCause := none
  holdStart := none
  holdTimer := none
  reversal := false

/-- Cold-start values of the walk record, its brake proof showing set (R132). -/
def WalkRec.cold : WalkRec where
  state := .idle
  phase := none
  ending := none
  direction := .plus
  heading := none
  stepsRequested := none
  stepsDone := 0
  haltRequested := false
  interruptCause := none
  lastOutcome := none
  lifted := false
  setDownSeen := false
  liftOff := none
  setDown := none
  siteMarked := false
  brake := Brake.cold
  permit := none
  prepareTimer := none
  phaseTimer := none
  dwellTimer := none

/-- The alarm table as a cold start begins it, before the raises of R151. -/
def Alarms.cold : Alarms := ⟨Table.const 48 none, [], 0, ⟨⟨false, 15⟩, ⟨false, 15⟩⟩⟩

/-- A port that hunts and answers nothing. -/
def PortState.cold : PortState := ⟨.hunting, none⟩

/-- The part with its records lost, as at exhaustion (R160) or from step 1 to step 4 of a cold start (R180): the store,
the input levels and the waiting commands stay; no generator has a record. -/
def State.dark (power : Power) (pending : List Instr) (store : Store) (inputs : Inputs) : State where
  pending := pending
  power := power
  clock := 0
  k := Constants.defaults
  fitted := 0
  store := store
  commit := none
  inputs := inputs
  chans := Channels.cold Constants.defaults
  zones := ⟨Table.const 40 ZoneSlot.empty, 0, 0⟩
  res := Resolver.cold Constants.defaults
  gens := Table.const 12 ⟨.noRecord, 0⟩
  arb := Arbiter.cold
  motions := PerDig.const MotionRec.cold
  walk := WalkRec.cold
  alarms := Alarms.cold
  supply := ⟨.run, none, none, false⟩
  ports := ⟨PortState.cold, PortState.cold⟩
  guardLeft := none
  cabTimer := .stopped

/-- The image of a part never committed: the defaults and no zones. DESIGN CHOICE, unsafe: the manual does not say what
the store holds before the first COMMIT (log entry 1). -/
def Image.factory : Image := ⟨Constants.defaults, Table.const 40 .empty⟩

/-- The input levels at reset. DESIGN CHOICE, unsafe: they are the machine's, at rest, with supply (log entry 2). -/
def Inputs.atRest : Inputs where
  encA := PerMotion.const false
  encB := PerMotion.const false
  refSwitch := PerDig.const false
  tub := true
  proof := Table.const 12 (PerMotion.const false)
  brakeProof := PerMotion.const false
  estop := false
  mains := true

/-- The record of UNREFERENCED that the cold start raises for a channel (R140, R151). -/
def AlarmRec.unreferencedAtStart (n : Nat) : AlarmRec where
  key := ⟨7, n⟩
  cls := .notice
  state := .activeUnack
  shelf := none
  raiseCount := 1
  repeatRun := 1
  firstRaised := 0
  lastRaised := 0
  lastCleared := none
  ackBy := none

/-- The machine right after reset: the end of a cold start (R180) from the factory image, the inputs at rest. -/
def State.reset : State :=
  { State.dark .running [] ⟨some Image.factory, .clear, none⟩ Inputs.atRest with
    fitted := 8
    zones := ⟨Table.const 40 ZoneSlot.empty, 1, 0⟩
    gens := ⟨List.replicate 8 ⟨.free, 0⟩ ++ List.replicate 4 ⟨.noRecord, 0⟩, rfl⟩
    alarms :=
      { Alarms.cold with
        slots := ⟨[some (AlarmRec.unreferencedAtStart 1), some (AlarmRec.unreferencedAtStart 2),
          some (AlarmRec.unreferencedAtStart 3), some (AlarmRec.unreferencedAtStart 4)] ++ List.replicate 44 none, rfl⟩
        conditions := [⟨⟨7, 1⟩, 0, false⟩, ⟨⟨7, 2⟩, 0, false⟩, ⟨⟨7, 3⟩, 0, false⟩, ⟨⟨7, 4⟩, 0, false⟩] } }

end Sys2Proof.Machine
end

