-- ==== Sys2Proof/Machine/Ops.lean ====
section
/-! DEFINITION. Named reads and updates of the state shared by every block: machine time, channel positions as angles,
strides and cell keys, what a motion holds, the field outputs, and single-record updates. -/

namespace Sys2Proof.Machine

/-! ### Time -/

/-- Machine time: whole seconds since the last cold start (00_scope.md, Times). -/
def State.now (s : State) : Nat := s.clock / 1000

/-- The part runs (it is neither loading its settings nor stopped). -/
def State.isRunning (s : State) : Bool := decide (s.power = .running)

/-- The supply state is HOLDUP (R153). -/
def State.inHoldup (s : State) : Bool := decide (s.supply.state = .holdup)

/-! ### Permissions and directions -/

/-- Which directions a permission code grants (R23). -/
def grants : Permission → Dir → Bool
  | .none, _ => false
  | .plus, .plus => true
  | .plus, .minus => false
  | .minus, .plus => false
  | .minus, .minus => true
  | .both, _ => true

/-! ### Single-record updates -/

/-- Change one channel record. -/
def State.onChan (s : State) (c : Motion) (f : Chan → Chan) : State :=
  { s with chans := { s.chans with ch := s.chans.ch.set c (f (s.chans.ch.get c)) } }

/-- Change one dig motion record. -/
def State.onMotion (s : State) (m : Dig) (f : MotionRec → MotionRec) : State :=
  { s with motions := s.motions.set m (f (s.motions.get m)) }

/-- Change the walk record. -/
def State.onWalk (s : State) (f : WalkRec → WalkRec) : State := { s with walk := f s.walk }

/-- The brake of a motion: the dig motions' in their records, WALK's in the walk record. -/
def State.brake (s : State) (m : Motion) : Brake :=
  match m.dig? with
  | some d => (s.motions.get d).brake
  | none => s.walk.brake

/-- Change the brake of a motion. -/
def State.onBrake (s : State) (m : Motion) (f : Brake → Brake) : State :=
  match m.dig? with
  | some d => s.onMotion d fun r => { r with brake := f r.brake }
  | none => s.onWalk fun w => { w with brake := f w.brake }

/-! ### Count channels -/

/-- Counts per revolution of SWING and WALK; the other channels have none (R4, R5). -/
def cprOf (k : Constants) : Motion → Nat
  | .swing => k.cprSwing
  | .walk => k.cprWalk
  | .hoist => 0
  | .drag => 0

/-- The reference value field: the constant for HOIST and DRAG, 0 for SWING and WALK (01, channel record). -/
def refValueOf (k : Constants) : Motion → Int
  | .hoist => k.refValueHoist
  | .drag => k.refValueDrag
  | .swing => 0
  | .walk => 0

/-- Stopped is yes while quiet windows is 3 (R8). -/
def State.stopped (s : State) (c : Motion) : Bool := decide ((s.chans.ch.get c).quietWindows = 3)

/-- The channel is REFERENCED. -/
def State.referenced (s : State) (c : Motion) : Bool := decide ((s.chans.ch.get c).refState = .referenced)

/-- Swing angle: the position times 4096 divided by cpr, rounded down (R4). -/
def State.swingAngle (s : State) : Nat := ((s.chans.ch.swing.position * 4096) / (s.k.cprSwing : Int)).toNat

/-- Raw cam position: the WALK position modulo cpr, times 1024, divided by cpr, rounded down (R5). -/
def State.rawCam (s : State) : Nat :=
  (((s.chans.ch.walk.position % (s.k.cprWalk : Int)) * 1024) / (s.k.cprWalk : Int)).toNat

/-- Stride position in the direction of the walk record (R5). -/
def State.stride (s : State) : Nat :=
  match s.walk.direction with
  | .plus => s.rawCam
  | .minus => (1024 - s.rawCam) % 1024

/-- A rope position reduced to a band 0–31 (R21). -/
def bandOf (position : Int) (width : Nat) : Nat := min 31 (position / (width : Int)).toNat

/-- The cell key of a swing angle with the present drag and hoist positions (R21). -/
def State.keyAtAngle (s : State) (angle : Nat) : CellKey :=
  { cell := angle / 64
    drag := bandOf s.chans.ch.drag.position s.k.dragBand
    hoist := bandOf s.chans.ch.hoist.position s.k.hoistBand }

/-- The cell key of the present positions (R39). -/
def State.presentKey (s : State) : CellKey := s.keyAtAngle s.swingAngle

/-- The resolver is on the cell path: SWING, DRAG and HOIST are all REFERENCED (R38). -/
def State.onCellPath (s : State) : Bool := s.referenced .swing && s.referenced .drag && s.referenced .hoist

/-! ### Generators and leases -/

/-- Available to the arbiter: FREE or PARKED (R53, R76). -/
def Gen.isAvailable (g : Gen) : Bool :=
  match g.st with
  | .free => true
  | .parked _ _ => true
  | .noRecord => false
  | .moving _ => false
  | .granted _ => false
  | .lockedOut _ _ => false

/-- GRANTED to a motion (R53). -/
def Gen.isGrantedTo (g : Gen) (m : Motion) : Bool := decide (g.st = .granted m)

/-- A claim of a motion that is not failing: MOVING with the motion as prospective holder (R71). -/
def Gen.isClaimOf (g : Gen) (m : Motion) : Bool :=
  match g.st with
  | .moving v => decide (v.holder = some m) && !v.keepTrying
  | _ => false

/-- A failing claim of a motion (R71). -/
def Gen.isFailingClaimOf (g : Gen) (m : Motion) : Bool :=
  match g.st with
  | .moving v => decide (v.holder = some m) && v.keepTrying
  | _ => false

/-- Coming: available, or MOVING with holder none, target OPEN and no lock-out pending (R76). -/
def Gen.isComing (g : Gen) : Bool :=
  g.isAvailable ||
    match g.st with
    | .moving v => v.holder.isNone && v.target.isNone && v.lockPending.isNone
    | _ => false

/-- LOCKED OUT with any cause. -/
def Gen.isLockedOut (g : Gen) : Bool :=
  match g.st with
  | .lockedOut _ _ => true
  | _ => false

/-- The generator has a record: its number is within the fitted count in force (R53, R181). -/
def Gen.hasRecord (g : Gen) : Bool := !decide (g.st = .noRecord)

/-- Generators available (R76). -/
def State.available (s : State) : Nat := s.gens.cells.countP Gen.isAvailable

/-- Generators coming (R76). -/
def State.coming (s : State) : Nat := s.gens.cells.countP Gen.isComing

/-- Proven: generators GRANTED to the motion; 0 in holdup, where every lease is lost (R71, R84). -/
def State.proven (s : State) (m : Motion) : Nat :=
  if s.inHoldup then 0 else s.gens.cells.countP fun g => g.isGrantedTo m

/-- Held: proven plus the claims that are not failing; 0 in holdup (R71, R84). -/
def State.held (s : State) (m : Motion) : Nat :=
  if s.inHoldup then 0
  else (s.gens.cells.countP fun g => g.isGrantedTo m) + s.gens.cells.countP fun g => g.isClaimOf m

/-- The state of a motion lets it take generators: a dig motion in ACQUIRING or READY, the walk in PREPARING or STEPPING
with no ending present (R72, R112). -/
def State.takes (s : State) (m : Motion) : Bool :=
  match m.dig? with
  | some d => decide ((s.motions.get d).state = .acquiring ∨ (s.motions.get d).state = .ready)
  | none => decide ((s.walk.state = .preparing ∨ s.walk.state = .stepping) ∧ s.walk.ending = none)

/-- The complement a motion asks for (R72, R87). -/
def State.asked (s : State) (m : Motion) : Nat :=
  match m.dig? with
  | some d =>
    match (s.motions.get d).complement with
    | .minimum => s.k.minimumComplement.get m
    | .full => s.k.fullComplement.get m
  | none => s.k.fullComplement.walk

/-- The motion wants more generators than it holds (R72). -/
def State.wants (s : State) (m : Motion) : Bool := s.takes m && decide (s.held m < s.asked m)

/-- The wanted count of an entry: the complement asked for minus held (R72). -/
def State.wanted (s : State) (m : Motion) : Nat := s.asked m - s.held m

/-- The motion has an entry on the waiting list. -/
def State.waiting (s : State) (m : Motion) : Bool := s.arb.list.any fun e => decide (e.motion = m)

/-! ### Field outputs (R52, R92, R95) -/

/-- The loop whose coil the record drives (R52). -/
def Gen.coil (g : Gen) : Option Motion :=
  match g.st with
  | .parked loop _ => some loop
  | .granted holder => some holder
  | .moving v =>
    match v.step with
    | .opening => none
    | .closing => some v.on
  | .free => none
  | .noRecord => none
  | .lockedOut _ _ => none

/-- Field outputs are driven: the part runs on mains (R155, R180). -/
def State.driven (s : State) : Bool := s.isRunning && !s.inHoldup

/-- A loop coil output (R52). -/
def State.coilOutput (s : State) (g : Fin 12) (loop : Motion) : Bool :=
  s.driven && decide ((s.gens.get g).coil = some loop)

/-- A generator's field enable: on while it is GRANTED, off in holdup (R52). -/
def State.fieldEnable (s : State) (g : Fin 12) : Bool :=
  s.driven &&
    match (s.gens.get g).st with
    | .granted _ => true
    | _ => false

/-- A brake output, energized in RELEASING and RELEASED (R92). -/
def State.brakeOutput (s : State) (m : Motion) : Bool :=
  s.driven && decide ((s.brake m).state = .releasing ∨ (s.brake m).state = .released)

/-- The permit field of a motion (R95, R119). -/
def State.permit (s : State) (m : Motion) : Option Dir :=
  match m.dig? with
  | some d => (s.motions.get d).permit
  | none => s.walk.permit

/-- A permit line (R95, R119). -/
def State.permitLine (s : State) (m : Motion) (d : Dir) : Bool := s.driven && decide (s.permit m = some d)

/-! ### Walk phases -/

/-- The phase of a stride position (R113). -/
def phaseOf (k : Constants) (p : Nat) : Phase :=
  if p < k.shoeEnd then .lowerShoes
  else if p < k.strideEnd then .liftAndStride
  else if p < k.setDownEnd then .setDown
  else .raiseShoes

/-- The number of a phase (R113). -/
def Phase.number : Phase → Nat
  | .lowerShoes => 1
  | .liftAndStride => 2
  | .setDown => 3
  | .raiseShoes => 4
  | .dwell => 5

/-! ### Timers -/

/-- A running timer one millisecond on; at 0 it waits for the command that is its end (log entry 4). -/
def Timer.tick (t : Timer) : Timer := t.map (· - 1)

end Sys2Proof.Machine
end

