-- ==== Sys2Proof/Machine/ResolverOps.lean ====
section
/-! DEFINITION. The permission resolver's operations (02 R22, R24; 03): what a key resolves to, the lookup cache, the
queue, the two paths, the lookahead, and the epoch change. Each acts on the resolver's own record. -/

namespace Sys2Proof.Machine

/-! ### What a cell key resolves to (R22, R24) -/

/-- The swing cell lies in a swing window (R20). -/
def SwingWindow.holds (w : SwingWindow) (cell : Nat) : Bool :=
  decide (w.base ≤ cell * 64 ∧ cell * 64 < w.base + w.span)

/-- The slot's window holds the cell. -/
def ZoneSlot.windowHolds (z : ZoneSlot) (cell : Nat) : Bool :=
  match z.window with
  | some w => SwingWindow.holds w cell
  | none => false

/-- The bands of a key lie in the windows of a body (R22). -/
def bandsHold (b : ZoneBody) (key : CellKey) : Bool :=
  decide (b.dragMin ≤ key.drag ∧ key.drag ≤ b.dragMax ∧ b.hoistMin ≤ key.hoist ∧ key.hoist ≤ b.hoistMax)

/-- A slot covers a cell key (R22). -/
def ZoneSlot.covers (z : ZoneSlot) (key : CellKey) : Bool :=
  match z.state with
  | .empty => false
  | .inForce => z.windowHolds key.cell && bandsHold z.body key
  | .stale => z.windowHolds key.cell && bandsHold z.body key
  | .defective => z.windowHolds key.cell

/-- A slot is exclusion-like (R19, R24). -/
def ZoneSlot.exclusionLike (z : ZoneSlot) : Bool :=
  match z.state with
  | .empty => false
  | .inForce => z.body.exclusion
  | .stale => true
  | .defective => true

/-- A slot is an ordinary candidate (R24). -/
def ZoneSlot.ordinary (z : ZoneSlot) : Bool := decide (z.state = .inForce) && !z.body.exclusion

/-- The span of a slot's window, 0 without one. -/
def ZoneSlot.span (z : ZoneSlot) : Nat :=
  match z.window with
  | some w => w.span
  | none => 0

/-- The better of two candidates: the smaller span, then the lower index (R24, tier 2). -/
def betterZone (best : Option (Nat × ZoneSlot)) (i : Nat) (z : ZoneSlot) : Option (Nat × ZoneSlot) :=
  match best with
  | none => some (i, z)
  | some (j, y) => if z.span < y.span then some (i, z) else some (j, y)

/-- The winning ordinary candidate among slots numbered from `i` on (R24, tier 2). -/
def bestOrdinary (key : CellKey) : Nat → List ZoneSlot → Option (Nat × ZoneSlot) → Option (Nat × ZoneSlot)
  | _, [], best => best
  | i, z :: zs, best =>
    bestOrdinary key (i + 1) zs (if z.covers key && z.ordinary then betterZone best i z else best)

/-- What a cell key resolves to over a table of slots, with the default permissions (R24). -/
def resolve (slots : List ZoneSlot) (defaults : PerDig Permission) (key : CellKey) : Result :=
  match slots.findIdx? fun z => z.covers key && z.exclusionLike with
  | some i => ⟨PerDig.const .none, some i⟩
  | none =>
    match bestOrdinary key 0 slots none with
    | some (i, z) => ⟨z.body.permission, some i⟩
    | none => ⟨defaults, none⟩

/-! ### The lookup cache (R46) -/

/-- A valid entry: its valid field is yes and its epoch is the current one (R46). -/
def CacheEntry.isValid (e : CacheEntry) (epoch : BitVec 16) : Bool :=
  e.valid &&
    match e.content with
    | some c => decide (c.epoch = epoch)
    | none => false

/-- A valid entry that holds a key. -/
def CacheEntry.hits (e : CacheEntry) (epoch : BitVec 16) (key : CellKey) : Bool :=
  e.isValid epoch &&
    match e.content with
    | some c => decide (c.key = key)
    | none => false

/-- The entry that a lookup of a key hits. -/
def cacheFind (t : Table CacheEntry 16) (epoch : BitVec 16) (key : CellKey) : Option Nat :=
  t.cells.findIdx? fun e => e.hits epoch key

/-- The entry becomes invalid; its contents are kept for reading (R46). -/
def CacheEntry.invalidated (e : CacheEntry) : CacheEntry := { e with valid := false, age := none }

/-- Every entry becomes invalid (R45, R47, R50). -/
def cacheInvalidated (t : Table CacheEntry 16) : Table CacheEntry 16 := t.map CacheEntry.invalidated

/-- The age of an entry counted up when it was younger than a bound (R46). -/
def CacheEntry.agedBelow (bound : Nat) (e : CacheEntry) : CacheEntry :=
  match e.age with
  | some a => if a < bound then { e with age := some (a + 1) } else e
  | none => e

/-- The age of an entry number, 16 when it has none. -/
def ageOf (t : Table CacheEntry 16) (i : Nat) : Nat := ((t.cells[i]?).bind CacheEntry.age).getD 16

/-- Fill an entry, make it age 0 and count up the ages that were younger than the bound (R46). -/
def cacheFill (t : Table CacheEntry 16) (i bound : Nat) (c : CacheContent) : Table CacheEntry 16 :=
  (t.map (CacheEntry.agedBelow bound)).setAt i ⟨true, some c, some 0⟩

/-- A lookup hit on an entry: age 0, and every younger valid entry one older (R46). -/
def cacheTouched (t : Table CacheEntry 16) (i : Nat) : Table CacheEntry 16 :=
  match (t.cells[i]?).bind CacheEntry.content with
  | some c => cacheFill t i (ageOf t i) c
  | none => t

/-- The lowest-indexed entry that is not valid (R46). -/
def cacheSpare (t : Table CacheEntry 16) (epoch : BitVec 16) : Option Nat :=
  t.cells.findIdx? fun e => !e.isValid epoch

/-- The entry of age 15 (R46). -/
def cacheOldest (t : Table CacheEntry 16) : Option Nat := t.cells.findIdx? fun e => decide (e.age = some 15)

/-- A good result enters the cache (R46). -/
def cacheEnter (t : Table CacheEntry 16) (epoch : BitVec 16) (c : CacheContent) : Table CacheEntry 16 :=
  match cacheFind t epoch c.key with
  | some i => cacheFill t i (ageOf t i) c
  | none =>
    match cacheSpare t epoch with
    | some i => cacheFill t i 16 c
    | none =>
      match cacheOldest t with
      | some i => cacheFill t i 16 c
      | none => t

/-! ### The queue (R42, R43) -/

/-- The key is the current key or the lookahead key. -/
def Resolver.needs (r : Resolver) (key : CellKey) : Bool :=
  decide (r.currentKey = some key) || decide (r.lookKey = some key)

/-- The key is that of the resolution in flight. -/
def Resolver.resolving (r : Resolver) (key : CellKey) : Bool :=
  match r.inFlight with
  | some f => decide (f.key = key)
  | none => false

/-- Take the oldest waiting key that is not needed out of the queue (R42). -/
def Resolver.roomMade (r : Resolver) : List CellKey :=
  match r.queue.findIdx? fun k => !r.needs k with
  | some i => r.queue.eraseIdx i
  | none => r.queue

/-- Offer a key to the queue (R42). -/
def Resolver.offer (r : Resolver) (key : CellKey) : Resolver :=
  if r.queue.contains key || r.resolving key then r
  else if r.queue.length < 4 then { r with queue := r.queue ++ [key] }
  else { r with queue := r.roomMade ++ [key] }

/-- Take the next needed head of the queue when no resolution is in flight (R43). -/
def Resolver.started (r : Resolver) (epoch : BitVec 16) : Resolver :=
  match r.inFlight with
  | some _ => r
  | none =>
    match r.queue.dropWhile fun k => !r.needs k with
    | [] => { r with queue := [] }
    | key :: rest => { r with queue := rest, inFlight := some ⟨key, epoch⟩ }

/-! ### Lookups (R40, R41) -/

/-- A permission that a miss may hold: CELL, or HELD with its epoch the current epoch (R40, R41). -/
def mayHold (source : Source) (permEpoch : Option (BitVec 16)) (epoch : BitVec 16) : Bool :=
  match source with
  | .cell => true
  | .held => decide (permEpoch = some epoch)
  | .unreferenced => false

/-- NONE with source HELD, key and epoch absent. -/
def InForce.noneHeld : InForce := ⟨PerDig.const .none, .held, none, none⟩

/-- The permissions in force after a miss (R40). -/
def InForce.missed (f : InForce) (epoch : BitVec 16) : InForce :=
  if mayHold f.source f.epoch epoch then { f with source := .held } else InForce.noneHeld

/-- A lookup of the current key (R40). -/
def Resolver.lookCurrent (r : Resolver) (epoch : BitVec 16) (key : CellKey) : Resolver :=
  match cacheFind r.cache epoch key with
  | some i =>
    match (r.cache.cells[i]?).bind CacheEntry.content with
    | some c => { r with cache := cacheTouched r.cache i, force := ⟨c.result.codes, .cell, some key, some epoch⟩ }
    | none => r
  | none => { r with force := r.force.missed epoch }.offer key

/-- The lookahead permission after a miss (R41). -/
def Lookahead.missed (l : Lookahead) (epoch : BitVec 16) (d : Dir) : Lookahead :=
  if decide (l.direction = some d) && mayHold l.source l.epoch epoch then { l with source := .held }
  else ⟨.none, .held, none, none, some d⟩

/-- A lookup of the lookahead key; equal to a current key that is resolved, it shares that result (R41, log entry 13). -/
def Resolver.lookAhead (r : Resolver) (epoch : BitVec 16) (key : CellKey) (d : Dir) : Resolver :=
  if decide (r.currentKey = some key) && decide (r.force.source = .cell) then
    { r with look := ⟨r.force.codes.swing, .cell, some key, some epoch, some d⟩ }
  else
    match cacheFind r.cache epoch key with
    | some i =>
      match (r.cache.cells[i]?).bind CacheEntry.content with
      | some c =>
        { r with cache := cacheTouched r.cache i, look := ⟨c.result.codes.swing, .cell, some key, some epoch, some d⟩ }
      | none => r
    | none => { r with look := r.look.missed epoch d }.offer key

/-- The lookahead permission follows the SWING permission in force while the demand is NONE (R41). -/
def Resolver.lookFollows (r : Resolver) : Resolver :=
  { r with look := ⟨r.force.codes.swing, r.force.source, r.force.key, r.force.epoch, none⟩, lookKey := none }

/-! ### The paths (R38, R39, R41) -/

/-- The unreferenced path (R38). -/
def Resolver.unreferenced (r : Resolver) (k : Constants) : Resolver :=
  { r with
    force := ⟨k.unreferencedPermission, .unreferenced, none, none⟩
    look := ⟨k.unreferencedPermission.swing, .unreferenced, none, none, none⟩
    currentKey := none
    lookKey := none }

/-- The lookahead angle (R41). -/
def lookAngle (angle lookahead : Nat) (d : Dir) : Nat :=
  match d with
  | .plus => (angle + lookahead) % 4096
  | .minus => (angle + 4096 - lookahead) % 4096

/-- The lookahead key that the SWING demand needs, if any (R41). -/
def State.neededLook (s : State) : Option (Dir × CellKey) :=
  match s.motions.swing.demand with
  | some d => some (d, s.keyAtAngle (lookAngle s.swingAngle s.k.swingLookahead d))
  | none => none

/-- Look the current key up if it has changed (R39, R40). -/
def Resolver.currentFormed (r : Resolver) (old : Option CellKey) (epoch : BitVec 16) (key : CellKey) : Resolver :=
  if old = some key then r else r.lookCurrent epoch key

/-- Look the lookahead key up if it or the direction has changed; with demand NONE follow SWING (R41). -/
def Resolver.lookFormed (r : Resolver) (old : Option CellKey) (epoch : BitVec 16) (need : Option (Dir × CellKey)) :
    Resolver :=
  match need with
  | none => r.lookFollows
  | some (d, key) => if old = some key ∧ r.look.direction = some d then r else r.lookAhead epoch key d

/-- The cell path. Both keys are formed before either is looked up, so that a full queue makes room of keys that are
neither (R39, R41, R42). DESIGN CHOICE, safe: where one change has both keys looked up, at an ordinary key change or at
entry to the cell path, the current key is looked up and offered first, as R42 orders it for an epoch change alone; this
also settles the ages of the cache entries when both hit (log entry 51). -/
def Resolver.onCell (r : Resolver) (epoch : BitVec 16) (key : CellKey) (need : Option (Dir × CellKey)) : Resolver :=
  let f := { r with currentKey := some key, lookKey := need.map Prod.snd }
  (f.currentFormed r.currentKey epoch key).lookFormed r.lookKey epoch need

/-- The resolver in RUN after a change of what it follows: positions, reference states, SWING demand (R38–R43). -/
def State.followedInRun (s : State) : Resolver :=
  (if s.onCellPath then s.res.onCell s.zones.epoch s.presentKey s.neededLook
   else s.res.unreferenced s.k).started s.zones.epoch

/-- In holdup the cell path forms the keys and makes no lookup (R50). -/
def Resolver.onCellInHoldup (r : Resolver) (key : CellKey) : Resolver :=
  let f := if r.force.source = .unreferenced then InForce.noneHeld else r.force
  { r with force := f, currentKey := some key }.lookFollows

/-- The resolver in HOLDUP (R50). -/
def State.followedInHoldup (s : State) : Resolver :=
  if s.onCellPath then s.res.onCellInHoldup s.presentKey else s.res.unreferenced s.k

/-- The resolver follows the channels and the SWING demand (R38–R41, R50). -/
def State.resolverFollow (s : State) : State :=
  { s with res := if s.inHoldup then s.followedInHoldup else s.followedInRun }

/-! ### The epoch (R29, R45) -/

/-- A permission of the cell path loses its code at an epoch change, and keeps its key and epoch (R45, step 2). -/
def InForce.stripped (f : InForce) : InForce := { f with codes := PerDig.const .none, source := .held }

/-- The lookahead permission does the same (R45, step 2). -/
def Lookahead.stripped (l : Lookahead) : Lookahead := { l with code := .none, source := .held }

/-- Offer a key that may be absent. -/
def Resolver.offer? (r : Resolver) (key : Option CellKey) : Resolver :=
  match key with
  | some k => r.offer k
  | none => r

/-- The resolver's part of an epoch change; in holdup it makes no lookups (R45, R50). -/
def Resolver.epochChanged (r : Resolver) (lookups : Bool) (epoch : BitVec 16) : Resolver :=
  let c := { r with cache := cacheInvalidated r.cache }
  match c.currentKey with
  | none => c
  | some _ =>
    let p := { c with force := c.force.stripped, look := c.look.stripped }
    if lookups then ((p.offer? p.currentKey).offer? p.lookKey).started epoch else p

/-- The zone map epoch counts up by one, and the resolver acts on it in the same change (R29, R45). -/
def State.epochUp (s : State) : State :=
  let e := s.zones.epoch + 1
  { s with zones := { s.zones with epoch := e }, res := s.res.epochChanged (!s.inHoldup) e }

/-! ### Holdup (R50) -/

/-- The resolver at holdup entry (R50). -/
def Resolver.atEntry (r : Resolver) : Resolver :=
  let q := { r with queue := [], inFlight := none }
  match q.currentKey with
  | none => q
  | some _ => { q with force := InForce.noneHeld }.lookFollows

/-- The resolver at holdup return: the cache is emptied, and the keys are to be looked up anew (R50, R51). -/
def Resolver.atReturn (r : Resolver) : Resolver :=
  { r with cache := cacheInvalidated r.cache, currentKey := none, lookKey := none }

end Sys2Proof.Machine
end

