-- ==== Sys2Proof/Decode.lean ====
section
/-! DEFINITION. The opcode table gives no row any bits (its rows are commands and events, not words), so no word
spells a command. It also holds the number ranges of the alarm codes, which both the field test and well-formedness
read. -/

namespace Sys2Proof

/-- The largest number (channel, motion, generator, zone or phase) an alarm code has, with the least (R137). -/
def AlarmKey.numberRange : Nat → Option (Nat × Nat)
  | 1 => some (0, 0)
  | 2 => some (0, 0)
  | 3 => some (0, 0)
  | 4 => some (0, 0)
  | 5 => some (1, 4)
  | 6 => some (1, 4)
  | 7 => some (1, 4)
  | 8 => some (1, 4)
  | 9 => some (1, 4)
  | 10 => some (1, 12)
  | 11 => some (1, 12)
  | 12 => some (1, 12)
  | 13 => some (1, 4)
  | 14 => some (0, 39)
  | 15 => some (0, 39)
  | 16 => some (0, 0)
  | 17 => some (0, 0)
  | 18 => some (1, 4)
  | 19 => some (0, 0)
  | 20 => some (0, 0)
  | 21 => some (0, 0)
  | _ => none

/-- A key of the code table of R137. -/
def AlarmKey.listed (k : AlarmKey) : Bool :=
  match AlarmKey.numberRange k.code with
  | some (lo, hi) => decide (lo ≤ k.num ∧ k.num ≤ hi)
  | none => false

/-- The command a table word spells: none, since no row of the table gives bits. -/
def decodeTableWord (_nbits _w : Nat) : Option Instr := none

end Sys2Proof
end

