-- ==== Sys2Proof/Machine/Flags.lean ====
section
/-! DEFINITION. The flags of the part: the alarm table with its condition set (08), the class effects in force, and the
attention lines. Everything here acts on the alarm table alone; what an effect does to the machine is in Effects.lean. -/

namespace Sys2Proof.Machine

/-! ### Codes (R137) -/

/-- The base class of a code (R137). -/
def baseClass : Nat → AlarmClass
  | 1 => .trip
  | 2 => .stop
  | 3 => .warn
  | 4 => .notice
  | 5 => .trip
  | 6 => .stop
  | 7 => .notice
  | 8 => .stop
  | 9 => .trip
  | 10 => .notice
  | 11 => .warn
  | 12 => .notice
  | 13 => .warn
  | 14 => .notice
  | 15 => .warn
  | 16 => .notice
  | 17 => .warn
  | 18 => .trip
  | 19 => .stop
  | 20 => .warn
  | 21 => .warn
  | _ => .notice

/-- The escalation threshold of a code, if it has one (R137). -/
def threshold : Nat → Option Nat
  | 8 => some 3
  | 10 => some 3
  | 14 => some 3
  | _ => none

/-- The order of the classes, highest first (R135). -/
def AlarmClass.rank : AlarmClass → Nat
  | .trip => 0
  | .stop => 1
  | .warn => 2
  | .notice => 3

/-- The key of ALARM TABLE FULL (R146). -/
def fullKey : AlarmKey := ⟨21, 0⟩

/-- The order of keys: code first, then number. -/
def keyBefore (a b : AlarmKey) : Bool := decide (a.code < b.code ∨ (a.code = b.code ∧ a.num < b.num))

/-! ### Slots -/

/-- The record in an alarm slot is that of the key. -/
def holdsKey (key : AlarmKey) (o : Option AlarmRec) : Bool :=
  match o with
  | some r => decide (r.key = key)
  | none => false

/-- The slot of the record of a key (R135). -/
def Alarms.slotOf (a : Alarms) (key : AlarmKey) : Option Nat := a.slots.cells.findIdx? (holdsKey key)

/-- The record of a key. -/
def Alarms.record (a : Alarms) (key : AlarmKey) : Option AlarmRec := (a.slots.cells.find? (holdsKey key)).join

/-- The lowest EMPTY slot from 0 to 46 (R135). -/
def Alarms.freeSlot (a : Alarms) : Option Nat := (a.slots.cells.take 47).findIdx? Option.isNone

/-- Put something in a slot. -/
def Alarms.setSlot (a : Alarms) (i : Nat) (r : Option AlarmRec) : Alarms := { a with slots := a.slots.setAt i r }

/-- Change the record of a key, if there is one. -/
def Alarms.onRecord (a : Alarms) (key : AlarmKey) (f : AlarmRec → Option AlarmRec) : Alarms :=
  match a.slotOf key, a.record key with
  | some i, some r => a.setSlot i (f r)
  | _, _ => a

/-! ### The condition set (R136) -/

/-- The key is a true condition. -/
def Alarms.isTrue (a : Alarms) (key : AlarmKey) : Bool := a.conditions.any fun c => decide (c.key = key)

/-- Insert a condition in key order. -/
def insertCondition (c : Condition) : List Condition → List Condition
  | [] => [c]
  | d :: ds => if keyBefore c.key d.key then c :: d :: ds else d :: insertCondition c ds

/-- Take a key out of the condition set. -/
def Alarms.dropCondition (a : Alarms) (key : AlarmKey) : Alarms :=
  { a with conditions := a.conditions.filter fun c => !decide (c.key = key) }

/-- The effective class of a key: its record's, or the code's base class (R136). -/
def Alarms.effectiveClass (a : Alarms) (key : AlarmKey) : AlarmClass :=
  match a.record key with
  | some r => r.cls
  | none => baseClass key.code

/-- Some true condition carries the mark of unrecorded (R146). -/
def Alarms.anyUnrecorded (a : Alarms) : Bool := a.conditions.any fun c => c.unrecorded

/-! ### Raise and clear of one record (R140–R142) -/

/-- A new record of a key raised at a time (R140; for a late record the time is the key's since, R147). -/
def AlarmRec.fresh (key : AlarmKey) (time : Nat) : AlarmRec where
  key := key
  cls := baseClass key.code
  state := .activeUnack
  shelf := none
  raiseCount := 1
  repeatRun := 1
  firstRaised := time
  lastRaised := time
  lastCleared := none
  ackBy := none

/-- The repeat run after a re-raise: one more within the escalation window, to no more than 15, else 1 (R142). -/
def AlarmRec.nextRun (r : AlarmRec) (now window : Nat) : Nat :=
  if now - r.lastCleared.getD 0 ≤ window then min (r.repeatRun + 1) 15 else 1

/-- The class one step up: NOTICE to WARN, WARN to STOP; no other class rises (R142). -/
def AlarmClass.risen : AlarmClass → AlarmClass
  | .notice => .warn
  | .warn => .stop
  | .stop => .stop
  | .trip => .trip

/-- The re-raise leaves the run at a new multiple of the code's threshold; a run saturated at 15 is none (R142). -/
def AlarmRec.rises (r : AlarmRec) (run : Nat) : Bool :=
  match threshold r.key.code with
  | some t => decide (run % t = 0 ∧ run ≠ r.repeatRun)
  | none => false

/-- A raise on a held record (R141, R142). -/
def AlarmRec.raised (r : AlarmRec) (now window : Nat) : AlarmRec :=
  match r.state with
  | .activeUnack => { r with raiseCount := min (r.raiseCount + 1) 255, lastRaised := now }
  | .activeAck =>
    { r with state := .activeUnack, ackBy := none, raiseCount := min (r.raiseCount + 1) 255, lastRaised := now }
  | .clearedUnack =>
    let run := r.nextRun now window
    let cls := if r.rises run then r.cls.risen else r.cls
    { r with
      state := .activeUnack
      raiseCount := min (r.raiseCount + 1) 255
      lastRaised := now
      repeatRun := run
      cls := cls
      shelf := if r.rises run && decide (cls = .stop) then none else r.shelf }

/-- A clear of a held record: none when it retires (R141). -/
def AlarmRec.clearedAt (r : AlarmRec) (now : Nat) : Option AlarmRec :=
  match r.state with
  | .activeUnack => some { r with state := .clearedUnack, lastCleared := some now }
  | .activeAck => none
  | .clearedUnack => some r

/-! ### A full table (R145–R147) -/

/-- The earlier of two candidates for eviction: earliest last cleared, then lowest slot (R145). -/
def olderCleared (best : Option (Nat × Nat)) (i t : Nat) : Option (Nat × Nat) :=
  match best with
  | none => some (i, t)
  | some (j, u) => if t < u then some (i, t) else some (j, u)

/-- The CLEARED UNACK record of a class that eviction takes, in the cells from number `i` on (R145). -/
def evictable (cls : AlarmClass) : Nat → List (Option AlarmRec) → Option (Nat × Nat) → Option (Nat × Nat)
  | _, [], best => best
  | i, o :: rest, best =>
    match o with
    | some r =>
      if r.state = .clearedUnack ∧ r.cls = cls then
        evictable cls (i + 1) rest (olderCleared best i (r.lastCleared.getD 0))
      else evictable cls (i + 1) rest best
    | none => evictable cls (i + 1) rest best

/-- The slot eviction frees: a NOTICE record, failing any a WARN record; slot 47 stays reserved (R135, R145). -/
def Alarms.evictSlot (a : Alarms) : Option Nat :=
  match evictable .notice 0 (a.slots.cells.take 47) none with
  | some (i, _) => some i
  | none => (evictable .warn 0 (a.slots.cells.take 47) none).map Prod.fst

/-- Where a new record of a key goes: slot 47 for ALARM TABLE FULL, else the lowest EMPTY slot, else for a TRIP or STOP
code the slot eviction frees (R135, R145). -/
def Alarms.slotForNew (a : Alarms) (key : AlarmKey) : Option Nat :=
  if key = fullKey then some 47
  else
    match a.freeSlot with
    | some i => some i
    | none =>
      match baseClass key.code with
      | .trip => a.evictSlot
      | .stop => a.evictSlot
      | .warn => none
      | .notice => none

/-- A raise of a key, and whether it is stored (R140, R141, R145). -/
def Alarms.raiseRecord (a : Alarms) (now window : Nat) (key : AlarmKey) : Alarms × Bool :=
  match a.slotOf key with
  | some _ => (a.onRecord key fun r => some (r.raised now window), true)
  | none =>
    match a.slotForNew key with
    | some i => (a.setSlot i (some (AlarmRec.fresh key now)), true)
    | none => (a, false)

/-- The late-recording order: base class, then code, then number (R147). -/
def Condition.recordedBefore (c d : Condition) : Bool :=
  decide ((baseClass c.key.code).rank < (baseClass d.key.code).rank) ||
    (decide ((baseClass c.key.code).rank = (baseClass d.key.code).rank) && keyBefore c.key d.key)

/-- Insert a condition in the late-recording order. -/
def insertLate (c : Condition) : List Condition → List Condition
  | [] => [c]
  | d :: ds => if c.recordedBefore d then c :: d :: ds else d :: insertLate c ds

/-- The unrecorded true conditions in the late-recording order (R147, R150). -/
def Alarms.unrecordedInOrder (a : Alarms) : List Condition :=
  (a.conditions.filter fun c => c.unrecorded).foldr insertLate []

/-- Record one unrecorded condition late, if a slot from 0 to 46 is free (R147). -/
def Alarms.recordLate (a : Alarms) (c : Condition) : Alarms :=
  match a.freeSlot with
  | some i =>
    { a.setSlot i (some (AlarmRec.fresh c.key c.since)) with
      conditions := a.conditions.map fun d => if d.key = c.key then { d with unrecorded := false } else d }
  | none => a

/-- The clear of a key's record and truth, without what a freed slot brings. -/
def Alarms.clearBare (a : Alarms) (now : Nat) (key : AlarmKey) : Alarms :=
  (a.dropCondition key).onRecord key fun r => r.clearedAt now

/-- ALARM TABLE FULL becomes false at the change that leaves no key unrecorded (R146). -/
def Alarms.fullFollows (a : Alarms) (now : Nat) : Alarms :=
  if a.isTrue fullKey && !a.anyUnrecorded then a.clearBare now fullKey else a

/-- What a retirement brings: late recording into the free slots, then the truth of ALARM TABLE FULL (R146, R147). -/
def Alarms.afterRetirement (a : Alarms) (now : Nat) : Alarms :=
  (a.unrecordedInOrder.foldl Alarms.recordLate a).fullFollows now

/-! ### Conditions and events (R136, R146) -/

/-- A condition key becomes true: its raise, its since and, when it is not stored, the mark of unrecorded with the raise
of ALARM TABLE FULL (R136, R145, R146). -/
def Alarms.raiseCondition (a : Alarms) (now window : Nat) (key : AlarmKey) : Alarms :=
  let (b, stored) := a.raiseRecord now window key
  let c := { b with conditions := insertCondition ⟨key, now, !stored⟩ b.conditions }
  if stored || c.isTrue fullKey then c
  else
    let d := (c.raiseRecord now window fullKey).1
    { d with conditions := insertCondition ⟨fullKey, now, false⟩ d.conditions }

/-- A condition key becomes false (R136, R141, R146, R147). -/
def Alarms.clearCondition (a : Alarms) (now : Nat) (key : AlarmKey) : Alarms :=
  (a.clearBare now key).afterRetirement now

/-- A raise and clear of a key in one change, on its record alone: the clear does not end a condition of the key that is
true (R136). -/
def Alarms.raiseAndClear (a : Alarms) (now window : Nat) (key : AlarmKey) : Alarms :=
  let b := (a.raiseRecord now window key).1
  if b.isTrue key then b else b.onRecord key fun r => r.clearedAt now

/-- An event that is not stored: the count of lost events, and the raise of ALARM TABLE FULL (R146). -/
def Alarms.loseEvent (a : Alarms) (now window : Nat) : Alarms :=
  { a with lostEvents := min (a.lostEvents + 1) 65535 }.raiseAndClear now window fullKey

/-- An event raise, with the class it acts with: its record's after the raise, or the base class when it could not be
stored (R136, R140, R146). -/
def Alarms.raiseEvent (a : Alarms) (now window : Nat) (key : AlarmKey) : Alarms × AlarmClass :=
  let (b, stored) := a.raiseRecord now window key
  if stored then
    (if b.isTrue key then b else b.onRecord key fun r => r.clearedAt now, b.effectiveClass key)
  else (a.loseEvent now window, baseClass key.code)

/-! ### Class effects in force (R138, R139) -/

/-- A true condition of effective class TRIP. -/
def Alarms.isTripCondition (a : Alarms) (c : Condition) : Bool := decide (a.effectiveClass c.key = .trip)

/-- The trip effect is in force (R138). -/
def Alarms.tripInForce (a : Alarms) : Bool := a.conditions.any a.isTripCondition

/-- The motions a key of effective class STOP affects as a stop: by its code, or every dig motion and the walk for a code
that names none (R137, R139). CAB LINK LOST is no stop for the walk. -/
def stopAffects (key : AlarmKey) (m : Motion) : Bool :=
  match key.code with
  | 2 => !decide (m = .walk)
  | 6 => decide (key.num = m.number)
  | 8 => decide (key.num = m.number)
  | 19 => decide (m = .walk)
  | _ => true

/-- A true condition of effective class STOP that affects the motion. -/
def Alarms.isStopCondition (a : Alarms) (m : Motion) (c : Condition) : Bool :=
  decide (a.effectiveClass c.key = .stop) && stopAffects c.key m

/-- The stop effect for a dig motion or for the walk is in force (R139). -/
def Alarms.stopInForce (a : Alarms) (m : Motion) : Bool := a.conditions.any (a.isStopCondition m)

/-! ### Acknowledgement, shelves, announcement -/

/-- ACKNOWLEDGE of a held record; none when it retires (R143). -/
def AlarmRec.acknowledged (r : AlarmRec) (p : Port) : Option AlarmRec :=
  match r.state with
  | .activeUnack => some { r with state := .activeAck, ackBy := some p }
  | .activeAck => some r
  | .clearedUnack => none

/-- The bit of a class in a class mask (R175). -/
def Announce.masks (n : Announce) (cls : AlarmClass) : Bool := n.mask.getLsbD cls.rank

/-- The record is unacknowledged, unshelved and of a class in the mask (R149). -/
def AlarmRec.asksNotice (r : AlarmRec) (n : Announce) : Bool :=
  !decide (r.state = .activeAck) && r.shelf.isNone && n.masks r.cls

/-- A port's attention line by the table (R149). -/
def Alarms.attention (a : Alarms) (p : Port) : Bool :=
  (a.announce.get p).announcing &&
    a.slots.cells.any fun o =>
      match o with
      | some r => r.asksNotice (a.announce.get p)
      | none => false

/-- A port's attention line: down while the part does not run (R149, R160, R180). -/
def State.attentionLine (s : State) (p : Port) : Bool := s.isRunning && s.alarms.attention p

/-- One count of a shelf: a minute less, and unshelved at the count that would take it to 0 (R144). -/
def AlarmRec.shelfCounted (r : AlarmRec) : AlarmRec :=
  match r.shelf with
  | none => r
  | some h => { r with shelf := if h.minutes ≤ 1 then none else some ⟨h.minutes - 1, 60000⟩ }

/-- The number of records held (R150). -/
def Alarms.held (a : Alarms) : Nat := a.slots.cells.countP Option.isSome

/-! ### On the state -/

/-- The truth of a key in the condition set. -/
def State.isTrue (s : State) (key : AlarmKey) : Bool := s.alarms.isTrue key

/-- The trip effect is in force (R138). -/
def State.tripInForce (s : State) : Bool := s.alarms.tripInForce

/-- The stop effect for a motion is in force (R139). -/
def State.stopInForce (s : State) (m : Motion) : Bool := s.alarms.stopInForce m

/-- A condition becomes false; an effect that ends changes no record (R138). -/
def State.clearCondition (s : State) (key : AlarmKey) : State :=
  if s.isTrue key then { s with alarms := s.alarms.clearCondition s.now key } else s

end Sys2Proof.Machine
end

