-- ==== Sys2Proof/Machine/GenOps.lean ====
section
/-! DEFINITION. The contactor sequencer's operations on one generator record (04): the steps of a move and their ends,
hand-over, return, withdrawal, the trip, stray and lost proofs, service requests and the proof checks. Each operation that
can raise CONTACTOR NO PROOF as an event answers whether it does. -/

namespace Sys2Proof.Machine

/-- A generator record after an operation, and whether CONTACTOR NO PROOF is raised as an event with it (R70). -/
structure GenResult where
  gen : Gen
  noProof : Bool
  deriving DecidableEq, Repr

/-- An operation that raises no event. -/
def Gen.quiet (g : Gen) : GenResult := ⟨g, false⟩

/-- The lock-out cause that a pending lock-out becomes (R64). -/
def causeOf : PendingCause → LockCause
  | .service => .service
  | .withdrawn => .withdrawn

/-- The loops that show closure proof, in number order. -/
def provenLoops (p : PerMotion Bool) : List Motion := Motion.all.filter p.get

/-- FREE, or LOCKED OUT with the pending cause, at an opening that ends with target OPEN (R56, R64). -/
def openedTo (pending : Option PendingCause) : GenState :=
  match pending with
  | none => .free
  | some c => .lockedOut (causeOf c) none

/-- Begin an OPENING step on a loop with holder none and target OPEN; it ends at once if the proof is already absent
(R56). -/
def openOut (k : Constants) (p : PerMotion Bool) (loop : Motion) (pending : Option PendingCause) (attempts : Nat) : Gen :=
  if p.get loop then
    ⟨.moving { holder := none, step := .opening, on := loop, loop := some loop, target := none, afterFail := .no,
               lockPending := pending, keepTrying := false, seq := 0, timer := some k.contactorProofTime }, attempts⟩
  else ⟨openedTo pending, attempts⟩

/-- Begin a CLOSING step of a move with a holder and no lock-out pending; it ends GRANTED at once if the proof is already
present (R57). -/
def beginClose (k : Constants) (p : PerMotion Bool) (v : Move) (holder target : Motion) (attempts : Nat) : Gen :=
  if p.get target then ⟨.granted holder, attempts⟩
  else
    ⟨.moving { v with step := .closing, on := target, loop := none, target := some target, afterFail := .no,
                      timer := some k.contactorProofTime }, attempts⟩

/-- What a failed close makes of its attempts, by the constants in force at that moment (R58, R59, R67). -/
def afterFailedClose (k : Constants) (attempts : Nat) : AfterFail :=
  if k.transferAttempts ≤ attempts then
    match k.attemptPolicy with
    | .lockOut => .lockOut
    | .keepTrying => .keepTrying
  else .again

/-- The end of the opening that follows a failed close, by what that close made of its attempts (R58, R59, R61, R64, R67).
Under LOCK OUT the cause is NO PROOF even with a lock-out pending (log entry 15). -/
def endFailed (k : Constants) (p : PerMotion Bool) (v : Move) (attempts : Nat) : GenResult :=
  if v.afterFail = .lockOut then ⟨⟨.lockedOut .noProof none, attempts⟩, true⟩
  else
    match v.lockPending, v.holder with
    | none, some h =>
      (beginClose k p { v with keepTrying := decide (v.afterFail = .keepTrying) } h v.on attempts).quiet
    | pending, _ => Gen.quiet ⟨openedTo pending, attempts⟩

/-- Drop-out proof in an OPENING step (R56, R58, R61, R62, R64). -/
def dropOut (k : Constants) (p : PerMotion Bool) (v : Move) (attempts : Nat) : GenResult :=
  if v.afterFail ≠ .no then endFailed k p v attempts
  else
    match v.lockPending, v.holder, v.target with
    | none, some h, some t => (beginClose k p v h t attempts).quiet
    | pending, _, _ => Gen.quiet ⟨openedTo pending, attempts⟩

/-- Closure proof in a CLOSING step (R57). -/
def closure (k : Constants) (p : PerMotion Bool) (now : Nat) (v : Move) (attempts : Nat) : Gen :=
  match v.lockPending, v.holder with
  | some c, _ => openOut k p v.on (some c) attempts
  | none, some h => ⟨.granted h, attempts⟩
  | none, none =>
    match k.parkPolicy with
    | .parkLast => ⟨.parked v.on now, attempts⟩
    | .openContactor => openOut k p v.on none attempts

/-- The proof time of a CLOSING step ends without closure proof: the coil drops, attempts counts up and the opening on the
target begins, ending at once if its proof is absent (R58). The constants are read here, and not at the end of that
opening (R67, log entry 16). -/
def failedClose (k : Constants) (p : PerMotion Bool) (g : Gen) : GenResult :=
  match g.st with
  | .moving v =>
    match v.step with
    | .closing =>
      let attempts := min (g.attempts + 1) k.transferAttempts
      let w := { v with step := .opening, loop := none, afterFail := afterFailedClose k attempts,
                        timer := some k.contactorProofTime }
      if p.get v.on then Gen.quiet ⟨.moving w, attempts⟩ else endFailed k p w attempts
    | .opening => g.quiet
  | _ => g.quiet

/-- The proof time of an OPENING step ends without drop-out proof: the contacts are welded (R56). -/
def weldedAtTimeEnd (g : Gen) : Gen :=
  match g.st with
  | .moving v =>
    match v.step with
    | .opening => { g with st := .lockedOut .welded (some v.on) }
    | .closing => g
  | _ => g

/-- A closure proof that appears on a loop (R57, R63). -/
def proofAppears (k : Constants) (p : PerMotion Bool) (now : Nat) (loop : Motion) (g : Gen) : GenResult :=
  match g.st with
  | .free => Gen.quiet { g with st := .lockedOut .welded (some loop) }
  | .parked l _ => if l = loop then g.quiet else Gen.quiet { g with st := .lockedOut .welded (some loop) }
  | .granted h => if h = loop then g.quiet else Gen.quiet { g with st := .lockedOut .welded (some loop) }
  | .moving v =>
    if v.on = loop then
      match v.step with
      | .closing => (closure k p now v g.attempts).quiet
      | .opening => g.quiet
    else Gen.quiet { g with st := .lockedOut .welded (some loop) }
  | .noRecord => g.quiet
  | .lockedOut _ _ => g.quiet

/-- A closure proof that goes absent on a loop (R56, R58, R63). -/
def proofLost (k : Constants) (p : PerMotion Bool) (loop : Motion) (g : Gen) : GenResult :=
  match g.st with
  | .parked l _ => if l = loop then ⟨{ g with st := .free }, true⟩ else g.quiet
  | .granted h => if h = loop then ⟨{ g with st := .lockedOut .noProof none }, true⟩ else g.quiet
  | .moving v =>
    if v.on = loop then
      match v.step with
      | .opening => dropOut k p v g.attempts
      | .closing => g.quiet
    else g.quiet
  | .free => g.quiet
  | .noRecord => g.quiet
  | .lockedOut _ _ => g.quiet

/-- A hand-over to a motion (R55); `seq` is its place in the order of hand-overs. -/
def handOver (k : Constants) (p : PerMotion Bool) (m : Motion) (seq : Nat) (g : Gen) : Gen :=
  let v : Move :=
    { holder := some m, step := .opening, on := m, loop := none, target := some m, afterFail := .no,
      lockPending := none, keepTrying := false, seq := seq, timer := some k.contactorProofTime }
  match g.st with
  | .free => beginClose k p v m m 0
  | .parked l _ =>
    if l = m then { g with st := .granted m }
    else if p.get l then ⟨.moving { v with on := l, loop := some l }, 0⟩
    else beginClose k p v m m 0
  | .noRecord => g
  | .moving _ => g
  | .granted _ => g
  | .lockedOut _ _ => g

/-- The return of a GRANTED generator (R60). Under OPEN a new move begins, so attempts is 0 (R57). -/
def returned (k : Constants) (p : PerMotion Bool) (now : Nat) (g : Gen) : Gen :=
  match g.st with
  | .granted h =>
    match k.parkPolicy with
    | .parkLast => { g with st := .parked h now }
    | .openContactor => openOut k p h none 0
  | _ => g

/-- The withdrawal of a motion's claim (R61). -/
def withdrawn (m : Motion) (g : Gen) : Gen :=
  match g.st with
  | .moving v => if v.holder = some m then { g with st := .moving { v with holder := none } } else g
  | _ => g

/-- The withdrawal of a failing claim alone (R74, R75). -/
def withdrawnFailing (m : Motion) (g : Gen) : Gen := if g.isFailingClaimOf m then withdrawn m g else g

/-- The trip on one generator (R62). DESIGN CHOICE, unsafe: a CLOSING step whose proof is absent when its coil drops has an
opening that ends at once (R56), so the generator is FREE, or LOCKED OUT with the pending cause, in the same change; a
closure proof that comes later is a stray proof (R63) and not a slow opening (log entry 43). -/
def trippedMove (k : Constants) (p : PerMotion Bool) (g : Gen) : Gen :=
  match g.st with
  | .moving v =>
    match v.step with
    | .opening => { g with st := .moving { v with holder := none, target := none, afterFail := .no } }
    | .closing =>
      if p.get v.on then
        { g with st := .moving { v with holder := none, step := .opening, target := none, afterFail := .no,
                                        timer := some k.contactorProofTime } }
      else { g with st := openedTo v.lockPending }
  | _ => g

/-- Lock-out pending on a move; a claim ends with it (R64). -/
def Move.pendLockOut (v : Move) (c : PendingCause) : Move := { v with lockPending := some c, holder := none }

/-- LOCK OUT GENERATOR, with its answer (R64). -/
def lockedOutBy (k : Constants) (p : PerMotion Bool) (g : Gen) : Gen × Status × Reason :=
  match g.st with
  | .free => ({ g with st := .lockedOut .service none }, .done, .none)
  | .parked l _ => (openOut k p l (some .service) 0, .accepted, .none)
  | .moving v =>
    match v.lockPending with
    | none => ({ g with st := .moving (v.pendLockOut .service) }, .accepted, .none)
    | some _ => (g, .accepted, .none)
  | .granted _ => (g, .refused, .granted)
  | .lockedOut _ _ => (g, .refused, .state)
  | .noRecord => (g, .notFitted, .none)

/-- RETURN GENERATOR, with its answer (R65). DESIGN CHOICE, safe: cause WITHDRAWN is tested before the closure proofs, so a
WITHDRAWN generator that shows one is refused with reason STATE (log entry 42). -/
def returnedToService (p : PerMotion Bool) (g : Gen) : Gen × Status × Reason :=
  match g.st with
  | .lockedOut cause _ =>
    if cause = .withdrawn then (g, .refused, .state)
    else if (provenLoops p).isEmpty then (⟨.free, 0⟩, .done, .none)
    else (g, .refused, .condition)
  | .free => (g, .refused, .state)
  | .parked _ _ => (g, .refused, .state)
  | .moving _ => (g, .refused, .state)
  | .granted _ => (g, .refused, .state)
  | .noRecord => (g, .notFitted, .none)

/-- PARK MACHINE on one generator (R66). -/
def parkMachineOne (k : Constants) (p : PerMotion Bool) (g : Gen) : Gen :=
  match g.st with
  | .parked l _ => openOut k p l none 0
  | _ => g

/-- PARKED (R53). -/
def Gen.isParked (g : Gen) : Bool :=
  match g.st with
  | .parked _ _ => true
  | _ => false

/-- A generator added to the withdrawn set (R67). -/
def addedToWithdrawn (k : Constants) (p : PerMotion Bool) (g : Gen) : Gen :=
  match g.st with
  | .free => { g with st := .lockedOut .withdrawn none }
  | .lockedOut _ loop => { g with st := .lockedOut .withdrawn loop }
  | .parked l _ => openOut k p l (some .withdrawn) 0
  | .moving v => { g with st := .moving (v.pendLockOut .withdrawn) }
  | .granted _ => g
  | .noRecord => g

/-- A generator removed from the withdrawn set (R67). -/
def removedFromWithdrawn (p : PerMotion Bool) (g : Gen) : Gen :=
  match g.st with
  | .lockedOut .withdrawn loop =>
    if (provenLoops p).isEmpty then { g with st := .free } else { g with st := .lockedOut .welded loop }
  | .moving v => if v.lockPending = some .withdrawn then { g with st := .moving { v with lockPending := none } } else g
  | _ => g

/-- The proof check of a generator of the fitted set, with the lock-out pending that it keeps (R68, R69). -/
def proofChecked (k : Constants) (p : PerMotion Bool) (isWithdrawn : Bool) (pending : Option PendingCause) : Gen :=
  match isWithdrawn, provenLoops p with
  | true, loops => ⟨.lockedOut .withdrawn loops.head?, 0⟩
  | false, [] => ⟨openedTo pending, 0⟩
  | false, [l] => openOut k p l pending 0
  | false, l :: _ :: _ => ⟨.lockedOut .welded (some l), 0⟩

/-- The lock-out pending of a generator (04, the generator record). -/
def Gen.lockPending (g : Gen) : Option PendingCause :=
  match g.st with
  | .moving v => v.lockPending
  | _ => none

/-- A generator still MOVING after the check keeps the truth of CONTACTOR NO PROOF until it leaves MOVING (R69). -/
def Gen.stillTrying (old new : Gen) : Gen :=
  match new.st with
  | .moving v =>
    { new with st := .moving { v with keepTrying := match old.st with
      | .moving w => w.keepTrying
      | _ => false } }
  | _ => new

/-- The check at a holdup return: a LOCKED OUT generator keeps its cause and its loop (R69). -/
def checkedAtReturn (k : Constants) (p : PerMotion Bool) (isWithdrawn : Bool) (g : Gen) : Gen :=
  match g.st with
  | .noRecord => g
  | .lockedOut _ _ => g
  | _ => g.stillTrying (proofChecked k p isWithdrawn g.lockPending)

/-! ### Conditions of the table (R70) -/

/-- CONTACTOR NO PROOF as a condition (R59, R70). -/
def Gen.keepsTrying (g : Gen) : Bool :=
  match g.st with
  | .moving v => v.keepTrying
  | _ => false

/-- CONTACTOR WELDED: LOCKED OUT with closure proof present; every coil of a LOCKED OUT generator is off (R70). -/
def Gen.showsWeld (p : PerMotion Bool) (g : Gen) : Bool := g.isLockedOut && !(provenLoops p).isEmpty

/-! ### On the state -/

/-- The generator numbers. -/
def gensAll : List (Fin 12) := List.finRange 12

/-- The proof inputs of a generator. -/
def State.proofs (s : State) (g : Fin 12) : PerMotion Bool := s.inputs.proof.get g

/-- Change one generator record. -/
def State.onGen (s : State) (g : Fin 12) (f : Gen → Gen) : State := { s with gens := s.gens.set g (f (s.gens.get g)) }

/-- Change every generator record by an operation that reads its proof inputs. -/
def State.onGens (s : State) (f : PerMotion Bool → Gen → Gen) : State :=
  { s with gens := ⟨List.zipWith f s.inputs.proof.cells s.gens.cells, by
      rw [List.length_zipWith, s.inputs.proof.size, s.gens.size]; rfl⟩ }

/-- Return every generator GRANTED to a motion, all in one change (R80). -/
def State.returnAll (s : State) (m : Motion) : State :=
  s.onGens fun p g => if g.isGrantedTo m then returned s.k p s.now g else g

/-- Withdraw every claim of a motion (R74). -/
def State.withdrawAll (s : State) (m : Motion) : State := s.onGens fun _ g => withdrawn m g

/-- Withdraw every failing claim of a motion (R74, R75). -/
def State.withdrawFailing (s : State) (m : Motion) : State := s.onGens fun _ g => withdrawnFailing m g

end Sys2Proof.Machine
end

