-- ==== Sys2Proof/Machine/Brakes.lean ====
section
/-! DEFINITION. The operations on one drum brake that the dig motions and the walk share (R92–R94, R118), and the record
changes of a motion: release, trip, stop, lock, and the class effects on one motion (06). -/

namespace Sys2Proof.Machine

/-! ### A brake -/

/-- The output drops: SETTING, with the brake proof time beginning and stop wait absent (R93, R94). A brake dropped from
RELEASING waits for that time for a release proof that may still come (R93, log entry 44). -/
def Brake.dropped (b : Brake) (k : Constants) (afterTimeout : Bool) : Brake :=
  match b.state with
  | .set => b
  | .setting => b
  | .releasing => ⟨.setting, some k.brakeProofTime, none, none, afterTimeout, some k.brakeProofTime⟩
  | .released => ⟨.setting, some k.brakeProofTime, none, none, afterTimeout, none⟩

/-- The output is energized: RELEASING, with the brake proof time beginning (R93). -/
def Brake.lifted (k : Constants) : Brake := ⟨.releasing, some k.brakeProofTime, none, none, false, none⟩

/-- The set proof (R94). -/
def Brake.provenSet (b : Brake) : Brake := { b with state := .set, proofTimer := none, afterTimeout := false }

/-- The release proof (R93). -/
def Brake.provenReleased (b : Brake) : Brake := { b with state := .released, proofTimer := none }

/-- A brake that lifted without command goes to SETTING as though its proof time had run (R94). -/
def Brake.liftedAlone (b : Brake) : Brake :=
  { b with state := .setting, proofTimer := none, afterTimeout := false, late := none }

/-- A late release proof: the setting goes on, for what is left of its proof time (R93, R117, log entry 44). -/
def Brake.settingAgain (b : Brake) : Brake := { b with state := .setting, proofTimer := b.late, late := none }

/-- The stop wait begins, if it has not (R94, log entry 22). -/
def Brake.waiting (b : Brake) (k : Constants) (now : Nat) : Brake :=
  match b.stopWait with
  | some _ => b
  | none => { b with stopWait := some now, stopTimer := some (k.stopTimeout * 1000) }

/-- The stop wait ends with the brake still RELEASED (R94). -/
def Brake.unwaiting (b : Brake) : Brake := { b with stopWait := none, stopTimer := none }

/-- One change of a brake by its terms: RELEASING is dropped when they cease; RELEASED waits for the drum to stop and is
then set (R93, R94, R118). -/
def Brake.follow (b : Brake) (k : Constants) (now : Nat) (terms stopped : Bool) : Brake :=
  match b.state with
  | .set => b
  | .setting => b
  | .releasing => if terms then b else b.dropped k false
  | .released =>
    if terms then b.unwaiting
    else if stopped then b.dropped k false
    else b.waiting k now

/-- The brake at holdup entry: SET stays, any other becomes SETTING with its proof time stopped (R111, R133). -/
def Brake.atEntry (b : Brake) : Brake :=
  match b.state with
  | .set => Brake.cold
  | .releasing => ⟨.setting, none, none, none, false, none⟩
  | .released => ⟨.setting, none, none, none, false, none⟩
  | .setting => ⟨.setting, none, none, none, false, none⟩

/-- A full brake proof time begins (R111, R134). -/
def Brake.timed (b : Brake) (k : Constants) : Brake := { b with proofTimer := some k.brakeProofTime }

/-- The brake at a cold start, by its proof at the first reading (R110, R132). -/
def Brake.atStart (k : Constants) (showsReleased : Bool) : Brake :=
  if showsReleased then ⟨.setting, some k.brakeProofTime, none, none, false, none⟩ else Brake.cold

/-! ### A dig motion record -/

/-- Entry to RELEASING (R99). The claims are withdrawn and the brake acts in the same change, by the rules that follow
the record. -/
def MotionRec.released (r : MotionRec) (c : Complement) : MotionRec :=
  { r with state := .releasing, demand := none, complement := c, permit := none, holdReason := none, reversal := false }

/-- What a trip, a stop and the lock have in common (R101, R102, R106). -/
def MotionRec.cleared (r : MotionRec) : MotionRec :=
  { r with demand := none, permit := none, holdReason := none, reversal := false, holdStart := none, holdTimer := none }

/-- The cause of a motion already TRIPPED: replaced by a trip when it was a stop (R103). -/
def causeAfterTrip (old : Option Cause) (new : Cause) : Option Cause :=
  match old with
  | some c => if c.cls = .stop then some new else some c
  | none => some new

/-- The trip on a dig motion (R101, R103). -/
def MotionRec.tripped (r : MotionRec) (k : Constants) (c : Cause) : MotionRec :=
  { r.cleared with
    state := .tripped
    brake := { r.brake.dropped k false with stopWait := none, stopTimer := none }
    tripCause := if r.state = .tripped then causeAfterTrip r.tripCause c else some c }

/-- The stop on a dig motion (R102, R103). The brake acts by the rules that follow the record. -/
def MotionRec.stoppedBy (r : MotionRec) (c : Cause) : MotionRec :=
  if r.state = .tripped then r else { r.cleared with state := .tripped, tripCause := some c }

/-- Entry to LOCKED (R106). -/
def MotionRec.locked (r : MotionRec) : MotionRec :=
  { r.cleared with state := .locked, brake := r.brake.unwaiting }

/-- The dig motion at holdup entry (R110, R111). -/
def MotionRec.atEntry (r : MotionRec) (c : Cause) : MotionRec :=
  { r.cleared with
    state := .tripped
    brake := r.brake.atEntry
    tripCause := if r.state = .tripped then r.tripCause else some c }

/-- A dig motion that leaves LOCKED at the end of a walk (R106). -/
def MotionRec.unlocked (r : MotionRec) : MotionRec := if r.state = .locked then { r with state := .idle } else r

/-- The terms of a dig motion's release hold beginning: RELEASING, its brake SET, no hold yet (R81, R99). -/
def MotionRec.holdDue (r : MotionRec) : Bool :=
  decide (r.state = .releasing) && decide (r.brake.state = .set) && r.holdStart.isNone

/-- A hold that has begun waits for the set proof again (R99, log entry 44). -/
def MotionRec.holdPutOff (r : MotionRec) : MotionRec := { r with holdStart := none, holdTimer := none }

/-- The motion becomes IDLE at the end of a hold (R81, R100). -/
def MotionRec.idled (r : MotionRec) : MotionRec := { r with state := .idle, holdStart := none, holdTimer := none }

/-! ### On the state -/

/-- Change every dig motion record. -/
def State.onMotions (s : State) (f : MotionRec → MotionRec) : State := { s with motions := s.motions.map f }

/-- Proven is at or above the motion's minimum complement (R91, R95). -/
def State.leased (s : State) (m : Motion) : Bool := decide (s.k.minimumComplement.get m ≤ s.proven m)

/-- The permission in force grants a direction, and for SWING the lookahead permission too (R92). -/
def State.granted (s : State) (m : Dig) (d : Dir) : Bool :=
  grants (s.res.force.codes.get m) d && (decide (m ≠ .swing) || grants s.res.look.code d)

/-- The run condition of a dig motion for its demand direction (R92). -/
def State.runs (s : State) (m : Dig) : Bool :=
  let r := s.motions.get m
  match r.demand with
  | none => false
  | some d => decide (r.state = .ready) && !r.reversal && s.granted m d

/-- The brake proof input of a motion shows released (R92). -/
def State.showsReleased (s : State) (m : Motion) : Bool := s.inputs.brakeProof.get m

/-- End a motion's release hold with its generators returned (R80, R81, R100). -/
def State.endHold (s : State) (m : Dig) : State := (s.returnAll m.motion).onMotion m MotionRec.idled

/-- The beginning of a release hold: a motion that has nothing to keep, and a hold of 0 s, end at once (R81, R99). -/
def State.beginHold (s : State) (m : Dig) : State :=
  if s.proven m.motion = 0 then s.onMotion m MotionRec.idled
  else if s.k.releaseHold = 0 then s.endHold m
  else s.onMotion m fun r => { r with holdStart := some s.now, holdTimer := some (s.k.releaseHold * 1000) }

/-! ### The dig motions follow what they are composed of -/

/-- Reversal pending is cleared when the drum is stopped, and outside ACQUIRING, READY and RELEASING (R90). -/
def State.reversalPass (s : State) (m : Dig) : State :=
  s.onMotion m fun r => if s.stopped m.motion then { r with reversal := false } else r

/-- ACQUIRING and READY by the proven count (R91). -/
def State.readyPass (s : State) (m : Dig) : State :=
  s.onMotion m fun r =>
    match r.state with
    | .acquiring => if s.leased m.motion then { r with state := .ready } else r
    | .ready => if s.leased m.motion then r else { r with state := .acquiring }
    | .idle => r
    | .releasing => r
    | .tripped => r
    | .locked => r

/-- A dig brake follows the run condition (R93, R94). -/
def State.brakePass (s : State) (m : Dig) : State :=
  s.onMotion m fun r => { r with brake := r.brake.follow s.k s.now (s.runs m) (s.stopped m.motion) }

/-- A dig brake step ends when its proof shows the level it waits for; the set proof clears BRAKE NOT SET, and reversal
pending if it followed a stop timeout (R92–R94). DESIGN CHOICE, unsafe: R92 ends a SETTING step at once when the proof
shows set, and R93 has a release proof that comes after the drop waited out as part of the setting; the model ends the
step at once and takes up the setting again at a late release proof (log entry 44). -/
def State.proofPass (s : State) (m : Dig) : State :=
  let r := s.motions.get m
  match r.brake.state with
  | .setting =>
    if s.showsReleased m.motion then s
    else
      (s.onMotion m fun r =>
        { r with reversal := r.reversal && !r.brake.afterTimeout, brake := r.brake.provenSet }).clearCondition
          ⟨9, m.motion.number⟩
  | .releasing => if s.showsReleased m.motion then s.onMotion m fun r => { r with brake := r.brake.provenReleased } else s
  | .set => s
  | .released => s

/-- What a dig motion does with its brake SET: release it under the run condition, begin its release hold, or return what
it holds TRIPPED (R81, R93, R104). -/
def State.restPass (s : State) (m : Dig) : State :=
  let r := s.motions.get m
  if r.brake.state = .set then
    if s.runs m then s.onMotion m fun r => { r with brake := Brake.lifted s.k }
    else if r.holdDue then s.beginHold m
    else if r.state = .tripped then s.returnAll m.motion
    else s
  else s

/-- One dig motion follows what it is composed of, in one change (R90–R94, R99, R104). -/
def State.motionPass (s : State) (m : Dig) : State :=
  ((((s.reversalPass m).readyPass m).brakePass m).proofPass m).restPass m

/-- The dig motions in number order (log entry 37). -/
def State.motionsPass (s : State) : State := ((s.motionPass .hoist).motionPass .drag).motionPass .swing

/-! ### Permits and hold reasons (R95, R96) -/

/-- The permit of a dig motion (R95). -/
def State.permitOf (s : State) (m : Dig) : Option Dir :=
  let r := s.motions.get m
  if s.runs m && decide (r.brake.state = .released) && s.leased m.motion && !s.tripInForce then r.demand else none

/-- Why a permission that does not grant holds the motion (R96, orders 3 to 6). -/
def heldBy (source : Source) (other : HoldReason) : HoldReason := if source = .held then .resolving else other

/-- The hold reason of a dig motion with its permit NONE (R96). -/
def State.reasonOf (s : State) (m : Dig) (d : Dir) : Option HoldReason :=
  let r := s.motions.get m
  if !s.leased m.motion then some .lease
  else if r.reversal then some .reversal
  else if !grants (s.res.force.codes.get m) d then some (heldBy s.res.force.source .zone)
  else if decide (m = .swing) && !grants s.res.look.code d then some (heldBy s.res.look.source .lookahead)
  else if r.brake.state = .released then none
  else some .brake

/-- The hold reason field (R96). -/
def State.holdReasonOf (s : State) (m : Dig) : Option HoldReason :=
  let r := s.motions.get m
  if (r.state = .acquiring ∨ r.state = .ready) ∧ s.permitOf m = none then
    match r.demand with
    | some d => s.reasonOf m d
    | none => none
  else none

/-- The permit and hold reason of one motion record follow their terms (R95, R96). -/
def State.composed (s : State) (m : Dig) (r : MotionRec) : MotionRec :=
  { r with permit := s.permitOf m, holdReason := s.holdReasonOf m }

/-- The permits and hold reasons of the dig motions (R95, R96). -/
def State.composeDigs (s : State) : State :=
  { s with motions := ⟨s.composed .hoist s.motions.hoist, s.composed .drag s.motions.drag,
                       s.composed .swing s.motions.swing⟩ }

end Sys2Proof.Machine
end

