-- ==== Sys2Proof/Machine/WalkOps.lean ====
section
/-! DEFINITION. The walk sequencer's operations on the walk record (07): ends, finish, halt, interruption, the brake and
permit terms, the set-down proof's terms, and what follows the record in each change. -/

namespace Sys2Proof.Machine

/-! ### The record -/

/-- STEPPING in one of the four timed phases, with no ending (R113, R119). -/
def WalkRec.stepping (w : WalkRec) : Bool :=
  decide (w.state = .stepping) && w.ending.isNone && decide (w.phase ≠ some .dwell)

/-- A walk ends with an outcome (R126). -/
def WalkRec.ended (w : WalkRec) (k : Constants) (o : WalkOutcome) : WalkRec :=
  { w with
    ending := some o
    permit := none
    brake := (w.brake.dropped k false).unwaiting
    prepareTimer := none
    phaseTimer := none
    dwellTimer := none }

/-- A walk finishes with an outcome: the record becomes IDLE (R126). -/
def WalkRec.finished (w : WalkRec) (o : WalkOutcome) : WalkRec :=
  { w with
    state := .idle
    phase := none
    ending := none
    lastOutcome := some o
    haltRequested := false
    interruptCause := none
    permit := none
    prepareTimer := none
    phaseTimer := none
    dwellTimer := none }

/-- A STEPPING walk becomes INTERRUPTED (R128). -/
def WalkRec.interrupted (w : WalkRec) (k : Constants) (c : Cause) : WalkRec :=
  { w with
    state := .interrupted
    permit := none
    brake := (w.brake.dropped k false).unwaiting
    phaseTimer := none
    dwellTimer := none
    interruptCause := some c }

/-- A trip or a stop for the walk in PREPARING or STEPPING with no ending (R128). -/
def WalkRec.stoppedBy (w : WalkRec) (k : Constants) (c : Cause) : WalkRec :=
  if w.ending.isSome then w
  else
    match w.state with
    | .preparing => w.ended k .cancelled
    | .stepping => w.interrupted k c
    | .interrupted => w
    | .idle => w

/-- A trip on the walk: as a stop, and INTERRUPTED it drops the brake output and replaces the cause of a stop (R128). -/
def WalkRec.tripped (w : WalkRec) (k : Constants) (c : Cause) : WalkRec :=
  if w.state = .interrupted ∧ w.ending = none then
    { w with
      brake := (w.brake.dropped k false).unwaiting
      interruptCause := causeAfterTrip w.interruptCause c }
  else w.stoppedBy k c

/-- A halt (R127); `tubOn` is the present level of the tub bearing. -/
def WalkRec.halted (w : WalkRec) (k : Constants) (tubOn : Bool) : WalkRec :=
  if w.ending.isSome then w
  else
    match w.state with
    | .idle => w
    | .preparing => w.ended k .halted
    | .stepping =>
      if w.phase = some .lowerShoes ∧ w.lifted = false ∧ tubOn = true then w.ended k .halted
      else { w with haltRequested := true }
    | .interrupted => { w with haltRequested := true }

/-- A step begins: the phase is entered with its timer, and the marks of the step are cleared (R116, R121, R125). -/
def WalkRec.stepBegun (w : WalkRec) (k : Constants) (p : Phase) : WalkRec :=
  { w with
    state := .stepping
    phase := some p
    lifted := false
    setDownSeen := false
    phaseTimer := some (k.phaseTimeout * 1000) }

/-- The cam index in the walk direction ends the step (R124). -/
def WalkRec.dwelling (w : WalkRec) (k : Constants) : WalkRec :=
  { w with phase := some .dwell, permit := none, brake := (w.brake.dropped k false).unwaiting, phaseTimer := none }

/-- The phase follows the stride position; a new phase begins its timer (R113, R120). -/
def WalkRec.phased (w : WalkRec) (k : Constants) (p : Phase) : WalkRec :=
  if w.phase = some p then w else { w with phase := some p, phaseTimer := some (k.phaseTimeout * 1000) }

/-- The walk record at holdup entry (R133); `c` is SUPPLY LOST. -/
def WalkRec.atEntry (w : WalkRec) (c : Cause) : WalkRec :=
  let b := { w with brake := w.brake.atEntry, permit := none, prepareTimer := none, phaseTimer := none, dwellTimer := none }
  match w.ending with
  | some o => b.finished o
  | none =>
    match w.state with
    | .idle => b
    | .preparing => b.finished .cancelled
    | .stepping => { b with state := .interrupted, interruptCause := some c }
    | .interrupted => b

/-- The distance of two swing angles (R114). -/
def swingDistance (a b : Nat) : Nat := min ((a + 4096 - b) % 4096) ((b + 4096 - a) % 4096)

/-! ### On the state -/

/-- A walk finishes: its generators are returned, the record becomes IDLE and the LOCKED motions become IDLE (R126). -/
def State.walkFinish (s : State) (o : WalkOutcome) : State :=
  ((s.returnAll .walk).onWalk fun w => w.finished o).onMotions MotionRec.unlocked

/-- In holdup a walk has no leases to return and its brake proof is not read (R130, R157). -/
def State.walkFinishInHoldup (s : State) (o : WalkOutcome) : State :=
  (s.onWalk fun w => w.finished o).onMotions MotionRec.unlocked

/-- The terms on which the walk brake is released and stays released (R118). -/
def State.walkTerms (s : State) : Bool :=
  let w := s.walk
  w.ending.isNone && s.leased .walk &&
    match w.state with
    | .preparing => true
    | .stepping => decide (w.phase ≠ some .dwell) && !s.tripInForce
    | .interrupted => false
    | .idle => false

/-- The walk brake follows its terms (R116, R118). -/
def State.walkBrakePass (s : State) : State :=
  s.onWalk fun w => { w with brake := w.brake.follow s.k s.now s.walkTerms (s.stopped .walk) }

/-- The walk brake's release proof: PREPARING becomes STEPPING, and in STEPPING a phase timer not yet begun begins (R116,
R129). DESIGN CHOICE, unsafe: a timer that a boundary crossed since the RESUME has begun (R120) is kept, not begun again
(log entry 46). -/
def State.walkReleased (s : State) : State :=
  s.onWalk fun w =>
    let b := { w with brake := w.brake.provenReleased }
    match w.state with
    | .preparing => { b.stepBegun s.k (phaseOf s.k s.stride) with prepareTimer := none }
    | .stepping => match w.phaseTimer with
      | some _ => b
      | none => { b with phaseTimer := some (s.k.phaseTimeout * 1000) }
    | .interrupted => b
    | .idle => b

/-- A walk brake step ends when its proof shows the level it waits for (R92, R118). DESIGN CHOICE, unsafe: a brake dropped
from RELEASING is SET at once where its proof shows set (R92), and a late release proof takes up the setting again (R93,
R117, log entry 44). -/
def State.walkProofPass (s : State) : State :=
  match s.walk.brake.state with
  | .setting =>
    if s.showsReleased .walk then s
    else (s.onWalk fun w => { w with brake := w.brake.provenSet }).clearCondition ⟨9, 4⟩
  | .releasing => if s.showsReleased .walk then s.walkReleased else s
  | .set => s
  | .released => s

/-- What the walk does with its brake SET: finish an ending, return what it holds INTERRUPTED, begin the dwell time, or
release the brake (R118, R124, R126, R128). DESIGN CHOICE, unsafe: where the brake is SET already when DWELL begins, and no
set proof follows, the dwell time begins at once (log entry 45). -/
def State.walkRestPass (s : State) : State :=
  let w := s.walk
  if w.brake.state = .set then
    match w.ending with
    | some o => s.walkFinish o
    | none =>
      if w.state = .interrupted then s.returnAll .walk
      else if w.state = .stepping ∧ w.phase = some .dwell then
        match w.dwellTimer with
        | some _ => s
        | none => s.onWalk fun w => { w with dwellTimer := some (s.k.dwellTenths * 100) }
      else if s.walkTerms then s.onWalk fun w => { w with brake := Brake.lifted s.k }
      else s
  else s

/-- The walk follows what it is composed of, in one change. -/
def State.walkPass (s : State) : State := ((s.walkBrakePass).walkProofPass).walkRestPass

/-- The walk permit (R119). -/
def State.walkPermitOf (s : State) : Option Dir :=
  let w := s.walk
  if w.stepping && decide (w.brake.state = .released) && s.leased .walk && !s.tripInForce then some w.direction else none

/-- The walk permit follows its terms (R119). -/
def State.composeWalk (s : State) : State := s.onWalk fun w => { w with permit := s.walkPermitOf }

/-- Every permit and hold reason follows its terms. -/
def State.compose (s : State) : State := s.composeDigs.composeWalk

end Sys2Proof.Machine
end

