-- ==== Sys2Proof/Machine/Effects.lean ====
section
/-! DEFINITION. Raises with their class effects (08 R136–R139), and what a change of the zone table brings: the check of a
body (02 R32, R34, R35) and the staleness marking (R30). -/

namespace Sys2Proof.Machine

/-! ### Class effects -/

/-- The trip effect begins: every move, every dig motion and the walk take it (R62, R101, R128, R138). -/
def State.tripBegins (s : State) (c : Cause) : State :=
  { s with
    gens := (s.onGens fun p g => trippedMove s.k p g).gens
    motions := s.motions.map fun r => r.tripped s.k c
    walk := s.walk.tripped s.k c }

/-- A stop effect begins for a dig motion if a test of the motion says so (R102, R139). -/
def State.stopDig (s : State) (m : Dig) (c : Cause) (starts : Motion → Bool) : MotionRec :=
  if starts m.motion then (s.motions.get m).stoppedBy c else s.motions.get m

/-- A stop effect begins for the motions and the walk that a test names (R102, R128, R139). -/
def State.stopBegins (s : State) (c : Cause) (starts : Motion → Bool) : State :=
  { s with
    motions := ⟨s.stopDig .hoist c starts, s.stopDig .drag c starts, s.stopDig .swing c starts⟩
    walk := if starts .walk then s.walk.stoppedBy s.k c else s.walk }

/-- Halt the walk (R127). -/
def State.haltWalk (s : State) : State := s.onWalk fun w => w.halted s.k s.inputs.tub

/-- The raise of CAB LINK LOST acts on the walk as a halt (R127, R139). -/
def State.cabLinkHalts (s : State) (key : AlarmKey) : State := if key.code = 2 then s.haltWalk else s

/-- The effects that a raised condition begins, by its effective class; `before` is the alarm table before the raise
(R138, R139). -/
def State.conditionActs (s : State) (before : Alarms) (key : AlarmKey) : State :=
  let cls := s.alarms.effectiveClass key
  match cls with
  | .trip => if before.tripInForce then s else s.tripBegins ⟨key, cls⟩
  | .stop => (s.stopBegins ⟨key, cls⟩ fun m => stopAffects key m && !before.stopInForce m).cabLinkHalts key
  | .warn => s
  | .notice => s

/-- The effects of an event, by the class it acts with (R136, R138, R139). -/
def State.eventActs (s : State) (key : AlarmKey) (cls : AlarmClass) : State :=
  match cls with
  | .trip => s.tripBegins ⟨key, cls⟩
  | .stop => s.stopBegins ⟨key, cls⟩ (stopAffects key)
  | .warn => s
  | .notice => s

/-- A condition becomes true: its raise and, outside holdup, the effects that begin (R136, R138, R139, R156). -/
def State.raiseCondition (s : State) (key : AlarmKey) : State :=
  if s.isTrue key then s
  else
    let t := { s with alarms := s.alarms.raiseCondition s.now s.k.escalationWindow key }
    if s.inHoldup then t else t.conditionActs s.alarms key

/-- An event: its raise and, outside holdup, its effects (R136, R138, R139, R156). -/
def State.raiseEvent (s : State) (key : AlarmKey) : State :=
  let r := s.alarms.raiseEvent s.now s.k.escalationWindow key
  let t := { s with alarms := r.1 }
  if s.inHoldup then t else t.eventActs key r.2

/-- A condition takes its truth from its cause (R136). -/
def State.setCondition (s : State) (key : AlarmKey) (truth : Bool) : State :=
  if truth then s.raiseCondition key else s.clearCondition key

/-! ### The zone table -/

/-- At least one slot is STALE (R36). -/
def State.anyStale (s : State) : Bool := s.zones.slots.cells.any fun z => decide (z.state = .stale)

/-- A slot is DEFECTIVE (R36). -/
def State.isDefective (s : State) (i : Fin 40) : Bool := decide ((s.zones.slots.get i).state = .defective)

/-- ZONE DEFECTIVE of a slot (R36). -/
def State.syncDefective (s : State) (i : Fin 40) : State := s.setCondition ⟨15, i.val⟩ (s.isDefective i)

/-- SITE ZONES STALE (R36). -/
def State.syncStale (s : State) : State := s.setCondition ⟨16, 0⟩ s.anyStale

/-- Change one slot. -/
def State.onSlot (s : State) (i : Fin 40) (f : ZoneSlot → ZoneSlot) : State :=
  { s with zones := { s.zones with slots := s.zones.slots.set i (f (s.zones.slots.get i)) } }

/-- A slot made DEFECTIVE keeps its revision and its window (R35). -/
def ZoneSlot.marked (z : ZoneSlot) : ZoneSlot := { z with state := .defective, body := ZoneBody.cleared, fault := .sound }

/-- An EMPTY slot's body is put in its cleared form again (R32). -/
def ZoneSlot.rewritten (z : ZoneSlot) : ZoneSlot := { z with body := ZoneBody.cleared, fault := .sound }

/-- A correction in place (R34). -/
def ZoneSlot.corrected (z : ZoneSlot) : ZoneSlot := { z with fault := .sound }

/-- The lookahead follows SWING once its demand is NONE: a raise that stops SWING takes the need of the lookahead key with
it before the resolver does anything more in the change (R41, R43, R45). -/
def State.lookDropped (s : State) : State :=
  match s.motions.swing.demand with
  | some _ => s
  | none => { s with res := s.res.lookFollows }

/-- The DEFECTIVE marking of a slot: the epoch counts up, and ZONE DEFECTIVE and SITE ZONES STALE take their truth at that
moment, before the read goes on to another slot (R35, R36). -/
def State.markDefective (s : State) (i : Fin 40) : State := ((s.onSlot i ZoneSlot.marked).epochUp.syncDefective i).syncStale

/-- The check of the body of an IN FORCE or STALE slot (R32, R34, R35). -/
def State.checkHeld (s : State) (i : Fin 40) : State :=
  match (s.zones.slots.get i).fault with
  | .sound => s
  | .single => ((s.onSlot i ZoneSlot.corrected).raiseEvent ⟨14, i.val⟩).lookDropped
  | .uncorrectable => s.markDefective i

/-- A check of a zone body (R32). -/
def State.checkBody (s : State) (i : Fin 40) : State :=
  match (s.zones.slots.get i).state with
  | .empty => s.onSlot i ZoneSlot.rewritten
  | .defective => s
  | .inForce => s.checkHeld i
  | .stale => s.checkHeld i

/-- The slot numbers. -/
def slotsAll : List (Fin 40) := List.finRange 40

/-- The checks of the forty bodies in index order, as R43 has a resolution read them. DESIGN CHOICE, unsafe: a COMMIT checks
them in the same order, though R178 gives it none (log entry 55). -/
def State.checkAll (s : State) : State := slotsAll.foldl State.checkBody s

/-- An IN FORCE slot of kind SITE (R26, R30). DESIGN CHOICE, safe: R32 lists no check at the reads that ask for the kind,
so a body with a fault not yet found gives the kind it had before the fault (log entry 50). -/
def ZoneSlot.isSiteInForce (z : ZoneSlot) : Bool := decide (z.state = .inForce) && decide (z.body.kind = .site)

/-- A slot after the staleness marking (R30). -/
def ZoneSlot.staled (z : ZoneSlot) : ZoneSlot := if z.isSiteInForce then { z with state := .stale } else z

/-- The staleness marking, with SITE ZONES STALE true at that moment (R30, R36). -/
def State.markStale (s : State) : State :=
  if s.zones.slots.cells.any ZoneSlot.isSiteInForce then
    { s with zones := { s.zones with slots := s.zones.slots.map ZoneSlot.staled } }.epochUp.syncStale
  else s

/-- Site marking done becomes yes with the marking (R122). -/
def State.markSites (s : State) : State := s.markStale.onWalk fun w => { w with siteMarked := true }

end Sys2Proof.Machine
end

