-- ==== Sys2Proof/Machine/ArbiterOps.lean ====
section
/-! DEFINITION. The lease arbiter (05): withdrawals, the waiting list, the choice of motion and generator, the run of
grants with its recall test, and the give-back of a lowered complement. -/

namespace Sys2Proof.Machine

/-! ### Withdrawals and the list (R72–R74) -/

/-- A motion that may not take generators has no claim; one that holds its complement has no failing claim (R74). -/
def State.claimsFollowOf (s : State) (m : Motion) : State :=
  if !s.takes m then s.withdrawAll m
  else if s.asked m ≤ s.held m then s.withdrawFailing m
  else s

/-- The claims of every motion follow (R74). -/
def State.claimsFollow (s : State) : State := Motion.all.foldl State.claimsFollowOf s

/-- Short since of an entry follows proven (R83). -/
def State.shortSinceOf (s : State) (e : Entry) : Option Nat :=
  if s.leased e.motion then none
  else
    match e.shortSince with
    | some t => some t
    | none => some s.now

/-- Entries whose motion no longer wants more leave the list; short since follows in the others (R74, R83). -/
def State.pruned (s : State) : List Entry :=
  (s.arb.list.filter fun e => s.wants e.motion).map fun e => { e with shortSince := s.shortSinceOf e }

/-- The claims and the list follow the motions and the generators (R72, R74). -/
def State.prune (s : State) : State :=
  let t := s.claimsFollow
  { t with arb := { t.arb with list := t.pruned } }

/-- The entry of a motion that joins (R73). -/
def State.joinEntry (s : State) (m : Motion) : Entry :=
  ⟨m, s.now, if s.leased m then none else some s.now⟩

/-- A motion joins the list when it wants more and is not on it (R73). -/
def State.joinOf (s : State) (m : Motion) : State :=
  if s.wants m && !s.waiting m then { s with arb := { s.arb with list := s.arb.list ++ [s.joinEntry m] } } else s

/-- The joins of one change, in motion order (R73, log entry 37). -/
def State.joins (s : State) : State := Motion.all.foldl State.joinOf s

/-! ### The choice of a motion (R78) -/

/-- The priority of a motion, lowest number first: WALK, HOIST, DRAG, SWING (R78). -/
def priority : Motion → Nat
  | .walk => 0
  | .hoist => 1
  | .drag => 2
  | .swing => 3

/-- The motion of highest priority on a list (R78). -/
def highest (l : List Entry) : Option Motion :=
  [Motion.walk, .hoist, .drag, .swing].find? fun m => l.any fun e => decide (e.motion = m)

/-- The entries of lower priority than a motion, in list order (R78). -/
def below (l : List Entry) (h : Motion) : List Entry := l.filter fun e => decide (priority h < priority e.motion)

/-- The motion a grant goes to, with the rotation counter after it (R78). A count at or above the rotation count rotates
(log entry 18). -/
def chooseMotion (a : Arbiter) (rotation : Nat) : Option (Motion × Option Motion × Nat) :=
  match highest a.list with
  | none => none
  | some h =>
    match below a.list h with
    | [] => some (h, none, 0)
    | e :: _ =>
      if a.countedMotion = some h then
        if rotation ≤ a.count then some (e.motion, none, 0) else some (h, some h, a.count + 1)
      else some (h, some h, 1)

/-! ### The choice of a generator (R79) -/

/-- PARKED on a loop (R79). -/
def Gen.isParkedOn (g : Gen) (m : Motion) : Bool :=
  match g.st with
  | .parked l _ => decide (l = m)
  | _ => false

/-- FREE (R79). -/
def Gen.isFree (g : Gen) : Bool := decide (g.st = .free)

/-- Parked since of a PARKED generator. -/
def Gen.parkedSince (g : Gen) : Option Nat :=
  match g.st with
  | .parked _ t => some t
  | _ => none

/-- The earlier parked of two, the lower number among equals (R79, third choice). -/
def olderParked (gens : Table Gen 12) (best : Option (Fin 12 × Nat)) (i : Fin 12) : Option (Fin 12 × Nat) :=
  match (gens.get i).parkedSince, best with
  | none, b => b
  | some t, none => some (i, t)
  | some t, some (j, u) => if t < u then some (i, t) else some (j, u)

/-- The generator parked longest (R79, third choice). -/
def longestParked (gens : Table Gen 12) : Option (Fin 12) := (gensAll.foldl (olderParked gens) none).map Prod.fst

/-- The generator for a grant to a motion (R79). -/
def chooseGen (gens : Table Gen 12) (m : Motion) : Option (Fin 12) :=
  match gensAll.find? fun i => (gens.get i).isParkedOn m with
  | some i => some i
  | none =>
    match gensAll.find? fun i => (gens.get i).isFree with
    | some i => some i
    | none => longestParked gens

/-! ### Grants and recall (R77, R82) -/

/-- One grant: the hand-over, the rotation counter, and the list after it (R55, R77, R78). -/
def State.grantTo (s : State) (m : Motion) (counted : Option Motion) (count : Nat) (i : Fin 12) : State :=
  let t := s.onGen i (handOver s.k (s.proofs i) m (s.arb.handed + 1))
  { t with arb := { t.arb with countedMotion := counted, count := count, handed := s.arb.handed + 1 } }.prune

/-- One grant of a run, if one can be made (R77). -/
def State.grantOne (s : State) : Option State :=
  match chooseMotion s.arb s.k.rotationCount with
  | none => none
  | some (m, counted, count) =>
    match chooseGen s.gens m with
    | none => none
    | some i => some (s.grantTo m counted count i)

/-- Grants while one can be made, to a bound (R77). -/
def State.grantLoop : Nat → State → State
  | 0, s => s
  | n + 1, s =>
    match s.grantOne with
    | none => s
    | some t => State.grantLoop n t

/-- The hold that recall ends next: the earliest start, among equals the lowest motion number (R82). -/
def State.recallNext (s : State) : Option (Dig × Nat) :=
  Dig.all.foldl (fun best m =>
    match (s.motions.get m).holdStart, best with
    | none, b => b
    | some t, none => some (m, t)
    | some t, some (n, u) => if t < u then some (m, t) else some (n, u)) none

/-- Recall ends holds one by one until the coming count reaches the recall base (R82). -/
def State.recallHolds : Nat → State → State
  | 0, s => s
  | n + 1, s =>
    match s.recallNext with
    | none => s
    | some (m, _) =>
      let t := s.endHold m
      if t.k.recallBase ≤ t.coming then t else State.recallHolds n t

/-- The recall test (R82). -/
def State.recallDue (s : State) : Bool :=
  !s.arb.list.isEmpty && decide (s.coming ≤ s.k.recallLimit) && s.recallNext.isSome

/-- The recall test with its returns (R82). -/
def State.recall (s : State) : State := if s.recallDue then State.recallHolds 3 s else s

/-- A run: grants, the recall test, and grants again with what recall returned (R77, R82). Each round but the last ends
a release hold, of which there are at most three. DESIGN CHOICE, unsafe: the recall test is made again after those grants,
in the same change, so where recall base equals recall limit, and what recall returned is only coming, it ends further holds
although coming has reached the base (log entry 49). -/
def State.arbRun : Nat → State → State
  | 0, s => s
  | n + 1, s =>
    let t := State.grantLoop 12 s
    if t.recallDue then State.arbRun n t.recall else t

/-! ### What starts a run (R77, R82) -/

/-- A generator became available, or changed while it stays so (R53, R77). -/
def becameAvailable (old new : Gen) : Bool := new.isAvailable && decide (old.st ≠ new.st)

/-- A generator left GRANTED, as at the end of a release hold (R77). -/
def leftGranted (old new : Gen) : Bool :=
  match old.st with
  | .granted _ => decide (old.st ≠ new.st)
  | _ => false

/-- Wanted of a motion on the list, 0 off it (R72). -/
def State.wantedOnList (s : State) (m : Motion) : Nat := if s.waiting m then s.wanted m else 0

/-- A release hold began in this change. -/
def holdBegan (old new : MotionRec) : Bool := old.holdStart.isNone && new.holdStart.isSome

/-- The events that start a run or a recall test (R77, R82); `s0` is the state before the change. -/
def State.runDue (s0 s : State) : Bool :=
  (List.zipWith becameAvailable s0.gens.cells s.gens.cells).any id ||
    (List.zipWith leftGranted s0.gens.cells s.gens.cells).any id ||
    (Motion.all.any fun m => decide (s0.wantedOnList m < s.wantedOnList m)) ||
    (Dig.all.any fun m => holdBegan (s0.motions.get m) (s.motions.get m)) ||
    decide (s.coming < s0.coming)

/-- The arbiter in one change: withdrawals, leavers, joiners, and a run if one is due (R73, R74, R77, R82). -/
def State.arbitrate (s0 s : State) : State :=
  let t := s.prune.joins
  if State.runDue s0 t then (State.arbRun 4 t).prune else t

/-! ### Give-back of a lowered complement (R75) -/

/-- The claim not failing that was handed over last, with its place in that order (R75). -/
def State.latestClaim (s : State) (m : Motion) : Option (Fin 12 × Nat) :=
  gensAll.foldl (fun best i =>
    match (s.gens.get i).st, best with
    | .moving v, none => if (s.gens.get i).isClaimOf m then some (i, v.seq) else none
    | .moving v, some (j, u) => if (s.gens.get i).isClaimOf m && decide (u < v.seq) then some (i, v.seq) else some (j, u)
    | _, b => b) none

/-- The GRANTED generator of highest number (R75). -/
def State.lastGranted (s : State) (m : Motion) : Option (Fin 12) :=
  gensAll.reverse.find? fun i => (s.gens.get i).isGrantedTo m

/-- Give back one: the latest claim, else the highest GRANTED generator (R75). -/
def State.giveBackOne (s : State) (m : Motion) : State :=
  match s.latestClaim m with
  | some (i, _) => s.onGen i (withdrawn m)
  | none =>
    match s.lastGranted m with
    | some i => s.onGen i (returned s.k (s.proofs i) s.now)
    | none => s

/-- Give back until held is at the complement (R75). -/
def State.giveBackLoop : Nat → Motion → State → State
  | 0, _, s => s
  | n + 1, m, s => if s.asked m < s.held m then State.giveBackLoop n m (s.giveBackOne m) else s

/-- The give-back of an excess: failing claims first (R75). -/
def State.giveBack (s : State) (m : Motion) : State :=
  if s.asked m < s.held m then State.giveBackLoop 12 m (s.withdrawFailing m) else s

/-! ### Starvation (R83) -/

/-- The motion has an entry with short since present. -/
def State.isShort (s : State) (m : Motion) : Bool :=
  s.arb.list.any fun e => decide (e.motion = m) && e.shortSince.isSome

/-- LEASE STARVED becomes false when the entry leaves or proven reaches the minimum (R83). -/
def State.starvedFollows (s : State) (m : Motion) : State :=
  if s.isShort m then s else s.clearCondition ⟨13, m.number⟩

/-- LEASE STARVED of every motion follows (R83). -/
def State.starvedSync (s : State) : State := Motion.all.foldl State.starvedFollows s

end Sys2Proof.Machine
end

