-- ==== Sys2Proof/Machine/Operands.lean ====
section
/-! DEFINITION. The operands of the requests: every field form of R166 and R175 with the range test of R164 (test 3),
the constant list of R176 with its ranges, its agreement tests and its reads and writes by number. -/

namespace Sys2Proof.Machine

/-! ### Bytes (R175) -/

/-- The number that bytes spell, the most significant first (R175). -/
def beNat (bs : List Byte) : Nat := bs.foldl (fun n b => n * 256 + b.toNat) 0

/-- The signed number that four bytes spell, in two's complement (R175). -/
def beInt32 (bs : List Byte) : Int := (BitVec.ofNat 32 (beNat bs)).toInt

/-! ### Field forms -/

/-- The field test: the answer when a field fails it, or the value of the fields (R164, test 3). -/
abbrev Field (α : Type) := Except Status α

/-- A field that must hold for the test to pass. -/
def require (b : Bool) (st : Status) : Field Unit := if b then .ok () else .error st

/-- A value from a list, BAD FIELD outside it (R166). -/
def listed {α : Type} (o : Option α) : Field α :=
  match o with
  | some x => .ok x
  | none => .error .badField

/-- A key below a bound, BAD FIELD outside it (R166). -/
def keyBelow (bound : Nat) (n : Nat) : Field (Fin bound) :=
  if h : n < bound then .ok ⟨n, h⟩ else .error .badField

/-- A motion number 1–3 (R166). -/
def digOf : Nat → Option Dig
  | 1 => some .hoist
  | 2 => some .drag
  | 3 => some .swing
  | _ => none

/-- A channel number 1–4 (R166). -/
def motionOf : Nat → Option Motion
  | 1 => some .hoist
  | 2 => some .drag
  | 3 => some .swing
  | 4 => some .walk
  | _ => none

/-- A direction other than NONE (R175). -/
def dirOf : Nat → Option Dir
  | 1 => some .plus
  | 2 => some .minus
  | _ => none

/-- A direction, NONE among them (R175). -/
def demandOf : Nat → Option (Option Dir)
  | 0 => some none
  | 1 => some (some .plus)
  | 2 => some (some .minus)
  | _ => none

/-- A demand complement (R175). -/
def complementOf : Nat → Option Complement
  | 0 => some .minimum
  | 1 => some .full
  | _ => none

/-- Yes or no (R175). -/
def yesNoOf : Nat → Option Bool
  | 0 => some false
  | 1 => some true
  | _ => none

/-- A permission code (R175). -/
def permissionOf : Nat → Option Permission
  | 0 => some .none
  | 1 => some .plus
  | 2 => some .minus
  | 3 => some .both
  | _ => none

/-- A zone kind (R175). -/
def zoneKindOf : Nat → Option ZoneKind
  | 0 => some .machine
  | 1 => some .site
  | _ => none

/-- An alarm key: a code 1–21 with a number in its code's range (R166). -/
def alarmKeyOf (code num : Nat) : Option AlarmKey :=
  if AlarmKey.listed ⟨code, num⟩ then some ⟨code, num⟩ else none

/-- A class (R175). -/
def classOf : Nat → Option AlarmClass
  | 0 => some .trip
  | 1 => some .stop
  | 2 => some .warn
  | 3 => some .notice
  | _ => none

/-- The spans a swing window can have (R20). -/
def spanListed (n : Nat) : Bool := [64, 128, 256, 512, 1024, 2048, 4096].contains n

/-! ### Request fields (R175, request fields) -/

/-- No fields. -/
def parseNothing (_ : State) (fs : List Byte) : Field Unit := require fs.isEmpty .badField

/-- DEMAND: motion, direction, complement. -/
def parseDemand (_ : State) (fs : List Byte) : Field (Dig × Option Dir × Complement) :=
  match fs with
  | [m, d, c] => do
    let m ← listed (digOf m.toNat)
    let d ← listed (demandOf d.toNat)
    let c ← listed (complementOf c.toNat)
    return (m, d, c)
  | _ => .error .badField

/-- ARM: a motion, or ALL. -/
def parseArm (_ : State) (fs : List Byte) : Field (Option Dig) :=
  match fs with
  | [m] => if m.toNat = 0 then .ok none else (listed (digOf m.toNat)).map some
  | _ => .error .badField

/-- The fields of a WALK order (R114). -/
structure WalkOrder where
  direction : Dir
  heading : Nat
  steps : Nat
  deriving DecidableEq, Repr

/-- WALK: direction, heading 0–4095, steps 1–99. -/
def parseWalk (_ : State) (fs : List Byte) : Field WalkOrder :=
  match fs with
  | [d, h1, h0, n] => do
    let d ← listed (dirOf d.toNat)
    require (decide (beNat [h1, h0] ≤ 4095)) .badField
    require (decide (1 ≤ n.toNat ∧ n.toNat ≤ 99)) .badField
    return ⟨d, beNat [h1, h0], n.toNat⟩
  | _ => .error .badField

/-- The fields of a WRITE ZONE (R26). -/
structure ZoneWrite where
  slot : Fin 40
  expected : BitVec 16
  window : SwingWindow
  body : ZoneBody
  deriving DecidableEq, Repr

/-- A band 0–31 (R21). -/
def bandByte (b : Byte) : Field Nat := (require (decide (b.toNat ≤ 31)) .badField).map fun _ => b.toNat

/-- A printable label of the length the frame carries (R26). -/
def labelFits (len : Byte) (label : List Byte) : Bool :=
  decide (len.toNat ≤ 16) && decide (label.length = len.toNat) &&
    label.all fun c => decide (32 ≤ c.toNat ∧ c.toNat ≤ 126)

/-- WRITE ZONE: each field in its range; the alignment of the base and the order of the bands are its own checks. -/
def parseWriteZone (_ : State) (fs : List Byte) : Field ZoneWrite :=
  match fs with
  | slot :: r1 :: r0 :: b1 :: b0 :: s1 :: s0 :: kind :: excl :: dmin :: dmax :: hmin :: hmax ::
      ph :: pd :: ps :: len :: label => do
    let slot ← keyBelow 40 slot.toNat
    require (decide (beNat [b1, b0] ≤ 4095)) .badField
    require (spanListed (beNat [s1, s0])) .badField
    let kind ← listed (zoneKindOf kind.toNat)
    let excl ← listed (yesNoOf excl.toNat)
    let dmin ← bandByte dmin
    let dmax ← bandByte dmax
    let hmin ← bandByte hmin
    let hmax ← bandByte hmax
    let ph ← listed (permissionOf ph.toNat)
    let pd ← listed (permissionOf pd.toNat)
    let ps ← listed (permissionOf ps.toNat)
    require (labelFits len label) .badField
    return {
      slot := slot
      expected := BitVec.ofNat 16 (beNat [r1, r0])
      window := ⟨beNat [b1, b0], beNat [s1, s0]⟩
      body := ⟨kind, excl, dmin, dmax, hmin, hmax, ⟨ph, pd, ps⟩, label⟩ }
  | _ => .error .badField

/-- RETIRE ZONE: slot, expected revision. -/
def parseRetireZone (_ : State) (fs : List Byte) : Field (Fin 40 × BitVec 16) :=
  match fs with
  | [slot, r1, r0] => do
    let slot ← keyBelow 40 slot.toNat
    return (slot, BitVec.ofNat 16 (beNat [r1, r0]))
  | _ => .error .badField

/-- CONFIRM ZONES: all, or one slot with an optional expected revision. DESIGN CHOICE, safe: all with a revision is
BAD FIELD (log entry 24). -/
def parseConfirmZones (_ : State) (fs : List Byte) : Field (Option (Fin 40 × Option (BitVec 16))) :=
  match fs with
  | [slot] => if slot.toNat = 64 then .ok none else (keyBelow 40 slot.toNat).map fun i => some (i, none)
  | [slot, r1, r0] => (keyBelow 40 slot.toNat).map fun i => some (i, some (BitVec.ofNat 16 (beNat [r1, r0])))
  | _ => .error .badField

/-- REFERENCE RESET: a channel. -/
def parseChannel (_ : State) (fs : List Byte) : Field Motion :=
  match fs with
  | [c] => listed (motionOf c.toNat)
  | _ => .error .badField

/-- ACKNOWLEDGE and UNSHELVE: an alarm key. -/
def parseAlarmKey (_ : State) (fs : List Byte) : Field AlarmKey :=
  match fs with
  | [code, num] => listed (alarmKeyOf code.toNat num.toNat)
  | _ => .error .badField

/-- SHELVE: an alarm key and 1–480 minutes. -/
def parseShelve (_ : State) (fs : List Byte) : Field (AlarmKey × Nat) :=
  match fs with
  | [code, num, m1, m0] => do
    let key ← listed (alarmKeyOf code.toNat num.toNat)
    require (decide (1 ≤ beNat [m1, m0] ∧ beNat [m1, m0] ≤ 480)) .badField
    return (key, beNat [m1, m0])
  | _ => .error .badField

/-- SET ANNOUNCE: announcing and a class mask. -/
def parseAnnounce (_ : State) (fs : List Byte) : Field Announce :=
  match fs with
  | [yes, mask] => do
    let yes ← listed (yesNoOf yes.toNat)
    require (decide (mask.toNat ≤ 15)) .badField
    return ⟨yes, BitVec.ofNat 4 mask.toNat⟩
  | _ => .error .badField

/-- A generator number: BAD FIELD for 0 or above 12, NOT FITTED above the fitted count in force (R166). -/
def generatorOf (s : State) (n : Nat) : Field (Fin 12) :=
  if h : 1 ≤ n ∧ n ≤ 12 then
    if n ≤ s.fitted then .ok ⟨n - 1, by omega⟩ else .error .notFitted
  else .error .badField

/-- LOCK OUT GENERATOR and RETURN GENERATOR: a generator number. -/
def parseGenerator (s : State) (fs : List Byte) : Field (Fin 12) :=
  match fs with
  | [n] => generatorOf s n.toNat
  | _ => .error .badField

/-! ### The constant list (R176) -/

/-- A constant: its number, with the channel for the constants kept per channel. -/
structure ConstKey where
  no : Nat
  channel : Option Motion
  deriving DecidableEq, Repr

/-- The channels that have a constant of 1 to 12 (R176). -/
def channelsOf (no : Nat) : List Motion :=
  if no = 4 then [.swing, .walk]
  else if no = 5 then [.hoist, .drag]
  else if no = 6 ∨ no = 7 ∨ no = 8 then [.hoist, .drag, .swing]
  else Motion.all

/-- The numbers of the constants kept per channel. -/
def channelConstants : List Nat := [1, 2, 3, 4, 5, 6, 7, 8, 9, 10, 11, 12]

/-- The numbers of the other constants. -/
def machineConstants : List Nat :=
  [20, 21, 22, 23, 24, 25, 26, 27, 28, 30, 31, 32, 33, 34, 35, 40, 41, 42, 43, 44, 50, 51, 52, 53, 54, 55, 56, 57,
    60, 61, 62, 63, 64, 65, 66, 67, 68, 69, 70, 80]

/-- Every constant, in the order of NEXT: number ascending, then channel (R169). -/
def constantKeys : List ConstKey :=
  (channelConstants.flatMap fun n => (channelsOf n).map fun c => ⟨n, some c⟩) ++
    machineConstants.map fun n => ⟨n, none⟩

/-- A constant named by its number byte and channel byte: BAD FIELD for a number or channel outside the list, NOT FITTED
for a channel without the constant (R166). -/
def constKeyOf (no channel : Nat) : Field ConstKey :=
  if channelConstants.contains no then
    match motionOf channel with
    | some c => if (channelsOf no).contains c then .ok ⟨no, some c⟩ else .error .notFitted
    | none => .error .badField
  else if machineConstants.contains no then
    if channel = 255 then .ok ⟨no, none⟩ else .error .badField
  else .error .badField

/-- A range with both ends. -/
def within (lo hi v : Int) : Bool := decide (lo ≤ v ∧ v ≤ hi)

/-- The range of a constant as the field test takes it; ends that depend on another constant are the agreement tests'
(R166, R176, log entry 25). DEDUCED, unsafe: the rate window (9) and the cab link period (80) are sent in milliseconds, the
unit of their range, and not as a position in a list (R175, log entry 47). -/
def constInRange (no : Nat) (v : Int) : Bool :=
  match no with
  | 1 => decide (v = 1 ∨ v = 2 ∨ v = 4)
  | 2 => within 0 1 v
  | 3 => within 0 1 v
  | 4 => within 4096 1048576 v
  | 5 => within (-134217728) 134217727 v
  | 6 => within 0 1 v
  | 7 => within 0 1 v
  | 8 => within 0 1 v
  | 9 => decide (v = 25 ∨ v = 50 ∨ v = 100 ∨ v = 200)
  | 10 => within 0 1000 v
  | 11 => within 1 1048574 v
  | 12 => within 2 1048575 v
  | 20 => within 64 4194304 v
  | 21 => within 64 4194304 v
  | 22 => within 0 3 v
  | 23 => within 0 3 v
  | 24 => within 0 3 v
  | 25 => within 0 256 v
  | 26 => within 0 3 v
  | 27 => within 0 3 v
  | 28 => within 0 3 v
  | 30 => within 4 12 v
  | 31 => within 0 4095 v
  | 32 => within 100 2000 v && decide (v % 50 = 0)
  | 33 => within 1 4 v
  | 34 => within 0 1 v
  | 35 => within 0 1 v
  | 40 => within 0 60 v
  | 41 => within 0 11 v
  | 42 => within 0 12 v
  | 43 => within 1 7 v
  | 44 => within 2 60 v
  | 50 => within 1 4 v
  | 51 => within 1 6 v
  | 52 => within 1 4 v
  | 53 => within 1 6 v
  | 54 => within 1 4 v
  | 55 => within 1 6 v
  | 56 => within 100 3000 v
  | 57 => within 1 30 v
  | 60 => within 16 976 v
  | 61 => within 32 992 v
  | 62 => within 48 1008 v
  | 63 => within 5 100 v
  | 64 => within 1 60 v
  | 65 => within 5 120 v
  | 66 => within 1 6 v
  | 67 => within 1 6 v
  | 68 => within 0 128 v
  | 69 => within 0 134217727 v
  | 70 => within 10 600 v
  | 80 => decide (v = 250 ∨ v = 500 ∨ v = 1000 ∨ v = 2000)
  | _ => false

/-! The values of enumerated constants are their positions in the list of R176; the multiplier is its factor (R175). -/

/-- The factor of a multiplier. -/
def multiplierValue : Multiplier → Int
  | .x1 => 1
  | .x2 => 2
  | .x4 => 4

/-- The multiplier of a factor. -/
def multiplierOf (v : Int) : Multiplier := if v = 1 then .x1 else if v = 2 then .x2 else .x4

/-- The position of a count mode. -/
def modeValue : CountMode → Int
  | .quadrature => 0
  | .countDirection => 1

/-- The position of a count sense. -/
def senseValue : CountSense → Int
  | .normal => 0
  | .inverted => 1

/-- The position of a reference direction. -/
def dirValue : Dir → Int
  | .plus => 0
  | .minus => 1

/-- The position of a reference qualifier. -/
def qualifierValue : Qualifier → Int
  | .switch => 0
  | .switchThenIndex => 1

/-- The position of a reference mode. -/
def refModeValue : RefMode → Int
  | .once => 0
  | .everyEdge => 1

/-- The position of a permission code. -/
def permissionValue : Permission → Int
  | .none => 0
  | .plus => 1
  | .minus => 2
  | .both => 3

/-- The permission code of a position. -/
def permissionAt (v : Int) : Permission := (permissionOf v.toNat).getD .both

/-- The position of an attempt policy. -/
def attemptPolicyValue : AttemptPolicy → Int
  | .lockOut => 0
  | .keepTrying => 1

/-- The position of a park policy. -/
def parkPolicyValue : ParkPolicy → Int
  | .parkLast => 0
  | .openContactor => 1

/-- The value of a constant of one channel. -/
def channelConst (k : Constants) (no : Nat) (c : Motion) : Int :=
  match no with
  | 1 => multiplierValue (k.channel.get c).multiplier
  | 2 => modeValue (k.channel.get c).mode
  | 3 => senseValue (k.channel.get c).sense
  | 4 => cprOf k c
  | 5 => refValueOf k c
  | 6 => match c.dig? with
    | some d => dirValue (k.reference.get d).direction
    | none => 0
  | 7 => match c.dig? with
    | some d => qualifierValue (k.reference.get d).qualifier
    | none => 0
  | 8 => match c.dig? with
    | some d => refModeValue (k.reference.get d).mode
    | none => 0
  | 9 => (k.channel.get c).rateWindow
  | 10 => (k.channel.get c).stoppedThreshold
  | 11 => (k.channel.get c).overspeedLimit
  | 12 => (k.channel.get c).plausibilityLimit
  | _ => 0

/-- The value of a constant that is not kept per channel. -/
def machineConst (k : Constants) (no : Nat) : Int :=
  match no with
  | 20 => k.hoistBand
  | 21 => k.dragBand
  | 22 => permissionValue k.defaultPermission.hoist
  | 23 => permissionValue k.defaultPermission.drag
  | 24 => permissionValue k.defaultPermission.swing
  | 25 => k.swingLookahead
  | 26 => permissionValue k.unreferencedPermission.hoist
  | 27 => permissionValue k.unreferencedPermission.drag
  | 28 => permissionValue k.unreferencedPermission.swing
  | 30 => k.fittedCount
  | 31 => k.withdrawn.toNat
  | 32 => k.contactorProofTime
  | 33 => k.transferAttempts
  | 34 => attemptPolicyValue k.attemptPolicy
  | 35 => parkPolicyValue k.parkPolicy
  | 40 => k.releaseHold
  | 41 => k.recallLimit
  | 42 => k.recallBase
  | 43 => k.rotationCount
  | 44 => k.starveTime
  | 50 => k.minimumComplement.hoist
  | 51 => k.fullComplement.hoist
  | 52 => k.minimumComplement.drag
  | 53 => k.fullComplement.drag
  | 54 => k.minimumComplement.swing
  | 55 => k.fullComplement.swing
  | 56 => k.brakeProofTime
  | 57 => k.stopTimeout
  | 60 => k.shoeEnd
  | 61 => k.strideEnd
  | 62 => k.setDownEnd
  | 63 => k.dwellTenths
  | 64 => k.phaseTimeout
  | 65 => k.prepareTimeout
  | 66 => k.minimumComplement.walk
  | 67 => k.fullComplement.walk
  | 68 => k.headingTolerance
  | 69 => k.groundedPayout
  | 70 => k.escalationWindow
  | 80 => k.cabLinkPeriod
  | _ => 0

/-- The value of a constant, as WRITE CONSTANT carries it (R175). -/
def constValue (k : Constants) (key : ConstKey) : Int :=
  match key.channel with
  | some c => channelConst k key.no c
  | none => machineConst k key.no

/-- Change the constants every channel has. -/
def onChannelConst (k : Constants) (c : Motion) (f : ChannelConstants → ChannelConstants) : Constants :=
  { k with channel := k.channel.set c (f (k.channel.get c)) }

/-- Change the reference constants of a channel that has them. -/
def onReferenceConst (k : Constants) (c : Motion) (f : ReferenceConstants → ReferenceConstants) : Constants :=
  match c.dig? with
  | some d => { k with reference := k.reference.set d (f (k.reference.get d)) }
  | none => k

/-- Write counts per revolution of SWING or WALK. -/
def setCpr (k : Constants) (c : Motion) (v : Int) : Constants :=
  match c with
  | .swing => { k with cprSwing := v.toNat }
  | .walk => { k with cprWalk := v.toNat }
  | .hoist => k
  | .drag => k

/-- Write the reference value of HOIST or DRAG. -/
def setRefValue (k : Constants) (c : Motion) (v : Int) : Constants :=
  match c with
  | .hoist => { k with refValueHoist := v }
  | .drag => { k with refValueDrag := v }
  | .swing => k
  | .walk => k

/-- Write a constant of one channel. -/
def setChannelConst (k : Constants) (no : Nat) (c : Motion) (v : Int) : Constants :=
  match no with
  | 1 => onChannelConst k c fun x => { x with multiplier := multiplierOf v }
  | 2 => onChannelConst k c fun x => { x with mode := if v = 0 then .quadrature else .countDirection }
  | 3 => onChannelConst k c fun x => { x with sense := if v = 0 then .normal else .inverted }
  | 4 => setCpr k c v
  | 5 => setRefValue k c v
  | 6 => onReferenceConst k c fun x => { x with direction := if v = 0 then .plus else .minus }
  | 7 => onReferenceConst k c fun x => { x with qualifier := if v = 0 then .switch else .switchThenIndex }
  | 8 => onReferenceConst k c fun x => { x with mode := if v = 0 then .once else .everyEdge }
  | 9 => onChannelConst k c fun x => { x with rateWindow := v.toNat }
  | 10 => onChannelConst k c fun x => { x with stoppedThreshold := v.toNat }
  | 11 => onChannelConst k c fun x => { x with overspeedLimit := v.toNat }
  | 12 => onChannelConst k c fun x => { x with plausibilityLimit := v.toNat }
  | _ => k

/-- Write a constant that is not kept per channel. -/
def setMachineConst (k : Constants) (no : Nat) (v : Int) : Constants :=
  match no with
  | 20 => { k with hoistBand := v.toNat }
  | 21 => { k with dragBand := v.toNat }
  | 22 => { k with defaultPermission := k.defaultPermission.set .hoist (permissionAt v) }
  | 23 => { k with defaultPermission := k.defaultPermission.set .drag (permissionAt v) }
  | 24 => { k with defaultPermission := k.defaultPermission.set .swing (permissionAt v) }
  | 25 => { k with swingLookahead := v.toNat }
  | 26 => { k with unreferencedPermission := k.unreferencedPermission.set .hoist (permissionAt v) }
  | 27 => { k with unreferencedPermission := k.unreferencedPermission.set .drag (permissionAt v) }
  | 28 => { k with unreferencedPermission := k.unreferencedPermission.set .swing (permissionAt v) }
  | 30 => { k with fittedCount := v.toNat }
  | 31 => { k with withdrawn := BitVec.ofNat 12 v.toNat }
  | 32 => { k with contactorProofTime := v.toNat }
  | 33 => { k with transferAttempts := v.toNat }
  | 34 => { k with attemptPolicy := if v = 0 then .lockOut else .keepTrying }
  | 35 => { k with parkPolicy := if v = 0 then .parkLast else .openContactor }
  | 40 => { k with releaseHold := v.toNat }
  | 41 => { k with recallLimit := v.toNat }
  | 42 => { k with recallBase := v.toNat }
  | 43 => { k with rotationCount := v.toNat }
  | 44 => { k with starveTime := v.toNat }
  | 50 => { k with minimumComplement := k.minimumComplement.set .hoist v.toNat }
  | 51 => { k with fullComplement := k.fullComplement.set .hoist v.toNat }
  | 52 => { k with minimumComplement := k.minimumComplement.set .drag v.toNat }
  | 53 => { k with fullComplement := k.fullComplement.set .drag v.toNat }
  | 54 => { k with minimumComplement := k.minimumComplement.set .swing v.toNat }
  | 55 => { k with fullComplement := k.fullComplement.set .swing v.toNat }
  | 56 => { k with brakeProofTime := v.toNat }
  | 57 => { k with stopTimeout := v.toNat }
  | 60 => { k with shoeEnd := v.toNat }
  | 61 => { k with strideEnd := v.toNat }
  | 62 => { k with setDownEnd := v.toNat }
  | 63 => { k with dwellTenths := v.toNat }
  | 64 => { k with phaseTimeout := v.toNat }
  | 65 => { k with prepareTimeout := v.toNat }
  | 66 => { k with minimumComplement := k.minimumComplement.set .walk v.toNat }
  | 67 => { k with fullComplement := k.fullComplement.set .walk v.toNat }
  | 68 => { k with headingTolerance := v.toNat }
  | 69 => { k with groundedPayout := v.toNat }
  | 70 => { k with escalationWindow := v.toNat }
  | 80 => { k with cabLinkPeriod := v.toNat }
  | _ => k

/-- Write a constant (R177). -/
def setConst (k : Constants) (key : ConstKey) (v : Int) : Constants :=
  match key.channel with
  | some c => setChannelConst k key.no c v
  | none => setMachineConst k key.no v

/-- The constants of one channel agree: the count mode with the multiplier (R2), the limits in their order (R10). -/
def channelAgrees (c : ChannelConstants) : Bool :=
  !(decide (c.mode = .countDirection) && decide (c.multiplier = .x4)) &&
    decide (c.stoppedThreshold < c.overspeedLimit) && decide (c.overspeedLimit < c.plausibilityLimit)

/-- The agreement tests of R176. -/
def constantsAgree (k : Constants) : Bool :=
  (Motion.all.all fun m => channelAgrees (k.channel.get m)) &&
    (Motion.all.all fun m => decide (k.minimumComplement.get m ≤ k.fullComplement.get m)) &&
    decide (k.recallLimit ≤ k.recallBase) &&
    decide (16 ≤ k.shoeEnd ∧ k.shoeEnd + 16 ≤ k.strideEnd ∧ k.strideEnd + 16 ≤ k.setDownEnd ∧ k.setDownEnd ≤ 1008)

/-- Every constant lies in its range (R176). -/
def constantsInRange (k : Constants) : Bool := constantKeys.all fun key => constInRange key.no (constValue k key)

/-- The load check of the constants (R176). -/
def constantsPass (k : Constants) : Bool := constantsInRange k && constantsAgree k

/-- WRITE CONSTANT: a constant and a value in its range. DESIGN CHOICE, safe: the key is tested before the value, so a
channel without the constant is NOT FITTED whatever the value (R166, log entry 48). -/
def parseWriteConstant (_ : State) (fs : List Byte) : Field (ConstKey × Int) :=
  match fs with
  | [no, channel, v3, v2, v1, v0] => do
    let key ← constKeyOf no.toNat channel.toNat
    require (constInRange key.no (beInt32 [v3, v2, v1, v0])) .badField
    return (key, beInt32 [v3, v2, v1, v0])
  | _ => .error .badField

/-! ### Keys of READ and starting keys of NEXT (R168, R169) -/

/-- What a READ names. -/
inductive RecordKey where
  | zone (slot : Fin 40)
  | generator (g : Fin 12)
  | motion (m : Dig)
  | walk
  | channel (c : Motion)
  | permission (m : Dig)
  | lookahead
  | resolver
  | cacheEntry (i : Fin 16)
  | arbiter
  | alarm (key : AlarmKey)
  | alarmHeader
  | supply
  | constant (key : ConstKey)
  deriving DecidableEq, Repr

/-- READ: a record kind and its key. -/
def parseRead (s : State) (fs : List Byte) : Field RecordKey :=
  match fs with
  | [] => .error .badField
  | kind :: key =>
    match kind.toNat, key with
    | 1, [i] => (keyBelow 40 i.toNat).map .zone
    | 2, [n] => (generatorOf s n.toNat).map .generator
    | 3, [m] => (listed (digOf m.toNat)).map .motion
    | 4, [] => .ok .walk
    | 5, [c] => (listed (motionOf c.toNat)).map .channel
    | 6, [m] => (listed (digOf m.toNat)).map .permission
    | 7, [] => .ok .lookahead
    | 8, [] => .ok .resolver
    | 9, [i] => (keyBelow 16 i.toNat).map .cacheEntry
    | 10, [] => .ok .arbiter
    | 11, [code, num] => (listed (alarmKeyOf code.toNat num.toNat)).map .alarm
    | 12, [] => .ok .alarmHeader
    | 13, [] => .ok .supply
    | 14, [no, channel] => (constKeyOf no.toNat channel.toNat).map .constant
    | _, _ => .error .badField

/-- The five listing values of an alarm record, in the order they sort (R150). -/
structure ListingKey where
  cls : Nat
  acknowledged : Nat
  firstRaised : Nat
  code : Nat
  num : Nat
  deriving DecidableEq, Repr

/-- Where a NEXT starts: a kind that can be stepped, with its starting key (R169). -/
inductive NextKey where
  | zone (start : Option Nat)
  | generator (start : Option Nat)
  | motion (start : Option Nat)
  | permission (start : Option Nat)
  | channel (start : Option Nat)
  | cacheEntry (start : Option Nat)
  | alarm (start : Option ListingKey)
  | constant (start : Option (Nat × Nat))
  deriving DecidableEq, Repr

/-- A starting constant key: a listed number with a channel number 1–4, or all ones; it need not exist (R169, log
entry 26). -/
def constStartOf (no channel : Nat) : Field (Nat × Nat) :=
  match constKeyOf no channel with
  | .ok _ => .ok (no, channel)
  | .error .notFitted => .ok (no, channel)
  | .error st => .error st

/-- NEXT: a record kind that has an order, and an optional starting key in the ranges of R166 (log entry 26). -/
def parseNext (s : State) (fs : List Byte) : Field NextKey :=
  match fs with
  | [] => .error .badField
  | kind :: key =>
    match kind.toNat, key with
    | 1, [] => .ok (.zone none)
    | 1, [i] => (keyBelow 40 i.toNat).map fun i => .zone (some i.val)
    | 2, [] => .ok (.generator none)
    | 2, [n] => (generatorOf s n.toNat).map fun g => .generator (some (g.val + 1))
    | 3, [] => .ok (.motion none)
    | 3, [m] => (listed (digOf m.toNat)).map fun m => .motion (some m.motion.number)
    | 5, [] => .ok (.channel none)
    | 5, [c] => (listed (motionOf c.toNat)).map fun c => .channel (some c.number)
    | 6, [] => .ok (.permission none)
    | 6, [m] => (listed (digOf m.toNat)).map fun m => .permission (some m.motion.number)
    | 9, [] => .ok (.cacheEntry none)
    | 9, [i] => (keyBelow 16 i.toNat).map fun i => .cacheEntry (some i.val)
    | 11, [] => .ok (.alarm none)
    | 11, [cls, ack, f3, f2, f1, f0, code, num] => do
      let _ ← listed (classOf cls.toNat)
      let _ ← listed (yesNoOf ack.toNat)
      let _ ← listed (alarmKeyOf code.toNat num.toNat)
      return .alarm (some ⟨cls.toNat, ack.toNat, beNat [f3, f2, f1, f0], code.toNat, num.toNat⟩)
    | 14, [] => .ok (.constant none)
    | 14, [no, channel] => (constStartOf no.toNat channel.toNat).map fun p => .constant (some p)
    | _, _ => .error .badField

end Sys2Proof.Machine
end

