-- ==== Sys2Proof/Machine/Encode.lean ====
section
/-! DEFINITION. What the ports can read: the record bodies of R175, the reads of R168 and the steps of R169, and the
response frame with its check (R162). -/

namespace Sys2Proof.Machine

/-! ### Bytes (R175) -/

/-- One byte. -/
def u8 (n : Nat) : Byte := BitVec.ofNat 8 n

/-- Two bytes, most significant first. -/
def u16 (n : Nat) : List Byte := [u8 (n / 256), u8 n]

/-- Four bytes, most significant first. -/
def u32 (n : Nat) : List Byte := [u8 (n / 16777216), u8 (n / 65536), u8 (n / 256), u8 n]

/-- Four bytes in two's complement. -/
def i32 (v : Int) : List Byte := u32 (BitVec.ofInt 32 v).toNat

/-- All ones, for an absent field of a number of bytes. -/
def absent (n : Nat) : List Byte := List.replicate n 255

/-- A field that may be absent. -/
def opt {α : Type} (n : Nat) (f : α → List Byte) (o : Option α) : List Byte :=
  match o with
  | some x => f x
  | none => absent n

/-- Yes or no. -/
def yesNo (b : Bool) : Byte := if b then 1 else 0

/-- A machine time that may be absent. -/
def time? (o : Option Nat) : List Byte := opt 4 u32 o

/-! ### Enumerated fields (R175) -/

/-- A class. -/
def classByte (c : AlarmClass) : Byte := u8 c.rank

/-- A permission code. -/
def permissionByte (p : Permission) : Byte := BitVec.ofInt 8 (permissionValue p)

/-- A direction. -/
def dirByte : Dir → Byte
  | .plus => 1
  | .minus => 2

/-- A direction, NONE among its values. -/
def demandByte : Option Dir → Byte
  | none => 0
  | some d => dirByte d

/-- A motion or holder, none among its values. -/
def motionByte : Option Motion → Byte
  | none => 0
  | some m => u8 m.number

/-- A loop, OPEN among its values. -/
def loopByte (l : Option Motion) : Byte := motionByte l

/-- A port. -/
def portByte : Port → Byte
  | .cab => 1
  | .service => 2

/-- A walk outcome. -/
def outcomeByte : WalkOutcome → Byte
  | .completed => 0
  | .halted => 1
  | .cancelled => 2
  | .prepareFailed => 3

/-- A brake sub-state. -/
def brakeByte : BrakeState → Byte
  | .set => 0
  | .releasing => 1
  | .released => 2
  | .setting => 3

/-- A reference state. -/
def refStateByte : RefState → Byte
  | .unreferenced => 0
  | .referenced => 1
  | .suspect => 2

/-- A suspect cause. -/
def suspectByte : SuspectCause → Byte
  | .limit => 0
  | .quadrature => 1
  | .jump => 2
  | .missedIndex => 3

/-- A permission source. -/
def sourceByte : Source → Byte
  | .cell => 0
  | .held => 1
  | .unreferenced => 2

/-- A hold reason. -/
def holdReasonByte : HoldReason → Byte
  | .zone => 0
  | .lookahead => 1
  | .resolving => 2
  | .reversal => 3
  | .brake => 4
  | .lease => 5

/-- A lock-out cause. -/
def lockCauseByte : LockCause → Byte
  | .service => 0
  | .welded => 1
  | .noProof => 2
  | .withdrawn => 3

/-- A status. -/
def statusByte : Status → Byte
  | .done => 0
  | .accepted => 1
  | .refused => 2
  | .stale => 3
  | .noRecord => 4
  | .badField => 5
  | .notFitted => 6
  | .wrongPort => 7
  | .guarded => 8
  | .busy => 9
  | .unknown => 10
  | .check => 11

/-- A reason. -/
def reasonByte : Reason → Byte
  | .none => 0
  | .state => 1
  | .tripped => 2
  | .locked => 3
  | .holdup => 4
  | .granted => 5
  | .condition => 6

/-- An alarm key. -/
def keyBytes (k : AlarmKey) : List Byte := [u8 k.code, u8 k.num]

/-- A cell key. -/
def cellBytes (k : CellKey) : List Byte := [u8 k.cell, u8 k.drag, u8 k.hoist]

/-- A tub bearing capture. -/
def tubBytes (c : TubCapture) : List Byte := u16 c.stride ++ u32 c.time ++ [yesNo c.referenced]

/-! ### Zone (kind 1) -/

/-- A zone state. -/
def zoneStateByte : ZoneState → Byte
  | .empty => 0
  | .inForce => 1
  | .stale => 2
  | .defective => 3

/-- A zone kind. -/
def zoneKindByte : ZoneKind → Byte
  | .machine => 0
  | .site => 1

/-- The body fields of a zone. -/
def zoneBodyBytes (b : ZoneBody) : List Byte :=
  [zoneKindByte b.kind, yesNo b.exclusion, u8 b.dragMin, u8 b.dragMax, u8 b.hoistMin, u8 b.hoistMax,
   permissionByte b.permission.hoist, permissionByte b.permission.drag, permissionByte b.permission.swing,
   u8 b.label.length] ++ b.label

/-- The body fields of an EMPTY or DEFECTIVE slot are returned absent, the label as length 0 (02, R175). -/
def absentBody : List Byte := absent 9 ++ [0]

/-- The body of a zone record. -/
def zoneBytes (i : Nat) (z : ZoneSlot) : List Byte :=
  [u8 i, zoneStateByte z.state] ++ u16 z.revision.toNat ++
    opt 4 (fun w : SwingWindow => u16 w.base ++ u16 w.span) z.window ++
    match z.state with
    | .empty => absentBody
    | .defective => absentBody
    | .inForce => zoneBodyBytes z.body
    | .stale => zoneBodyBytes z.body

/-! ### Generator (kind 2) -/

/-- The state of a generator. -/
def genStateByte : GenState → Byte
  | .free => 0
  | .parked _ _ => 1
  | .moving _ => 2
  | .granted _ => 3
  | .lockedOut _ _ => 4
  | .noRecord => 0

/-- The Loop field (R54). -/
def loopOf : GenState → Option Motion
  | .free => none
  | .parked l _ => some l
  | .moving v => v.loop
  | .granted h => some h
  | .lockedOut _ l => l
  | .noRecord => none

/-- The Holder field (R53). -/
def holderOf : GenState → Option Motion
  | .moving v => v.holder
  | .granted h => some h
  | _ => none

/-- A move step. -/
def moveStepByte : MoveStep → Byte
  | .opening => 0
  | .closing => 1

/-- A lock-out pending. -/
def pendingByte : PendingCause → Byte
  | .service => 0
  | .withdrawn => 3

/-- The move in progress. -/
def moveOf : GenState → Option Move
  | .moving v => some v
  | _ => none

/-- The lock-out cause. -/
def lockCauseOf : GenState → Option LockCause
  | .lockedOut c _ => some c
  | _ => none

/-- The proof levels (R175). -/
def proofByte (p : PerMotion Bool) : Byte :=
  u8 ((if p.hoist then 1 else 0) + (if p.drag then 2 else 0) + (if p.swing then 4 else 0) + if p.walk then 8 else 0)

/-- The body of a generator record. -/
def genBytes (i : Nat) (g : Gen) (p : PerMotion Bool) : List Byte :=
  [u8 i, genStateByte g.st, loopByte (loopOf g.st), motionByte (holderOf g.st)] ++
    opt 1 (fun v : Move => [moveStepByte v.step]) (moveOf g.st) ++
    opt 1 (fun v : Move => [loopByte v.target]) (moveOf g.st) ++ [u8 g.attempts] ++
    opt 1 (fun c => [pendingByte c]) g.lockPending ++ time? g.parkedSince ++
    opt 1 (fun c => [lockCauseByte c]) (lockCauseOf g.st) ++ [proofByte p]

/-! ### Motion (kind 3) and walk (kind 4) -/

/-- The state of a motion. -/
def motionStateByte : MotionState → Byte
  | .idle => 0
  | .acquiring => 1
  | .ready => 2
  | .releasing => 3
  | .tripped => 4
  | .locked => 5

/-- A complement. -/
def complementByte : Complement → Byte
  | .minimum => 0
  | .full => 1

/-- A cause field: its key, or absent. -/
def causeBytes (c : Option Cause) : List Byte := opt 2 (fun x : Cause => keyBytes x.key) c

/-- The body of a motion record. -/
def motionBytes (s : State) (m : Dig) : List Byte :=
  let r := s.motions.get m
  [u8 m.motion.number, motionStateByte r.state, demandByte r.demand, complementByte r.complement,
   u8 (s.held m.motion), u8 (s.proven m.motion), brakeByte r.brake.state, demandByte r.permit] ++
    opt 1 (fun h => [holdReasonByte h]) r.holdReason ++ causeBytes r.tripCause ++ time? r.holdStart ++
    [yesNo r.reversal] ++ time? r.brake.stopWait

/-- The state of the walk. -/
def walkStateByte : WalkState → Byte
  | .idle => 0
  | .preparing => 1
  | .stepping => 2
  | .interrupted => 3

/-- The body of the walk record. -/
def walkBytes (s : State) : List Byte :=
  let w := s.walk
  [walkStateByte w.state] ++ opt 1 (fun p : Phase => [u8 p.number]) w.phase ++
    opt 1 (fun o => [outcomeByte o]) w.ending ++ [dirByte w.direction] ++ opt 2 u16 w.heading ++
    opt 1 (fun n => [u8 n]) w.stepsRequested ++ [u8 w.stepsDone, yesNo w.haltRequested] ++
    causeBytes w.interruptCause ++ opt 1 (fun o => [outcomeByte o]) w.lastOutcome ++
    [yesNo w.lifted, yesNo w.setDownSeen] ++ opt 7 tubBytes w.liftOff ++ opt 7 tubBytes w.setDown ++
    [yesNo w.siteMarked, u8 (s.held .walk), u8 (s.proven .walk), brakeByte w.brake.state, demandByte w.permit] ++
    time? w.brake.stopWait

/-! ### Count channel (kind 5) -/

/-- Some value for one channel alone. -/
def onlyFor {α : Type} (c m : Motion) (x : α) : Option α := if c = m then some x else none

/-- Switch armed, which WALK does not have. -/
def armedOf (s : State) (c : Motion) : Option Bool := c.dig?.map fun _ => (s.chans.ch.get c).armed

/-- The body of a count channel record. -/
def channelBytes (s : State) (c : Motion) : List Byte :=
  let ch := s.chans.ch.get c
  [u8 c.number] ++ i32 ch.position ++ opt 1 (fun d => [dirByte d]) ch.lastDirection ++ i32 ch.rateCounter ++
    i32 ch.rate ++ [u8 ch.quietWindows, yesNo (s.stopped c), refStateByte ch.refState] ++
    opt 1 (fun x => [suspectByte x]) ch.suspectCause ++ i32 (refValueOf s.k c) ++
    opt 8 (fun x : Capture => i32 x.position ++ u32 x.time) ch.capture ++
    opt 2 (fun t : BitVec 16 => u16 t.toNat) (onlyFor c .swing s.chans.turns) ++
    opt 2 u16 (onlyFor c .swing s.swingAngle) ++
    opt 1 (fun n : BitVec 8 => [n]) (onlyFor c .walk s.chans.stepCounter) ++ opt 2 u16 (onlyFor c .walk s.stride) ++
    opt 1 (fun b => [yesNo b]) (onlyFor c .walk s.inputs.tub) ++
    opt 7 tubBytes ((onlyFor c .walk s.chans.liftOff).join) ++
    opt 7 tubBytes ((onlyFor c .walk s.chans.setDown).join) ++ opt 1 (fun b => [yesNo b]) (armedOf s c)

/-! ### The resolver (kinds 6 to 9) -/

/-- An epoch that may be absent. -/
def epoch? (e : Option (BitVec 16)) : List Byte := opt 2 (fun x : BitVec 16 => u16 x.toNat) e

/-- The body of a permission in force. -/
def permissionBytes (s : State) (m : Dig) : List Byte :=
  let f := s.res.force
  [u8 m.motion.number, permissionByte (f.codes.get m), sourceByte f.source] ++ opt 3 cellBytes f.key ++ epoch? f.epoch

/-- The body of the lookahead permission. -/
def lookaheadBytes (s : State) : List Byte :=
  let l := s.res.look
  [permissionByte l.code, sourceByte l.source] ++ opt 3 cellBytes l.key ++ epoch? l.epoch ++
    opt 1 (fun d => [dirByte d]) l.direction

/-- The body of the resolver record. -/
def resolverBytes (s : State) : List Byte :=
  let r := s.res
  [if s.onCellPath then 0 else 1] ++ opt 3 cellBytes r.currentKey ++ opt 3 cellBytes r.lookKey ++
    opt 3 (fun f : InFlight => cellBytes f.key) r.inFlight ++ epoch? (r.inFlight.map InFlight.epoch) ++
    [u8 r.queue.length] ++ r.queue.flatMap cellBytes

/-- The winning zone of a cache entry, 255 for none. -/
def winnerByte (w : Option Nat) : Byte :=
  match w with
  | some i => u8 i
  | none => 255

/-- The codes and winning zone of a cache entry. -/
def resultBytes (x : Result) : List Byte :=
  [permissionByte x.codes.hoist, permissionByte x.codes.drag, permissionByte x.codes.swing, winnerByte x.winner]

/-- The body of a cache entry. -/
def cacheBytes (s : State) (i : Fin 16) : List Byte :=
  let e := s.res.cache.get i
  [u8 i.val, yesNo e.valid] ++ opt 3 (fun c : CacheContent => cellBytes c.key) e.content ++
    opt 4 (fun c : CacheContent => resultBytes c.result) e.content ++ epoch? (e.content.map CacheContent.epoch) ++
    opt 1 (fun a => [u8 a]) e.age

/-! ### Arbiter, alarms, supply and constants (kinds 10 to 14) -/

/-- A waiting-list entry. -/
def entryBytes (s : State) (e : Entry) : List Byte :=
  [u8 e.motion.number, u8 (s.wanted e.motion)] ++ u32 e.joinTime ++ time? e.shortSince

/-- The body of the arbiter record. -/
def arbiterBytes (s : State) : List Byte :=
  [u8 s.available, u8 s.coming] ++ opt 1 (fun m : Motion => [u8 m.number]) s.arb.countedMotion ++ [u8 s.arb.count] ++
    [u8 s.arb.list.length] ++ s.arb.list.flatMap (entryBytes s)

/-- The state of an alarm record. -/
def alarmStateByte : AlarmState → Byte
  | .activeUnack => 0
  | .activeAck => 1
  | .clearedUnack => 2

/-- The body of an alarm record. -/
def alarmBytes (slot : Nat) (r : AlarmRec) : List Byte :=
  [u8 slot] ++ keyBytes r.key ++ [classByte (baseClass r.key.code), classByte r.cls, alarmStateByte r.state,
    yesNo r.shelf.isSome] ++ opt 2 (fun h : Shelf => u16 h.minutes) r.shelf ++ [u8 r.raiseCount, u8 r.repeatRun] ++
    u32 r.firstRaised ++ u32 r.lastRaised ++ time? r.lastCleared ++ opt 1 (fun p => [portByte p]) r.ackBy

/-- A port's announce setting and attention line. -/
def announceBytes (s : State) (p : Port) : List Byte :=
  let a := s.alarms.announce.get p
  [yesNo a.announcing, u8 a.mask.toNat, yesNo (s.attentionLine p)]

/-- An unrecorded true condition. -/
def unrecordedBytes (c : Condition) : List Byte := keyBytes c.key ++ [classByte (baseClass c.key.code)] ++ u32 c.since

/-- The unrecorded conditions that a frame of 64 holds after the fixed fields (R161, R175). -/
def unrecordedShown : Nat := 7

/-- The body of the alarm table header (R150). -/
def headerBytes (s : State) : List Byte :=
  let unrecorded := s.alarms.unrecordedInOrder
  [u8 s.alarms.held] ++ u16 s.alarms.lostEvents ++ announceBytes s .cab ++ announceBytes s .service ++
    [u8 unrecorded.length] ++ (unrecorded.take unrecordedShown).flatMap unrecordedBytes

/-- The supply state. -/
def supplyByte : SupplyState → Byte
  | .run => 0
  | .holdup => 1

/-- The body of the supply record. -/
def supplyBytes (s : State) : List Byte :=
  [supplyByte s.supply.state] ++ time? s.supply.lastEntry ++ time? s.supply.lastReturn ++ [yesNo s.supply.marker]

/-- The body of a constant. -/
def constantBytes (s : State) (key : ConstKey) : List Byte :=
  [u8 key.no] ++ opt 1 (fun c : Motion => [u8 c.number]) key.channel ++ i32 (constValue s.k key)

/-! ### READ (R168) -/

/-- The alarm record of a key, with its slot. -/
def State.alarmRead (s : State) (key : AlarmKey) : Option (List Byte) :=
  match s.alarms.slotOf key, s.alarms.record key with
  | some i, some r => some (11 :: alarmBytes i r)
  | _, _ => none

/-- The answer body of a READ: the record kind, then the record; none where no record is held (R168, R175). -/
def State.recordOf (s : State) : RecordKey → Option (List Byte)
  | .zone i => some (1 :: zoneBytes i.val (s.zones.slots.get i))
  | .generator g => some (2 :: genBytes (g.val + 1) (s.gens.get g) (s.inputs.proof.get g))
  | .motion m => some (3 :: motionBytes s m)
  | .walk => some (4 :: walkBytes s)
  | .channel c => some (5 :: channelBytes s c)
  | .permission m => some (6 :: permissionBytes s m)
  | .lookahead => some (7 :: lookaheadBytes s)
  | .resolver => some (8 :: resolverBytes s)
  | .cacheEntry i => some (9 :: cacheBytes s i)
  | .arbiter => some (10 :: arbiterBytes s)
  | .alarm key => s.alarmRead key
  | .alarmHeader => some (12 :: headerBytes s)
  | .supply => some (13 :: supplyBytes s)
  | .constant key => some (14 :: constantBytes s key)

/-- The check that a read of a zone body makes (R32, R168). -/
def State.checkedFor (s : State) : RecordKey → State
  | .zone i => s.checkBody i
  | _ => s

/-! ### NEXT (R169) -/

/-- A number follows an optional starting number. -/
def follows (start : Option Nat) (n : Nat) : Bool :=
  match start with
  | none => true
  | some i => decide (i < n)

/-- The listing values of a record (R150). -/
def listingOf (r : AlarmRec) : ListingKey :=
  ⟨r.cls.rank, if r.state = .activeAck then 1 else 0, r.firstRaised, r.key.code, r.key.num⟩

/-- The listing order (R150). -/
def ListingKey.before (a b : ListingKey) : Bool :=
  decide (a.cls < b.cls ∨ (a.cls = b.cls ∧ (a.acknowledged < b.acknowledged ∨ (a.acknowledged = b.acknowledged ∧
    (a.firstRaised < b.firstRaised ∨ (a.firstRaised = b.firstRaised ∧
      (a.code < b.code ∨ (a.code = b.code ∧ a.num < b.num))))))))

/-- A listing key follows an optional starting key. -/
def follows? (start : Option ListingKey) (k : ListingKey) : Bool :=
  match start with
  | none => true
  | some i => i.before k

/-- The first in listing order of two keys. -/
def firstListed (best : Option ListingKey) (k : ListingKey) : Option ListingKey :=
  match best with
  | none => some k
  | some b => if k.before b then some k else some b

/-- The listing keys of the records held. -/
def Alarms.listing (a : Alarms) : List ListingKey := (a.slots.cells.filterMap id).map listingOf

/-- The alarm record that follows in listing order (R150). -/
def Alarms.nextListed (a : Alarms) (start : Option ListingKey) : Option AlarmKey :=
  ((a.listing.filter (follows? start)).foldl firstListed none).map fun k => ⟨k.code, k.num⟩

/-- The order of constants: number, then channel; a constant without a channel stands at its number (R169). -/
def constFollows (start : Option (Nat × Nat)) (key : ConstKey) : Bool :=
  match start with
  | none => true
  | some (no, channel) => decide (no < key.no) || (decide (no = key.no) && decide (channel < channelNumber key))
where
  /-- The channel number of a key, all ones without one. -/
  channelNumber (key : ConstKey) : Nat :=
    match key.channel with
    | some c => c.number
    | none => 255

/-- What NEXT returns, if a record follows (R169). -/
def State.nextOf (s : State) : NextKey → Option RecordKey
  | .zone start =>
    (slotsAll.find? fun i => follows start i.val && decide ((s.zones.slots.get i).state ≠ .empty)).map .zone
  | .generator start => (gensAll.find? fun g => follows start (g.val + 1) && decide (g.val < s.fitted)).map .generator
  | .motion start => (Dig.all.find? fun m => follows start m.motion.number).map .motion
  | .permission start => (Dig.all.find? fun m => follows start m.motion.number).map .permission
  | .channel start => (Motion.all.find? fun c => follows start c.number).map .channel
  | .cacheEntry start => ((List.finRange 16).find? fun i => follows start i.val).map .cacheEntry
  | .alarm start => (s.alarms.nextListed start).map .alarm
  | .constant start => (constantKeys.find? (constFollows start)).map .constant

/-! ### STATUS (R170) -/

/-- The characters SD410. -/
def partIdentity : List Byte := [0x53, 0x44, 0x34, 0x31, 0x30]

/-- The guard byte: 0 CLOSED, or the seconds remaining, a started second counted whole (R170, log entry 27). -/
def guardByte (left : Timer) : Byte :=
  match left with
  | none => 0
  | some ms => u8 (max 1 ((ms + 999) / 1000))

/-- The cab link timer. -/
def cabTimerByte : CabTimer → Byte
  | .stopped => 0
  | .running _ => 1
  | .expired => 2

/-- The attention lines. -/
def attentionByte (s : State) : Byte :=
  u8 ((if s.attentionLine .cab then 1 else 0) + if s.attentionLine .service then 2 else 0)

/-- The STATUS body (R170, R175). -/
def statusBytes (s : State) : List Byte :=
  let a := s.alarms.announce
  partIdentity ++ [u8 (Config.designLevelLessOne.val + 1), u8 s.fitted, supplyByte s.supply.state] ++
    u16 s.zones.epoch.toNat ++ u32 s.now ++
    [yesNo a.cab.announcing, u8 a.cab.mask.toNat, yesNo a.service.announcing, u8 a.service.mask.toNat,
     guardByte s.guardLeft, cabTimerByte s.cabTimer, yesNo s.commit.isSome, attentionByte s]

/-! ### The response frame (R161, R162, R175) -/

/-- One bit of the check: the register shifts, and the generator polynomial is taken from it when a one leaves (R162). -/
def crcBit (c : BitVec 16) (bit : Bool) : BitVec 16 :=
  if c.getLsbD 15 != bit then (c <<< 1) ^^^ 0x1021 else c <<< 1

/-- One byte of the check, most significant bit first (R162). -/
def crcByte (c : BitVec 16) (b : Byte) : BitVec 16 :=
  [7, 6, 5, 4, 3, 2, 1, 0].foldl (fun c i => crcBit c (b.getLsbD i)) c

/-- The frame check (R162). -/
def crc (bs : List Byte) : BitVec 16 := bs.foldl crcByte 0xFFFF

/-- The bytes of a response frame that its check covers. -/
def Answer.covered (a : Answer) : List Byte :=
  [u8 (4 + a.body.length), a.tag, a.code, statusByte a.status, reasonByte a.reason] ++ a.body

/-- The response frame of an answer (R162, R175). -/
def Answer.frame (a : Answer) : List Byte := [0xB6] ++ a.covered ++ u16 (crc a.covered).toNat

end Sys2Proof.Machine
end

