-- ==== Sys2Proof/Machine/Settle.lean ====
section
/-! DEFINITION. What every change of the part ends with: the conditions take their truth from their causes, the resolver
follows the channels, the motions, the walk and the arbiter follow one another, and the permits are composed. One change
is taken whole (R164), so all of this belongs to the command that makes the change. -/

namespace Sys2Proof.Machine

/-! ### Conditions that follow a record (R136) -/

/-- UNREFERENCED becomes false for a channel that is no longer UNREFERENCED (R17). -/
def State.unreferencedEnds (s : State) (c : Motion) : State :=
  if (s.chans.ch.get c).refState = .unreferenced then s else s.clearCondition ⟨7, c.number⟩

/-- COUNT JUMP of a channel: it is SUSPECT (R17). -/
def State.syncSuspect (s : State) (c : Motion) : State :=
  s.setCondition ⟨6, c.number⟩ (decide ((s.chans.ch.get c).refState = .suspect))

/-- UNREFERENCED of a channel (R17). -/
def State.syncUnreferenced (s : State) (c : Motion) : State :=
  s.setCondition ⟨7, c.number⟩ (decide ((s.chans.ch.get c).refState = .unreferenced))

/-- CONTACTOR NO PROOF of a generator as a condition (R70). -/
def State.syncNoProof (s : State) (g : Fin 12) : State := s.setCondition ⟨10, g.val + 1⟩ (s.gens.get g).keepsTrying

/-- CONTACTOR WELDED of a generator (R70). -/
def State.syncWelded (s : State) (g : Fin 12) : State :=
  s.setCondition ⟨11, g.val + 1⟩ ((s.gens.get g).showsWeld (s.proofs g))

/-- GENERATOR LOCKED OUT of a generator (R70). -/
def State.syncLockedOut (s : State) (g : Fin 12) : State := s.setCondition ⟨12, g.val + 1⟩ (s.gens.get g).isLockedOut

/-- COUNT JUMP and UNREFERENCED of the four channels. UNREFERENCED becomes false before COUNT JUMP becomes true, and
COUNT JUMP false before UNREFERENCED true, so at most one of the two is true for a channel at any time (R17). -/
def State.syncChannels (s : State) : State :=
  Motion.all.foldl State.syncUnreferenced (Motion.all.foldl State.syncSuspect (Motion.all.foldl State.unreferencedEnds s))

/-- The three codes of the generator table take their truth (R70). -/
def State.gensReport (s : State) : State :=
  gensAll.foldl State.syncLockedOut (gensAll.foldl State.syncWelded (gensAll.foldl State.syncNoProof s))

/-- The three codes of the generator table; in holdup they keep their truth (R69, R70). -/
def State.syncGens (s : State) : State := if s.inHoldup then s else s.gensReport

/-- The conditions of the zone table (R36). -/
def State.syncZones (s : State) : State := (slotsAll.foldl State.syncDefective s).syncStale

/-- The conditions that follow a record take their truth, code by code and number by number (R136, log entry 17). -/
def State.syncConditions (s : State) : State := s.syncChannels.syncGens.syncZones

/-! ### The end of a change -/

/-- The motions and the walk follow what they are composed of. -/
def State.passes (s : State) : State := s.motionsPass.walkPass

/-- The end of a change in RUN; `s0` is the state before the change. -/
def State.settleInRun (s0 s : State) : State :=
  (State.arbitrate s0 s.syncConditions.resolverFollow.passes).passes.starvedSync.compose

/-- The end of a change in HOLDUP: the motions, the walk and the generators stand (R156). -/
def State.settleInHoldup (s : State) : State := s.syncConditions.resolverFollow

/-- The end of a change (R164). -/
def State.settle (s0 s : State) : State :=
  match s.power with
  | .running => if s.inHoldup then s.settleInHoldup else State.settleInRun s0 s
  | .loading => s
  | .stopped => s

/-- An event acts on a running part, and the change is completed. -/
def State.event (s : State) (f : State → State) : State :=
  match s.power with
  | .running => State.settle s (f s)
  | .loading => s
  | .stopped => s

/-- An event that changes an input level: the level moves whatever the part does, and a running part acts on it. -/
def State.levelEvent (s : State) (level : Inputs → Inputs) (f : State → State) : State :=
  let t := { s with inputs := level s.inputs }
  match s.power with
  | .running => State.settle s (f t)
  | .loading => t
  | .stopped => t

end Sys2Proof.Machine
end

