-- ==== Sys2Proof/Machine/Supply.lean ====
section
/-! DEFINITION. The alarm table's own events (08), holdup entry, return and exhaustion (09), the settings store's writes
and the cold start (11). -/

namespace Sys2Proof.Machine

/-! ### The alarm table -/

/-- EMERGENCY_STOP_INPUT: EMERGENCY STOP takes the level of its input (R136). -/
def execEmergencyStopInput (stop : Bool) (s : State) : Host.Outcome State Fault Refusal :=
  .next (s.levelEvent (fun i => { i with estop := stop }) fun t => t.setCondition ⟨1, 0⟩ stop)

/-- A shelf counts down a minute (R144). -/
def State.shelfCounts (s : State) (key : AlarmKey) : State :=
  { s with alarms := s.alarms.onRecord key fun r => some r.shelfCounted }

/-- SHELF_MINUTE (R144). -/
def execShelfMinute (key : AlarmKey) (s : State) : Host.Outcome State Fault Refusal :=
  .next (s.event fun t => t.shelfCounts key)

/-! ### Holdup (R153–R159) -/

/-- SUPPLY LOST as a cause (R103, R111, R128). -/
def supplyLost : Cause := ⟨⟨3, 0⟩, .warn⟩

/-- Begin a write of the marker (R154). -/
def Store.writing (st : Store) (value : Bool) : Store := { st with markerWrite := some value }

/-- Every LEASE STARVED becomes false (R84). -/
def State.starvedCleared (s : State) : State := Motion.all.foldl (fun t m => t.clearCondition ⟨13, m.number⟩) s

/-- Every record follows the outputs at holdup entry (R50, R84, R111, R133, R155, R157). -/
def State.recordsAtEntry (s : State) : State :=
  { s with
    supply := { s.supply with state := .holdup, lastEntry := some s.now, marker := true }
    store := s.store.writing true
    res := s.res.atEntry
    arb := { s.arb with list := [] }
    motions := s.motions.map fun r => r.atEntry supplyLost
    walk := s.walk.atEntry supplyLost
    guardLeft := none
    cabTimer := .stopped }

/-- Holdup entry, in one change (R155). -/
def State.holdupEntry (s : State) : State := (s.recordsAtEntry.raiseCondition ⟨3, 0⟩).starvedCleared

/-- MAINS_LOSS: in RUN it begins holdup entry (R153, R155, R159). -/
def execMainsLoss (s : State) : Host.Outcome State Fault Refusal :=
  .next (s.levelEvent (fun i => { i with mains := false }) fun t => if t.inHoldup then t else t.holdupEntry)

/-- The number of a generator is in the withdrawn set (R67). -/
def isWithdrawn (k : Constants) (g : Fin 12) : Bool := k.withdrawn.getLsbD g.val

/-- The proof check at holdup return (R69). -/
def State.gensAtReturn (s : State) : Table Gen 12 :=
  ⟨gensAll.map fun g => checkedAtReturn s.k (s.proofs g) (isWithdrawn s.k g) (s.gens.get g), by
    rw [List.length_map]; exact List.length_finRange⟩

/-- Both ports' announcing becomes no, with their masks kept (R152). -/
def Alarms.quieted (a : Alarms) : Alarms :=
  { a with announce := ⟨{ a.announce.cab with announcing := false }, { a.announce.service with announcing := false }⟩ }

/-- Step 1: the proof check, on an arbiter whose list and counter are empty, and the codes of the generator table (R69, R70,
R84, R158). -/
def State.gensReturn (s : State) : State :=
  { s with
    gens := s.gensAtReturn
    arb := { s.arb with list := [], countedMotion := none, count := 0 } }.gensReport

/-- Step 2: the resolver empties its cache and looks its keys up, under the epoch as it stands before the marking of step 4
(R50, R158). DESIGN CHOICE, safe: the head is taken in this step too, so a marking finds the key in flight with the older
epoch, and its resolution is redone (R43, R45, log entry 52). -/
def State.resolverReturns (s : State) : State :=
  let t := { s with res := s.res.atReturn }
  { t with res := t.followedInRun }

/-- Step 3: a brake proof is read again. SETTING begins a full proof time, or ends at once where the proof shows set; SET
showing released becomes SETTING with BRAKE NOT SET true (R92, R94, R111, R134, R158). -/
def State.brakeReturns (s : State) (m : Motion) : State :=
  match (s.brake m).state with
  | .setting =>
    if s.showsReleased m then s.onBrake m fun b => b.timed s.k
    else (s.onBrake m Brake.provenSet).clearCondition ⟨9, m.number⟩
  | .set => if s.showsReleased m then (s.onBrake m Brake.liftedAlone).raiseCondition ⟨9, m.number⟩ else s
  | .releasing => s
  | .released => s

/-- Step 4: the staleness marking of a walk that lifted its tub in holdup (R134, R158). -/
def State.markAtReturn (s : State) : State := if !s.walk.siteMarked && s.walk.lifted then s.markSites else s

/-- Steps 5 and 6: the ports are quiet, the guard is closed and the cab link timer stopped (R152, R158). -/
def State.portsReturn (s : State) : State := { s with alarms := s.alarms.quieted, guardLeft := none, cabTimer := .stopped }

/-- Step 8: the supply state becomes RUN, with the marker's write as CLEAR begun (R154, R158). -/
def State.backInRun (s : State) : State :=
  { s with
    supply := { s.supply with state := .run, lastReturn := some s.now, marker := false }
    store := s.store.writing false }

/-- Holdup return, in one change, by its eight steps in their order (R158). BRAKE NOT SET becomes true while the supply state
is still HOLDUP, so its trip effect replaces no cause of a motion or of the walk (R103, R111, R134, R156). -/
def State.holdupReturn (s : State) : State :=
  ((Motion.all.foldl State.brakeReturns s.gensReturn.resolverReturns).markAtReturn.portsReturn.clearCondition
    ⟨3, 0⟩).backInRun

/-- MAINS_RETURN: in HOLDUP it begins holdup return (R153, R158). -/
def execMainsReturn (s : State) : Host.Outcome State Fault Refusal :=
  .next (s.levelEvent (fun i => { i with mains := true }) fun t => if t.inHoldup then t.holdupReturn else t)

/-- The store when the part stops or starts again: a COMMIT cut off leaves an image that fails its check, a marker write
cut off a marker that fails its own (R154, R160, R178, log entry 28). -/
def State.storeCut (s : State) : Store where
  image := match s.commit with
    | some _ => none
    | none => s.store.image
  marker := match s.store.markerWrite with
    | some _ => .unreadable
    | none => s.store.marker
  markerWrite := none

/-- HOLDUP_EXHAUSTED: in HOLDUP the part stops and its records are lost (R160). -/
def execHoldupExhausted (s : State) : Host.Outcome State Fault Refusal :=
  .next (if s.isRunning && s.inHoldup then State.dark .stopped s.pending s.storeCut s.inputs else s)

/-! ### The settings store -/

/-- The marker as the store holds it after a write. -/
def storedMarker (value : Bool) : StoredMarker := if value then .set else .clear

/-- A marker write completes (R154). -/
def Store.markerDone (st : Store) : Store :=
  match st.markerWrite with
  | some v => { st with marker := storedMarker v, markerWrite := none }
  | none => st

/-- MARKER_WRITE_DONE (R154). -/
def execMarkerWriteDone (s : State) : Host.Outcome State Fault Refusal :=
  .next (s.event fun t => { t with store := t.store.markerDone })

/-- The read-back of a COMMIT: the store keeps what the write left, and a mismatch is SETTINGS STORE FAULT (R178). -/
def State.commitEnds (s : State) (left : Option Image) : State :=
  match s.commit with
  | none => s
  | some c =>
    { s with commit := none, store := { s.store with image := left } }.setCondition ⟨20, 0⟩ (decide (left ≠ some c.image))

/-- COMMIT_WRITE_END: the operand is what the write left in the store, none where that fails its check (R178, log entry
32). -/
def execCommitWriteEnd (left : Option Image) (s : State) : Host.Outcome State Fault Refusal :=
  .next (s.event fun t => t.commitEnds left)

/-! ### The cold start (R180) -/

/-- A cold start begins: every record is lost, every output drops, and the load begins (R180, steps 1 to 3). -/
def State.coldStart (s : State) : State := State.dark .loading s.pending s.storeCut s.inputs

/-- POWER_ON, with mains present; with a holdup to return from it is no cold start (R153, R180, log entry 29). -/
def execPowerOn (s : State) : Host.Outcome State Fault Refusal :=
  .next
    (if s.isRunning && s.inHoldup then s
     else { s with inputs := { s.inputs with mains := true } }.coldStart)

/-- RESET_LINE; a part without supply has nothing to reset (R180, log entry 29). -/
def execResetLine (s : State) : Host.Outcome State Fault Refusal :=
  .next
    (match s.power with
     | .running => s.coldStart
     | .loading => s.coldStart
     | .stopped => s)

/-- The image that passes the load's tests (R176). -/
def Store.goodImage (st : Store) : Option Image :=
  match st.image with
  | some i => if constantsPass i.constants then some i else none
  | none => none

/-- A slot as it loads (R31). -/
def loadedSlot : StoredZone → ZoneSlot
  | .empty => ZoneSlot.empty
  | .defective rev w => ⟨.defective, rev, some w, ZoneBody.cleared, .sound⟩
  | .zone rev w body => ⟨if body.kind = .site then .stale else .inForce, rev, some w, body, .sound⟩

/-- The zone table as it loads, with the epoch counted from 0 to 1 (R29, R31). -/
def loadedZones (image : Option Image) : ZoneTable :=
  match image with
  | some i => ⟨i.zones.map loadedSlot, 1, 0⟩
  | none => ⟨Table.const 40 ZoneSlot.empty, 1, 0⟩

/-- The live constants as they load (R176). -/
def loadedConstants (image : Option Image) : Constants :=
  match image with
  | some i => i.constants
  | none => Constants.defaults

/-- The generator records of the proof check (R68, R181). -/
def loadedGens (k : Constants) (i : Inputs) : Table Gen 12 :=
  ⟨gensAll.map fun g =>
      if g.val < k.fittedCount then proofChecked k (i.proof.get g) (isWithdrawn k g) none else ⟨.noRecord, 0⟩, by
    rw [List.length_map]; exact List.length_finRange⟩

/-- A dig motion record at a cold start (R110). -/
def loadedMotion (k : Constants) (i : Inputs) (m : Dig) : MotionRec :=
  { MotionRec.cold with brake := Brake.atStart k (i.brakeProof.get m.motion) }

/-- The marker reads SET, or fails its own check (R154). -/
def Store.markerFound (st : Store) : Bool := decide (st.marker ≠ .clear)

/-- The blocks at their cold-start values (R180, step 4); the marker found SET is written CLEAR (R154). -/
def State.loaded (s : State) : State :=
  let image := s.store.goodImage
  let k := loadedConstants image
  { State.dark .running s.pending
      (if s.store.markerFound then s.store.writing false else s.store) s.inputs with
    clock := s.clock
    k := k
    fitted := k.fittedCount
    chans := Channels.cold k
    zones := loadedZones image
    res := Resolver.cold k
    gens := loadedGens k s.inputs
    motions := ⟨loadedMotion k s.inputs .hoist, loadedMotion k s.inputs .drag, loadedMotion k s.inputs .swing⟩
    walk := { WalkRec.cold with brake := Brake.atStart k (s.inputs.brakeProof.get .walk) } }

/-- The raise of HOLDUP EXHAUSTED (R151, R154). -/
def State.raiseExhausted (s : State) (found : Bool) : State := if found then s.raiseEvent ⟨4, 0⟩ else s

/-- The raises of a cold start, in code order (R151). -/
def State.coldRaises (s : State) (found failed : Bool) : State :=
  let a := (s.setCondition ⟨1, 0⟩ s.inputs.estop).raiseExhausted found
  let b := Motion.all.foldl State.syncUnreferenced a
  let c := gensAll.foldl State.syncLockedOut (gensAll.foldl State.syncWelded b)
  c.syncZones.setCondition ⟨20, 0⟩ failed

/-- A mains loss already shown when the load ends is taken then (R153, R180). -/
def State.mainsAtStart (s : State) : State := if s.inputs.mains then s else s.holdupEntry

/-- The end of a cold start (R180, steps 4 to 6). -/
def State.loadEnds (s : State) : State :=
  let t := s.loaded
  let u := (t.coldRaises s.store.markerFound s.store.goodImage.isNone).mainsAtStart
  State.settle t u

/-- SETTINGS_LOAD_END (R153, R154, R176, R180, R181). -/
def execSettingsLoadEnd (s : State) : Host.Outcome State Fault Refusal :=
  .next
    (match s.power with
     | .loading => s.loadEnds
     | .running => s
     | .stopped => s)

end Sys2Proof.Machine
end

