-- ==== Sys2Proof/Machine/Ports.lean ====
section
/-! DEFINITION. The request ports (10): taking a frame as a request with its tests in order (R164), the answers (R163,
R165), the lines' own events, the guard (R171), the cab link timer (R172–R174) and the reading requests (R168–R170). -/

namespace Sys2Proof.Machine

/-! ### Ports -/

/-- The value of the sync byte (R175). -/
def syncByte : Byte := 0xB6

/-- Change one port. -/
def State.onPort (s : State) (p : Port) (f : PortState → PortState) : State :=
  { s with ports := s.ports.set p (f (s.ports.get p)) }

/-- A port answers (R163). -/
def State.answer (s : State) (p : Port) (a : Answer) : State := s.onPort p fun q => { q with answer := some a }

/-- A frame has ended on a port: its receiver hunts (R161). -/
def State.hunt (s : State) (p : Port) : State := s.onPort p fun q => { q with receiver := .hunting }

/-- A port's answer is in progress (R163). -/
def State.answering (s : State) (p : Port) : Bool := (s.ports.get p).answer.isSome

/-- A valid Cab frame in RUN restarts the timer and clears CAB LINK LOST, before the tests (R173, R174). -/
def State.cabFrame (s : State) (p : Port) : State :=
  match p with
  | .cab =>
    if s.inHoldup then s
    else { s with cabTimer := .running s.k.cabLinkPeriod }.clearCondition ⟨2, 0⟩
  | .service => s

/-- A complete frame reaches a running part: one that completes while an answer is in progress is discarded (R163);
otherwise it is taken, in one change (R164). -/
def State.frameTaken (s : State) (p : Port) (take : State → State) : State :=
  match s.power with
  | .running =>
    if s.answering p then s.hunt p
    else State.settle s (take ((s.hunt p).cabFrame p))
  | .loading => s
  | .stopped => s

/-! ### Requests -/

/-- What R167 gives of a request: its code, its port, and whether it needs the guard, touches the store and is taken in
holdup; `restarts` marks RESTART, whose answer is followed by a cold start (R171, R179). -/
structure Spec where
  code : Byte
  cab : Bool
  service : Bool
  guarded : Bool
  store : Bool
  inHoldup : Bool
  restarts : Bool
  deriving DecidableEq, Repr

/-- The port may ask for the request (R167). -/
def Spec.allows (q : Spec) : Port → Bool
  | .cab => q.cab
  | .service => q.service

/-- What a request that passes its tests answers (R165). -/
structure Reply where
  status : Status
  reason : Reason
  body : List Byte
  deriving DecidableEq, Repr

/-- An answer without a body. -/
def Reply.of (st : Status) : Reply := ⟨st, .none, []⟩

/-- A refusal with its reason (R165). -/
def Reply.refused (r : Reason) : Reply := ⟨.refused, r, []⟩

/-- The state after a request's own part, with its reply. -/
structure Taken where
  state : State
  reply : Reply

/-- A request that changes nothing. -/
def State.replies (s : State) (r : Reply) : Taken := ⟨s, r⟩

/-- Store the answer (R162, R163). -/
def Taken.answered (t : Taken) (q : Spec) (f : Frame) (after : AfterSent) : State :=
  t.state.answer f.port ⟨f.tag, q.code, t.reply.status, t.reply.reason, t.reply.body, after⟩

/-- The guard is OPEN (R171). -/
def State.guardOpen (s : State) : Bool := s.guardLeft.isSome

/-- The tests before the request's own (R164, tests 2 to 6): the first that fails, with the answer. -/
def firstTests {α : Type} (q : Spec) (parsed : Field α) (p : Port) (s : State) : Option Reply :=
  if !q.allows p then some (Reply.of .wrongPort)
  else
    match parsed with
    | .error st => some (Reply.of st)
    | .ok _ =>
      if s.inHoldup && !q.inHoldup then some (Reply.refused .holdup)
      else if s.commit.isSome && q.store then some (Reply.of .busy)
      else none

/-- What the sending of the answer does once test 5 has been passed (R171). -/
def Spec.closes (q : Spec) : AfterSent := if q.guarded then .closeGuard else .nothing

/-- What the sending of the answer does once every test before the request's own has been passed (R171, R179). -/
def Spec.after (q : Spec) : AfterSent := if q.restarts then .closeGuardAndRestart else q.closes

/-- Test 6, and then the request's own part, answered (R164, R171). -/
def guardTest {α : Type} (q : Spec) (x : α) (act : α → State → Taken) (f : Frame) (s : State) : State :=
  if q.guarded && !s.guardOpen then (s.replies (Reply.of .guarded)).answered q f q.closes
  else (act x s).answered q f q.after

/-- A valid frame of a known code is taken as a request (R164). -/
def takeRequest {α : Type} (q : Spec) (parse : State → List Byte → Field α) (act : α → State → Taken)
    (f : Frame) (s : State) : State :=
  match firstTests q (parse s f.fields) f.port s with
  | some r => (s.replies r).answered q f .nothing
  | none =>
    match parse s f.fields with
    | .ok x => guardTest q x act f s
    | .error st => (s.replies (Reply.of st)).answered q f .nothing

/-- A request frame (R163, R164). -/
def request {α : Type} (q : Spec) (parse : State → List Byte → Field α) (act : α → State → Taken)
    (f : Frame) (s : State) : State :=
  s.frameTaken f.port (takeRequest q parse act f)

/-! ### Reading (R168–R170) -/

/-- The record that a key names, after the check that the read makes. -/
def State.readTaken (s : State) (key : RecordKey) : Taken :=
  let t := s.checkedFor key
  match t.recordOf key with
  | some body => ⟨t, ⟨.done, .none, body⟩⟩
  | none => ⟨t, Reply.of .noRecord⟩

/-- READ as R167 gives it. -/
def readSpec : Spec := ⟨1, true, true, false, false, true, false⟩

/-- READ (R168). -/
def execRead (f : Frame) (s : State) : Host.Outcome State Fault Refusal :=
  .next (request readSpec parseRead (fun key t => t.readTaken key) f s)

/-- The record that follows a starting key, if one does (R169). -/
def State.nextTaken (s : State) (start : NextKey) : Taken :=
  match s.nextOf start with
  | some key => s.readTaken key
  | none => s.replies (Reply.of .noRecord)

/-- NEXT as R167 gives it. -/
def nextSpec : Spec := ⟨2, true, true, false, false, true, false⟩

/-- NEXT (R169). -/
def execNext (f : Frame) (s : State) : Host.Outcome State Fault Refusal :=
  .next (request nextSpec parseNext (fun start t => t.nextTaken start) f s)

/-- STATUS as R167 gives it. -/
def statusSpec : Spec := ⟨3, true, true, false, false, true, false⟩

/-- STATUS (R170). -/
def execStatus (f : Frame) (s : State) : Host.Outcome State Fault Refusal :=
  .next (request statusSpec parseNothing (fun _ t => t.replies ⟨.done, .none, statusBytes t⟩) f s)

/-! ### The guard -/

/-- The length of the guard window in milliseconds (R171). -/
def guardWindow : Nat := 30000

/-- OPEN GUARD as R167 gives it. -/
def openGuardSpec : Spec := ⟨23, false, true, false, false, false, false⟩

/-- OPEN GUARD (R171). -/
def execOpenGuard (f : Frame) (s : State) : Host.Outcome State Fault Refusal :=
  .next (request openGuardSpec parseNothing
    (fun _ t => ⟨{ t with guardLeft := some guardWindow }, Reply.of .done⟩) f s)

/-- GUARD_WINDOW_END: the 30 s have run out (R171). -/
def execGuardWindowEnd (s : State) : Host.Outcome State Fault Refusal :=
  .next (s.event fun t => { t with guardLeft := none })

/-! ### The cab link timer -/

/-- The period runs out while the timer runs: EXPIRED, and CAB LINK LOST becomes true (R173). -/
def State.cabLinkEnds (s : State) : State :=
  match s.cabTimer with
  | .running _ => { s with cabTimer := .expired }.raiseCondition ⟨2, 0⟩
  | .stopped => s
  | .expired => s

/-- CAB_LINK_PERIOD_END (R173). -/
def execCabLinkPeriodEnd (s : State) : Host.Outcome State Fault Refusal := .next (s.event State.cabLinkEnds)

/-! ### The lines -/

/-- UNKNOWN: a valid frame whose request code is not known (R164, test 1). -/
def execUnknown (f : Frame) (code : Byte) (s : State) : Host.Outcome State Fault Refusal :=
  .next (s.frameTaken f.port fun t => t.answer f.port ⟨f.tag, code, .unknown, .none, [], .nothing⟩)

/-- A frame that fails its check: answered CHECK, nothing else (R162, R163). -/
def State.checkFails (s : State) (p : Port) (tag code : Byte) : State :=
  if s.answering p then s.hunt p else (s.hunt p).answer p ⟨tag, code, .check, .none, [], .nothing⟩

/-- CHECK (R162). -/
def execCheck (p : Port) (tag code : Byte) (s : State) : Host.Outcome State Fault Refusal :=
  .next (s.event fun t => t.checkFails p tag code)

/-- LENGTH_OUT_OF_RANGE: the frame ends without an answer (R161). -/
def execLengthOutOfRange (p : Port) (_length : Byte) (s : State) : Host.Outcome State Fault Refusal :=
  .next (s.event fun t => t.hunt p)

/-- After a gap the receiver hunts, and the byte that ended the gap is the first it examines (R161). -/
def State.gapEnds (s : State) (p : Port) (byte : Byte) : State :=
  s.onPort p fun q => { q with receiver := if byte = syncByte then .receiving else .hunting }

/-- FRAME_GAP (R161). -/
def execFrameGap (p : Port) (byte : Byte) (s : State) : Host.Outcome State Fault Refusal :=
  .next (s.event fun t => t.gapEnds p byte)

/-- LINE_BREAK_OR_FRAMING_ERROR: the frame is abandoned (R161). -/
def execLineBreakOrFramingError (p : Port) (s : State) : Host.Outcome State Fault Refusal :=
  .next (s.event fun t => t.hunt p)

/-- FRAME_DISCARDED: a frame that completes while the port's answer is in progress (R163). -/
def execFrameDiscarded (p : Port) (s : State) : Host.Outcome State Fault Refusal :=
  .next (s.event fun t => t.hunt p)

/-- What the sending of an answer does besides (R171, R179). -/
def State.afterSent (s : State) : AfterSent → State
  | .nothing => s
  | .closeGuard => { s with guardLeft := none }
  | .closeGuardAndRestart => s.coldStart

/-- The last byte of a port's answer has been sent (R163). -/
def State.answerLeaves (s : State) (p : Port) : State :=
  match (s.ports.get p).answer with
  | none => s
  | some a => (s.onPort p fun q => { q with answer := none }).afterSent a.after

/-- ANSWER_SENT (R163, R171, R179). -/
def execAnswerSent (p : Port) (s : State) : Host.Outcome State Fault Refusal :=
  .next (s.event fun t => t.answerLeaves p)

end Sys2Proof.Machine
end

