-- ==== Sys2Proof/Machine/Clock.lean ====
section
/-! DEFINITION. The tick: one millisecond of machine time and of every running timer. It is what a step does when no
command waits (log entry 3). A timer that has come to 0 waits for the command that is its end (log entry 4). -/

namespace Sys2Proof.Machine

/-- A brake's timers. -/
def Brake.tick (b : Brake) : Brake :=
  { b with proofTimer := Timer.tick b.proofTimer, stopTimer := Timer.tick b.stopTimer, late := Timer.tick b.late }

/-- A dig motion's timers. -/
def MotionRec.tick (r : MotionRec) : MotionRec := { r with brake := r.brake.tick, holdTimer := Timer.tick r.holdTimer }

/-- The walk's timers. -/
def WalkRec.tick (w : WalkRec) : WalkRec :=
  { w with
    brake := w.brake.tick
    prepareTimer := Timer.tick w.prepareTimer
    phaseTimer := Timer.tick w.phaseTimer
    dwellTimer := Timer.tick w.dwellTimer }

/-- A generator's proof time. -/
def Gen.tick (g : Gen) : Gen :=
  match g.st with
  | .moving v => { g with st := .moving { v with timer := Timer.tick v.timer } }
  | _ => g

/-- The shelf of an alarm record. -/
def AlarmRec.tick (r : AlarmRec) : AlarmRec := { r with shelf := r.shelf.map fun h => { h with next := h.next - 1 } }

/-- The cab link timer. -/
def CabTimer.tick : CabTimer → CabTimer
  | .running left => .running (left - 1)
  | .stopped => .stopped
  | .expired => .expired

/-- A rate window (R7). -/
def Chan.tick (ch : Chan) : Chan := { ch with windowLeft := ch.windowLeft - 1 }

/-- What runs in RUN and in HOLDUP: the machine clock, the rate windows, the shelves, a COMMIT (R156, R157). -/
def State.tickBoth (s : State) : State :=
  { s with
    clock := s.clock + 1
    chans := { s.chans with ch := s.chans.ch.map Chan.tick }
    alarms := { s.alarms with slots := s.alarms.slots.map (Option.map AlarmRec.tick) }
    commit := s.commit.map fun c => { c with timeLeft := c.timeLeft - 1 } }

/-- What runs in RUN alone (R69, R111, R133, R157). -/
def State.tickRun (s : State) : State :=
  { s with
    gens := s.gens.map Gen.tick
    motions := s.motions.map MotionRec.tick
    walk := s.walk.tick
    guardLeft := Timer.tick s.guardLeft
    cabTimer := s.cabTimer.tick }

/-- One millisecond (log entry 3). -/
def State.tick (s : State) : State :=
  match s.power with
  | .running => if s.inHoldup then s.tickBoth else s.tickBoth.tickRun
  | .loading => { s with clock := s.clock + 1 }
  | .stopped => s

end Sys2Proof.Machine
end

