-- ==== Sys2Proof/Machine/Generators.lean ====
section
/-! DEFINITION. The field events of the contactor sequencer (04) and of the lease arbiter (05), and the brake events of the
dig motions and the walk (06 R92–R94, 07 R118). In holdup the proof inputs move only their levels (R69, R111, log
entry 31). -/

namespace Sys2Proof.Machine

/-- Act in RUN alone. -/
def State.inRun (s : State) (f : State → State) : State := if s.inHoldup then s else f s

/-! ### Generators -/

/-- One generator takes an operation, with its event (R70). -/
def State.genTakes (s : State) (g : Fin 12) (f : Gen → GenResult) : State :=
  let r := f (s.gens.get g)
  let t := s.onGen g fun _ => r.gen
  if r.noProof then t.raiseEvent ⟨10, g.val + 1⟩ else t

/-- Write the level of a closure proof input. -/
def Inputs.setProof (i : Inputs) (g : Fin 12) (loop : Motion) (present : Bool) : Inputs :=
  { i with proof := i.proof.set g ((i.proof.get g).set loop present) }

/-- The sequencer compares a proof that changed with what the record expects (R54). -/
def State.proofChanges (s : State) (g : Fin 12) (loop : Motion) (present : Bool) : State :=
  s.inRun fun t =>
    t.genTakes g fun r =>
      if present then proofAppears t.k (t.proofs g) t.now loop r else proofLost t.k (t.proofs g) loop r

/-- A proof input takes a level (R54). -/
def State.proofEvent (s : State) (g : Fin 12) (loop : Motion) (present : Bool) : State :=
  s.levelEvent (fun i => i.setProof g loop present) fun t => t.proofChanges g loop present

/-- CLOSURE_PROOF: closure proof appears (R57; R63 where the record does not wait for it). -/
def execClosureProof (g : Fin 12) (loop : Motion) (s : State) : Host.Outcome State Fault Refusal :=
  .next (s.proofEvent g loop true)

/-- DROP_OUT_PROOF: closure proof goes absent (R56, R58; R63 where the record does not wait for it). -/
def execDropOutProof (g : Fin 12) (loop : Motion) (s : State) : Host.Outcome State Fault Refusal :=
  .next (s.proofEvent g loop false)

/-- STRAY_OR_LOST_PROOF (R63). -/
def execStrayOrLostProof (g : Fin 12) (loop : Motion) (present : Bool) (s : State) :
    Host.Outcome State Fault Refusal :=
  .next (s.proofEvent g loop present)

/-- LOCKED_OUT_PROOF_CHANGE: CONTACTOR WELDED follows the proof (R54, R70). -/
def execLockedOutProofChange (g : Fin 12) (loop : Motion) (present : Bool) (s : State) :
    Host.Outcome State Fault Refusal :=
  .next (s.proofEvent g loop present)

/-- OPENING_PROOF_TIME_END: no drop-out proof in time (R56). -/
def execOpeningProofTimeEnd (g : Fin 12) (s : State) : Host.Outcome State Fault Refusal :=
  .next (s.event fun t => t.inRun fun u => u.genTakes g fun r => (weldedAtTimeEnd r).quiet)

/-- FAILED_CLOSE: no closure proof in time (R58, R59). -/
def execFailedClose (g : Fin 12) (s : State) : Host.Outcome State Fault Refusal :=
  .next (s.event fun t => t.inRun fun u => u.genTakes g fun r => failedClose u.k (u.proofs g) r)

/-! ### The lease arbiter -/

/-- A release hold runs out (R81, R100). -/
def State.holdExpires (s : State) (m : Dig) : State :=
  if (s.motions.get m).state = .releasing ∧ (s.motions.get m).holdStart.isSome = true then s.endHold m else s

/-- RELEASE_HOLD_EXPIRY (R81, R100). -/
def execReleaseHoldExpiry (m : Dig) (s : State) : Host.Outcome State Fault Refusal :=
  .next (s.event fun t => t.inRun fun u => u.holdExpires m)

/-- The motion has an entry that has been short for longer than the starve time (R83). -/
def State.starvedNow (s : State) (m : Motion) : Bool :=
  s.arb.list.any fun e =>
    decide (e.motion = m) &&
      match e.shortSince with
      | some t => decide (s.k.starveTime < s.now - t)
      | none => false

/-- LEASE STARVED becomes true when an entry has been short for longer than the starve time (R83). -/
def State.starves (s : State) (m : Motion) : State := if s.starvedNow m then s.raiseCondition ⟨13, m.number⟩ else s

/-- STARVE_TIME_END (R83). -/
def execStarveTimeEnd (m : Motion) (s : State) : Host.Outcome State Fault Refusal :=
  .next (s.event fun t => t.inRun fun u => u.starves m)

/-! ### Brakes -/

/-- Write the level of a brake proof input; true shows released (R92). -/
def Inputs.setBrakeProof (i : Inputs) (m : Motion) (shows : Bool) : Inputs :=
  { i with brakeProof := i.brakeProof.set m shows }

/-- A brake in SET whose proof comes to show released has lifted without command (R94, R118). -/
def State.brakeShowsReleased (s : State) (m : Motion) : State :=
  s.inRun fun t =>
    if (t.brake m).state = .set then (t.onBrake m Brake.liftedAlone).raiseCondition ⟨9, m.number⟩ else t

/-- A brake in RELEASED whose proof shows set has dropped on (R93, R118). -/
def State.brakeShowsSet (s : State) (m : Motion) : State :=
  s.inRun fun t =>
    if (t.brake m).state = .released then
      (t.onBrake m fun b => b.dropped t.k false).raiseEvent ⟨8, m.number⟩
    else t

/-- What began at a set proof waits for the next one: a dig motion's release hold and the walk's dwell time (R99, R124, log
entry 44). -/
def State.putOff (s : State) (m : Motion) : State :=
  match m.dig? with
  | some d => s.onMotion d MotionRec.holdPutOff
  | none => s.onWalk fun w => { w with dwellTimer := none }

/-- A release proof: a late one, within the proof time of the setting that the drop from RELEASING began, takes up the
setting again (R93, R117); of a brake SET otherwise it is a lift without command (R94). DESIGN CHOICE, unsafe: the release
hold, and the dwell time of a walk in DWELL, that the SET brake had begun wait for the set proof again, as R99 and R124
begin each at a set proof (log entry 44). -/
def State.releaseProofComes (s : State) (m : Motion) : State :=
  s.inRun fun t =>
    if (t.brake m).state = .set ∧ (t.brake m).late.isSome = true then (t.onBrake m Brake.settingAgain).putOff m
    else t.brakeShowsReleased m

/-- The brake proof comes to show released without command (R94). -/
def State.liftEvent (s : State) (m : Motion) : State :=
  s.levelEvent (fun i => i.setBrakeProof m true) fun t => t.brakeShowsReleased m

/-- The brake proof comes to show set. A step that waits for it ends in the same change (R92, R94). -/
def State.setEvent (s : State) (m : Motion) : State :=
  s.levelEvent (fun i => i.setBrakeProof m false) fun t => t.brakeShowsSet m

/-- BRAKE_RELEASE_PROOF (R93, R116, R118). -/
def execBrakeReleaseProof (m : Motion) (s : State) : Host.Outcome State Fault Refusal :=
  .next (s.levelEvent (fun i => i.setBrakeProof m true) fun t => t.releaseProofComes m)

/-- BRAKE_SET_PROOF (R94, R81, R104, R118, R126). -/
def execBrakeSetProof (m : Motion) (s : State) : Host.Outcome State Fault Refusal := .next (s.setEvent m)

/-- RELEASE_PROOF_LOST (R93, R118). -/
def execReleaseProofLost (m : Motion) (s : State) : Host.Outcome State Fault Refusal := .next (s.setEvent m)

/-- BRAKE_LIFT_WITHOUT_COMMAND (R94, R118). -/
def execBrakeLiftWithoutCommand (m : Motion) (s : State) : Host.Outcome State Fault Refusal := .next (s.liftEvent m)

/-- The brake proof time ends in RELEASING (R93, R118). -/
def State.releaseTimeEnds (s : State) (m : Motion) : State :=
  if (s.brake m).state = .releasing then
    (s.onBrake m fun b => b.dropped s.k false).raiseEvent ⟨8, m.number⟩
  else s

/-- BRAKE_RELEASE_TIME_END (R93, R118). -/
def execBrakeReleaseTimeEnd (m : Motion) (s : State) : Host.Outcome State Fault Refusal :=
  .next (s.event fun t => t.inRun fun u => u.releaseTimeEnds m)

/-- The brake proof time ends in SETTING (R94, R118). Of a brake that was SET at once it ends the wait for a late release
proof (log entry 44). -/
def State.setTimeEnds (s : State) (m : Motion) : State :=
  let t := s.onBrake m fun b => { b with late := none }
  if (s.brake m).state = .setting then
    (t.onBrake m fun b => { b with proofTimer := none }).raiseCondition ⟨9, m.number⟩
  else t

/-- BRAKE_SET_TIME_END (R94, R118). -/
def execBrakeSetTimeEnd (m : Motion) (s : State) : Host.Outcome State Fault Refusal :=
  .next (s.event fun t => t.inRun fun u => u.setTimeEnds m)

/-- The stop timeout ends a stop wait (R94, R118). -/
def State.stopTimesOut (s : State) (m : Motion) : State :=
  s.onBrake m fun b =>
    match b.state, b.stopWait with
    | .released, some _ => b.dropped s.k true
    | _, _ => b

/-- STOP_TIMEOUT (R94, R118). -/
def execStopTimeout (m : Motion) (s : State) : Host.Outcome State Fault Refusal :=
  .next (s.event fun t => t.inRun fun u => u.stopTimesOut m)

/-! ### Walk timers (07) -/

/-- The prepare timer ends the walk (R117). -/
def State.prepareTimesOut (s : State) : State :=
  if s.walk.state = .preparing ∧ s.walk.ending = none then
    (s.onWalk fun w => w.ended s.k .prepareFailed).raiseEvent ⟨17, 0⟩
  else s

/-- PREPARE_TIMEOUT (R117). -/
def execPrepareTimeout (s : State) : Host.Outcome State Fault Refusal :=
  .next (s.event fun t => t.inRun State.prepareTimesOut)

/-- A phase outlasts the phase timeout while its timer runs (R120). -/
def State.phaseTimesOut (s : State) : State :=
  match s.walk.phase, s.walk.phaseTimer with
  | some p, some _ => if s.walk.stepping then s.raiseEvent ⟨18, p.number⟩ else s
  | _, _ => s

/-- PHASE_TIMEOUT (R120). -/
def execPhaseTimeout (s : State) : Host.Outcome State Fault Refusal := .next (s.event fun t => t.inRun State.phaseTimesOut)

/-- The walk record at the end of its dwell time (R125). -/
def WalkRec.dwellEnded (w : WalkRec) (k : Constants) : WalkRec :=
  if some w.stepsDone = w.stepsRequested then w.ended k .completed
  else if w.haltRequested then w.ended k .halted
  else { w.stepBegun k .lowerShoes with dwellTimer := none }

/-- The dwell time ends (R125). -/
def State.dwellEnds (s : State) : State :=
  if s.walk.state = .stepping ∧ s.walk.phase = some .dwell ∧ s.walk.ending = none ∧ s.walk.dwellTimer.isSome = true then
    s.onWalk fun w => w.dwellEnded s.k
  else s

/-- DWELL_END (R125, R126). -/
def execDwellEnd (s : State) : Host.Outcome State Fault Refusal := .next (s.event fun t => t.inRun State.dwellEnds)

end Sys2Proof.Machine
end

