-- ==== Sys2Proof/Machine/Channels.lean ====
section
/-! DEFINITION. The count channels (01): counts, rate windows, reference edges and tub bearing captures, with what the
walk sequencer takes of them (07 R113, R121–R124). -/

namespace Sys2Proof.Machine

/-! ### Channel records -/

/-- The lower and upper range limits of HOIST, DRAG and WALK positions (R3, R5). -/
def positionMin : Int := -134217728

/-- The upper range limit. -/
def positionMax : Int := 134217727

/-- The limit of the rate counter (R7). -/
def rateLimit : Int := 1048575

/-- Plus one for PLUS, minus one for MINUS. -/
def Dir.sign : Dir → Int
  | .plus => 1
  | .minus => -1

/-- The rate counter after a count, saturating (R7). -/
def rateCounted (n : Int) (d : Dir) : Int := max (-rateLimit) (min rateLimit (n + Dir.sign d))

/-- A channel becomes SUSPECT with a cause (R13). -/
def Chan.suspected (ch : Chan) (cause : SuspectCause) : Chan := { ch with refState := .suspect, suspectCause := some cause }

/-- A channel becomes UNREFERENCED (R15). -/
def Chan.unreferenced (ch : Chan) : Chan := { ch with refState := .unreferenced, suspectCause := none, armed := false }

/-- A count taken whole, with the position it moves to (R1). -/
def Chan.counted (ch : Chan) (d : Dir) (position : Int) (disarms : Bool) : Chan :=
  { ch with
    position := position
    rateCounter := rateCounted ch.rateCounter d
    lastDirection := some d
    armed := ch.armed && !disarms }

/-- A count in the direction other than the reference direction clears switch armed (R11). -/
def disarms (k : Constants) (c : Motion) (d : Dir) : Bool :=
  match c.dig? with
  | some m => decide (d ≠ (k.reference.get m).direction)
  | none => false

/-- A count of a channel that has range limits: lost beyond a limit, with cause LIMIT (R3, R5, log entry 10). -/
def Chan.countedInRange (ch : Chan) (d : Dir) (position : Int) (off : Bool) : Chan :=
  if position < positionMin ∨ positionMax < position then ch.suspected .limit else ch.counted d position off

/-- The SWING position after a count, with the turn it counts (R4). -/
def swingCounted (position : Int) (cpr : Nat) (d : Dir) : Int × Int :=
  match d with
  | .plus => if position + 1 = cpr then (0, 1) else (position + 1, 0)
  | .minus => if position = 0 then (cpr - 1, -1) else (position - 1, 0)

/-- A WALK position whose magnitude shows a missed cam index (R5). -/
def missedIndex (cpr : Nat) (position : Int) : Bool := decide (cpr + cpr / 8 < position.natAbs)

/-- A WALK count: the range limit, then the missed index (R5, log entry 11). -/
def Chan.walkCounted (ch : Chan) (cpr : Nat) (d : Dir) : Chan :=
  let position := ch.position + Dir.sign d
  if position < positionMin ∨ positionMax < position then ch.suspected .limit
  else
    let n := ch.counted d position false
    if missedIndex cpr position then n.suspected .missedIndex else n

/-- The SWING channel after a count: position and turns (R4). -/
def State.countSwing (s : State) (d : Dir) : State :=
  let ch := s.chans.ch.swing
  let r := swingCounted ch.position s.k.cprSwing d
  { s with chans := { s.chans with
      ch := { s.chans.ch with swing := ch.counted d r.1 (disarms s.k .swing d) }
      turns := s.chans.turns + BitVec.ofInt 16 r.2 } }

/-- One count of a channel (R1, R3–R5). -/
def State.countChan (s : State) (c : Motion) (d : Dir) : State :=
  match c with
  | .hoist => s.onChan .hoist fun ch => ch.countedInRange d (ch.position - Dir.sign d) (disarms s.k .hoist d)
  | .drag => s.onChan .drag fun ch => ch.countedInRange d (ch.position - Dir.sign d) (disarms s.k .drag d)
  | .swing => s.countSwing d
  | .walk => s.onChan .walk fun ch => ch.walkCounted s.k.cprWalk d

/-! ### The walk follows its cams (R113, R123) -/

/-- The set-down proof fails (R123). -/
def State.setDownFails (s : State) : Bool := !(s.walk.setDownSeen && s.inputs.tub)

/-- The phase follows the stride position; from SET DOWN to RAISE SHOES the set-down proof is taken (R113, R123). -/
def State.walkPhaseFollows (s : State) : State :=
  if s.walk.stepping then
    let p := phaseOf s.k s.stride
    let t := s.onWalk fun w => w.phased s.k p
    if s.walk.phase = some .setDown ∧ p = .raiseShoes ∧ s.setDownFails = true then t.raiseEvent ⟨19, 0⟩ else t
  else s

/-- The phase follows a WALK count that changes the stride position, and no other (R113). -/
def State.walkStrides (s t : State) : State := if t.stride = s.stride then t else t.walkPhaseFollows

/-- A count with what it brings to the walk. -/
def State.count (s : State) (c : Motion) (d : Dir) : State :=
  if c = .walk then s.walkStrides (s.countChan .walk d) else s.countChan c d

/-! ### Encoder decoding (R1, R2) -/

/-- Write the level of an encoder input. -/
def Inputs.setEncoder (i : Inputs) (c : Motion) (input : EncoderInput) (level : Bool) : Inputs :=
  match input with
  | .a => { i with encA := i.encA.set c level }
  | .b => { i with encB := i.encB.set c level }

/-- The level of an encoder input. -/
def Inputs.encoder (i : Inputs) (c : Motion) (input : EncoderInput) : Bool :=
  match input with
  | .a => i.encA.get c
  | .b => i.encB.get c

/-- PLUS or MINUS with count sense NORMAL, the other with INVERTED (R1, R2). -/
def senseDir (sense : CountSense) (plus : Bool) : Dir :=
  match sense, plus with
  | .normal, true => .plus
  | .normal, false => .minus
  | .inverted, true => .minus
  | .inverted, false => .plus

/-- A change of A or B counts at a multiplier in QUADRATURE (R1). -/
def quadratureCounts (x : Multiplier) (input : EncoderInput) (level : Bool) : Bool :=
  match x, input with
  | .x4, _ => true
  | .x2, .a => true
  | .x2, .b => false
  | .x1, .a => level
  | .x1, .b => false

/-- A change in which A leads B: A changes away from the level of B, or B changes to the level of A (R1). -/
def aLeads (input : EncoderInput) (level other : Bool) : Bool :=
  match input with
  | .a => decide (level ≠ other)
  | .b => decide (level = other)

/-- The other encoder input. -/
def otherInput : EncoderInput → EncoderInput
  | .a => .b
  | .b => .a

/-- The count of a quadrature change, if it is one (R1). -/
def quadratureDir (k : Constants) (i : Inputs) (c : Motion) (input : EncoderInput) (level : Bool) : Option Dir :=
  let x := k.channel.get c
  if x.mode = .quadrature ∧ i.encoder c input ≠ level ∧ quadratureCounts x.multiplier input level = true then
    some (senseDir x.sense (aLeads input level (i.encoder c (otherInput input))))
  else none

/-- A change of B counts at a multiplier in COUNT/DIRECTION (R2). -/
def directionCounts (x : Multiplier) (input : EncoderInput) (level : Bool) : Bool :=
  match input, x with
  | .a, _ => false
  | .b, .x1 => level
  | .b, .x2 => true
  | .b, .x4 => false

/-- The count of a change in COUNT/DIRECTION, if it is one (R2). -/
def countDirectionDir (k : Constants) (i : Inputs) (c : Motion) (input : EncoderInput) (level : Bool) : Option Dir :=
  let x := k.channel.get c
  if x.mode = .countDirection ∧ i.encoder c input ≠ level ∧ directionCounts x.multiplier input level = true then
    some (senseDir x.sense (i.encoder c .a))
  else none

/-- Take a count that may be none. -/
def State.count? (s : State) (c : Motion) (d : Option Dir) : State :=
  match d with
  | some d => s.count c d
  | none => s

/-- QUADRATURE_COUNT: a change of A or B in QUADRATURE (R1, R3–R5). -/
def execQuadratureCount (c : Motion) (input : EncoderInput) (level : Bool) (s : State) :
    Host.Outcome State Fault Refusal :=
  .next (s.levelEvent (fun i => i.setEncoder c input level) fun t =>
    t.count? c (quadratureDir s.k s.inputs c input level))

/-- COUNT_DIRECTION_COUNT: a change of A or B in COUNT/DIRECTION (R2–R5). -/
def execCountDirectionCount (c : Motion) (input : EncoderInput) (level : Bool) (s : State) :
    Host.Outcome State Fault Refusal :=
  .next (s.levelEvent (fun i => i.setEncoder c input level) fun t =>
    t.count? c (countDirectionDir s.k s.inputs c input level))

/-- A and B change together. -/
def Inputs.flipEncoder (i : Inputs) (c : Motion) : Inputs :=
  { i with encA := i.encA.set c (!i.encA.get c), encB := i.encB.set c (!i.encB.get c) }

/-- A and B seen changing together make a QUADRATURE channel SUSPECT (R1, R13); COUNT/DIRECTION knows no such error
(R2). -/
def State.quadratureFault (s : State) (c : Motion) : State :=
  if (s.k.channel.get c).mode = .quadrature then s.onChan c fun ch => ch.suspected .quadrature else s

/-- QUADRATURE_ERROR (R1, R13). -/
def execQuadratureError (c : Motion) (s : State) : Host.Outcome State Fault Refusal :=
  .next (s.levelEvent (fun i => i.flipEncoder c) fun t => t.quadratureFault c)

/-! ### Rate windows (R7–R10) -/

/-- Quiet windows at a window end (R8). -/
def quietAfter (quiet threshold : Nat) (rate : Int) : Nat := if rate.natAbs ≤ threshold then min (quiet + 1) 3 else 0

/-- A channel record at its window end (R7, R8, R10). -/
def Chan.windowEnded (ch : Chan) (x : ChannelConstants) : Chan :=
  let n :=
    { ch with
      rate := ch.rateCounter
      rateCounter := 0
      quietWindows := quietAfter ch.quietWindows x.stoppedThreshold ch.rateCounter
      windowLeft := x.rateWindow }
  if x.plausibilityLimit < ch.rateCounter.natAbs then n.suspected .jump else n

/-- OVERSPEED holds for a rate (R9). -/
def overspeed (x : ChannelConstants) (rate : Int) : Bool := decide (x.overspeedLimit < rate.natAbs)

/-- A rate window ends (R7–R10). A channel that it makes SUSPECT is UNREFERENCED no longer before any code is raised
(R17, log entry 17). -/
def State.windowEnd (s : State) (c : Motion) : State :=
  let x := s.k.channel.get c
  let t := (s.onChan c fun ch => ch.windowEnded x).unreferencedEnds c
  t.setCondition ⟨5, c.number⟩ (overspeed x (t.chans.ch.get c).rate)

/-- RATE_WINDOW_END (R7–R10, R90, R94). -/
def execRateWindowEnd (c : Motion) (s : State) : Host.Outcome State Fault Refusal := .next (s.event fun t => t.windowEnd c)

/-! ### Reference edges (R11, R12) -/

/-- The reference mode preloads a REFERENCED channel: EVERY EDGE, and always WALK (R12). -/
def preloads (k : Constants) (c : Motion) : Bool :=
  match c.dig? with
  | some m => decide ((k.reference.get m).mode = .everyEdge)
  | none => true

/-- A channel record at its reference edge (R12). -/
def Chan.atEdge (ch : Chan) (k : Constants) (c : Motion) (now : Nat) : Chan :=
  if ch.refState = .referenced then
    { ch with
      capture := some ⟨ch.position, now⟩
      position := if preloads k c then refValueOf k c else ch.position }
  else { ch with position := refValueOf k c, suspectCause := none, refState := .referenced }

/-- The turns counter at a SWING reference edge (R4, R12). -/
def turnsAtEdge (turns : BitVec 16) (ch : Chan) (k : Constants) : BitVec 16 :=
  if ch.refState = .referenced then
    if preloads k .swing && decide ((k.cprSwing : Int) ≤ 2 * ch.position) then turns + 1 else turns
  else 0

/-- A reference edge (R12). -/
def State.referenceEdge (s : State) (c : Motion) : State :=
  let t := s.onChan c fun ch => ch.atEdge s.k c s.now
  if c = .swing then
    { t with chans := { t.chans with turns := turnsAtEdge s.chans.turns s.chans.ch.swing s.k } }
  else t

/-- The last direction is the reference direction (R11). -/
def State.inReferenceDirection (s : State) (c : Dig) : Bool :=
  decide ((s.chans.ch.get c.motion).lastDirection = some (s.k.reference.get c).direction)

/-- Set or clear switch armed. -/
def State.arm (s : State) (c : Dig) (b : Bool) : State := s.onChan c.motion fun ch => { ch with armed := b }

/-- The making of a reference switch (R11). -/
def State.switchMade (s : State) (c : Dig) : State :=
  if s.inReferenceDirection c then
    match (s.k.reference.get c).qualifier with
    | .switch => s.referenceEdge c.motion
    | .switchThenIndex => s.arm c true
  else s

/-- REFERENCE_SWITCH_MAKE (R11, R12). -/
def execReferenceSwitchMake (c : Dig) (s : State) : Host.Outcome State Fault Refusal :=
  .next (s.levelEvent (fun i => { i with refSwitch := i.refSwitch.set c true }) fun t => t.switchMade c)

/-- REFERENCE_SWITCH_BREAK clears switch armed (R11). -/
def execReferenceSwitchBreak (c : Dig) (s : State) : Host.Outcome State Fault Refusal :=
  .next (s.levelEvent (fun i => { i with refSwitch := i.refSwitch.set c false }) fun t => t.arm c false)

/-- The encoder index is the reference edge: armed, the switch still made, in the reference direction (R11). -/
def State.indexTaken (s : State) (c : Dig) : Bool :=
  decide ((s.k.reference.get c).qualifier = .switchThenIndex) && (s.chans.ch.get c.motion).armed &&
    s.inputs.refSwitch.get c && s.inReferenceDirection c

/-- A rising encoder index (R11). -/
def State.encoderIndex (s : State) (c : Dig) : State :=
  if s.indexTaken c then (s.referenceEdge c.motion).arm c false else s

/-- ENCODER_INDEX (R11, R12). -/
def execEncoderIndex (c : Dig) (s : State) : Host.Outcome State Fault Refusal := .next (s.event fun t => t.encoderIndex c)

/-! ### The cam index (R5, R6, R124) -/

/-- The step counter at a cam index (R6). -/
def stepCounted (n : BitVec 8) (last : Option Dir) (d : Dir) : BitVec 8 :=
  match last with
  | none => n
  | some l => if l = d then n + 1 else if n = 0 then 0 else n - 1

/-- The WALK channel at a cam index: the reference edge and the step counter (R5, R6, R12). -/
def State.camCounted (s : State) : State :=
  let t := s.referenceEdge .walk
  { t with chans := { t.chans with
      stepCounter := stepCounted s.chans.stepCounter s.chans.ch.walk.lastDirection s.walk.direction } }

/-- Steps done at a cam index, no more than steps requested (R124). -/
def State.stepsDoneNow (s : State) : Nat := min s.chans.stepCounter.toNat (s.walk.stepsRequested.getD 0)

/-- The walk record at a cam index (R124, log entry 12). -/
def State.walkAtIndex (s : State) : State :=
  if s.walk.state = .idle then s
  else
    let t := s.onWalk fun w => { w with stepsDone := s.stepsDoneNow }
    if t.walk.stepping then
      if s.chans.ch.walk.lastDirection = some s.walk.direction then t.onWalk fun w => w.dwelling s.k
      else t.walkPhaseFollows
    else t

/-- CAM_INDEX (R5, R6, R12, R124). -/
def execCamIndex (s : State) : Host.Outcome State Fault Refusal := .next (s.event fun t => t.camCounted.walkAtIndex)

/-! ### The tub bearing (R14, R121, R122) -/

/-- The capture of a tub bearing edge (R14). -/
def State.tubCapture (s : State) : TubCapture := ⟨s.stride, s.now, s.referenced .walk⟩

/-- The lift-off of a walk under way (R121, R122). -/
def State.walkLiftsOff (s : State) : State :=
  if s.walk.state = .idle then s
  else
    let t := s.onWalk fun w => { w with liftOff := some s.tubCapture, lifted := true, setDownSeen := false }
    if !s.walk.siteMarked && !s.inHoldup then t.markSites else t

/-- A bearing-off edge (R14, R121, R122). -/
def State.tubLiftsOff (s : State) : State :=
  { s with chans := { s.chans with liftOff := some s.tubCapture } }.walkLiftsOff

/-- TUB_LIFT_OFF (R14, R121, R122). -/
def execTubLiftOff (s : State) : Host.Outcome State Fault Refusal :=
  .next (s.levelEvent (fun i => { i with tub := false }) fun t => t.tubLiftsOff)

/-- A set-down that counts for the set-down proof (R121). -/
def State.setDownCounts (s : State) : Bool :=
  decide (s.walk.state = .stepping ∨ s.walk.state = .interrupted) && s.walk.lifted &&
    decide (s.k.strideEnd ≤ s.stride ∧ s.stride < s.k.setDownEnd)

/-- The set-down of a walk under way (R121). -/
def State.walkSetsDown (s : State) : State :=
  if s.walk.state = .idle then s
  else s.onWalk fun w => { w with setDown := some s.tubCapture, setDownSeen := w.setDownSeen || s.setDownCounts }

/-- A bearing-on edge (R14, R121). -/
def State.tubSetsDown (s : State) : State :=
  { s with chans := { s.chans with setDown := some s.tubCapture } }.walkSetsDown

/-- TUB_SET_DOWN (R14, R121). -/
def execTubSetDown (s : State) : Host.Outcome State Fault Refusal :=
  .next (s.levelEvent (fun i => { i with tub := true }) fun t => t.tubSetsDown)

end Sys2Proof.Machine
end

