-- ==== Sys2Proof/Machine/Requests.lean ====
section
/-! DEFINITION. The requests that change records: demands, arms and walk orders (06, 07), zone edits (02), channels (01),
alarms (08), generators (04), and the settings (11). Each gives its own part, after the tests of R164. -/

namespace Sys2Proof.Machine

/-- A request done, with its change. -/
def State.done (s : State) : Taken := ⟨s, Reply.of .done⟩

/-- A request accepted, with its change. -/
def State.accepted (s : State) : Taken := ⟨s, Reply.of .accepted⟩

/-- A request refused with a reason: nothing is changed (R165). -/
def State.refuses (s : State) (r : Reason) : Taken := s.replies (Reply.refused r)

/-! ### DEMAND (R88–R90, R99) -/

/-- Reversal pending after a DEMAND with a direction (R90). -/
def reversalAfter (old stopped : Bool) (last : Option Dir) (d : Dir) : Bool :=
  if stopped then false
  else if last = some d.opposite then true
  else if last = some d then false
  else old

/-- The state of a motion after a DEMAND with a direction (R88). -/
def stateAfterDemand (st : MotionState) (leased : Bool) : MotionState :=
  match st with
  | .idle => .acquiring
  | .releasing => if leased then .ready else .acquiring
  | .acquiring => .acquiring
  | .ready => .ready
  | .tripped => .tripped
  | .locked => .locked

/-- A DEMAND with a direction (R88, R90); it ends a release hold with the generators kept (R81). DESIGN CHOICE, safe: one
taken in IDLE, which it leaves for ACQUIRING, sets reversal pending too while the drum turns the other way, though R90 may
be read as naming the states in which the DEMAND finds the motion (log entry 54). -/
def State.demandMotion (s : State) (m : Dig) (d : Dir) (c : Complement) : State :=
  s.onMotion m fun r =>
    { r with
      state := stateAfterDemand r.state (s.leased m.motion)
      demand := some d
      complement := c
      holdStart := none
      holdTimer := none
      reversal := reversalAfter r.reversal (s.stopped m.motion) (s.chans.ch.get m.motion).lastDirection d }

/-- A DEMAND with direction NONE (R88, R99). -/
def MotionRec.demandNone (r : MotionRec) (c : Complement) : MotionRec :=
  match r.state with
  | .acquiring => r.released c
  | .ready => r.released c
  | .idle => { r with complement := c }
  | .releasing => { r with complement := c }
  | .tripped => r
  | .locked => r

/-- What a DEMAND that is taken does to the motion and, for a lowered complement, to what it holds (R75, R88, log entry
20). -/
def State.demandActs (s : State) (m : Dig) (d : Option Dir) (c : Complement) : State :=
  match d with
  | none => s.onMotion m fun r => r.demandNone c
  | some d => (s.demandMotion m d c).giveBack m.motion

/-- A DEMAND repeats the present direction and complement (R88). -/
def MotionRec.repeats (r : MotionRec) (d : Option Dir) (c : Complement) : Bool :=
  decide (r.demand = d) && decide (r.complement = c)

/-- DEMAND's own part (R88, log entry 21). -/
def State.demandTaken (s : State) (x : Dig × Option Dir × Complement) : Taken :=
  let r := s.motions.get x.1
  if r.state = .tripped then s.refuses .tripped
  else if r.state = .locked then s.refuses .locked
  else if r.repeats x.2.1 x.2.2 then s.done
  else (s.demandActs x.1 x.2.1 x.2.2).done

/-- DEMAND as R167 gives it. -/
def demandSpec : Spec := ⟨4, true, false, false, false, false, false⟩

/-- DEMAND (R88). -/
def execDemand (f : Frame) (s : State) : Host.Outcome State Fault Refusal :=
  .next (request demandSpec parseDemand (fun x t => t.demandTaken x) f s)

/-! ### ARM (R105) -/

/-- The test of ARM that a motion fails first, if any (R105). -/
def State.armFails (s : State) (m : Dig) : Option Reason :=
  let r := s.motions.get m
  if r.state ≠ .tripped then some .state
  else if s.walk.state ≠ .idle then some .locked
  else if s.tripInForce || s.stopInForce m.motion then some .condition
  else if r.brake.state ≠ .set ∨ 0 < s.held m.motion then some .state
  else none

/-- A motion armed (R105). -/
def MotionRec.armed (r : MotionRec) : MotionRec := { r with state := .idle, tripCause := none }

/-- Arm one motion if it passes (R105). -/
def State.armIf (s : State) (m : Dig) (r : MotionRec) : MotionRec := if s.armFails m = none then r.armed else r

/-- Every motion that passes is armed (R105). -/
def State.armAll (s : State) : State :=
  { s with motions := ⟨s.armIf .hoist s.motions.hoist, s.armIf .drag s.motions.drag, s.armIf .swing s.motions.swing⟩ }

/-- The refusal of ARM ALL when no motion passes: that of the lowest-numbered TRIPPED motion (R105). -/
def State.armAllRefusal (s : State) : Reason :=
  match Dig.all.find? fun m => decide ((s.motions.get m).state = .tripped) with
  | some m => (s.armFails m).getD .state
  | none => .state

/-- ARM's own part (R105). -/
def State.armTaken (s : State) (x : Option Dig) : Taken :=
  match x with
  | some m =>
    match s.armFails m with
    | some r => s.refuses r
    | none => (s.onMotion m MotionRec.armed).done
  | none => if Dig.all.any fun m => decide (s.armFails m = none) then s.armAll.done else s.refuses s.armAllRefusal

/-- ARM as R167 gives it. -/
def armSpec : Spec := ⟨5, true, false, false, false, false, false⟩

/-- ARM (R105). -/
def execArm (f : Frame) (s : State) : Host.Outcome State Fault Refusal :=
  .next (request armSpec parseArm (fun x t => t.armTaken x) f s)

/-! ### STOP ALL (R107) -/

/-- STOP ALL on one motion (R99, R107). -/
def MotionRec.stopAll (r : MotionRec) : MotionRec :=
  match r.state with
  | .acquiring => r.released r.complement
  | .ready => r.released r.complement
  | .idle => r
  | .releasing => r
  | .tripped => r
  | .locked => r

/-- STOP ALL as R167 gives it. -/
def stopAllSpec : Spec := ⟨6, true, true, false, false, false, false⟩

/-- STOP ALL (R107, R127). -/
def execStopAll (f : Frame) (s : State) : Host.Outcome State Fault Refusal :=
  .next (request stopAllSpec parseNothing (fun _ t => (t.onMotions MotionRec.stopAll).haltWalk.done) f s)

/-! ### PARK MACHINE (R66) -/

/-- The machine is at rest for PARK MACHINE (R66). -/
def State.mayPark (s : State) : Bool :=
  (Dig.all.all fun m => decide ((s.motions.get m).state = .idle ∨ (s.motions.get m).state = .tripped)) &&
    decide (s.walk.state = .idle)

/-- PARK MACHINE's own part (R66). -/
def State.parkTaken (s : State) : Taken :=
  if s.mayPark then
    if s.gens.cells.any Gen.isParked then (s.onGens fun p g => parkMachineOne s.k p g).accepted else s.done
  else s.refuses .state

/-- PARK MACHINE as R167 gives it. -/
def parkMachineSpec : Spec := ⟨7, true, true, false, false, false, false⟩

/-- PARK MACHINE (R66). -/
def execParkMachine (f : Frame) (s : State) : Host.Outcome State Fault Refusal :=
  .next (request parkMachineSpec parseNothing (fun _ t => t.parkTaken) f s)

/-! ### WALK (R114, R115) -/

/-- The check of WALK that fails first, if any (R114). -/
def State.walkFails (s : State) (o : WalkOrder) : Option Reason :=
  if s.walk.state ≠ .idle then some .state
  else if Dig.all.any fun m => decide ((s.motions.get m).state = .tripped) then some .tripped
  else if Dig.all.any fun m => !decide ((s.motions.get m).state = .idle ∨ (s.motions.get m).state = .releasing) then
    some .state
  else if s.tripInForce || s.stopInForce .walk then some .condition
  else if Motion.all.any fun m => !s.stopped m then some .condition
  else if s.motions.swing.brake.state ≠ .set ∨ s.walk.brake.state ≠ .set then some .condition
  else if !s.referenced .swing || !s.referenced .walk then some .condition
  else if s.k.headingTolerance < swingDistance s.swingAngle o.heading then some .condition
  else if s.chans.ch.hoist.position < (s.k.groundedPayout : Int) then some .condition
  else none

/-- The dig motions are LOCKED and give up what they hold (R106, R115, step 1). -/
def State.lockDigs (s : State) : State :=
  (((s.returnAll .hoist).returnAll .drag).returnAll .swing).onMotions MotionRec.locked

/-- The walk record takes the order (R115, step 3). -/
def WalkRec.ordered (w : WalkRec) (k : Constants) (o : WalkOrder) : WalkRec :=
  { w with
    state := .preparing
    direction := o.direction
    heading := some o.heading
    stepsRequested := some o.steps
    stepsDone := 0
    haltRequested := false
    siteMarked := false
    lifted := false
    setDownSeen := false
    interruptCause := none
    liftOff := none
    setDown := none
    brake := w.brake.unwaiting
    prepareTimer := some (k.prepareTimeout * 1000) }

/-- A WALK is accepted (R115). -/
def State.walkAccepted (s : State) (o : WalkOrder) : State :=
  let t := s.lockDigs
  { t with chans := { t.chans with stepCounter := 0 }, walk := t.walk.ordered s.k o }

/-- WALK's own part (R114). -/
def State.walkTaken (s : State) (o : WalkOrder) : Taken :=
  match s.walkFails o with
  | some r => s.refuses r
  | none => (s.walkAccepted o).accepted

/-- WALK as R167 gives it. -/
def walkSpec : Spec := ⟨8, true, false, false, false, false, false⟩

/-- WALK (R114, R115). -/
def execWalk (f : Frame) (s : State) : Host.Outcome State Fault Refusal :=
  .next (request walkSpec parseWalk (fun o t => t.walkTaken o) f s)

/-! ### WALK HALT, RESUME and CANCEL (R127, R129, R130) -/

/-- WALK HALT as R167 gives it. -/
def walkHaltSpec : Spec := ⟨9, true, true, false, false, true, false⟩

/-- WALK HALT (R127). -/
def execWalkHalt (f : Frame) (s : State) : Host.Outcome State Fault Refusal :=
  .next (request walkHaltSpec parseNothing (fun _ t => t.haltWalk.done) f s)

/-- The condition named by the interrupt cause is active (R129). -/
def State.causeActive (s : State) : Bool :=
  match s.walk.interruptCause with
  | some c => s.isTrue c.key
  | none => false

/-- The test of RESUME that fails first, if any (R129). -/
def State.resumeFails (s : State) : Option Reason :=
  if s.walk.state ≠ .interrupted ∨ s.walk.ending ≠ none then some .state
  else if s.tripInForce || s.stopInForce .walk || s.causeActive then some .condition
  else if !s.referenced .walk then some .condition
  else if s.walk.brake.state ≠ .set ∨ 0 < s.held .walk then some .state
  else none

/-- The walk record resumed in a phase; after an interruption in DWELL it goes on as a new step (R129). -/
def WalkRec.resumed (w : WalkRec) (p : Phase) : WalkRec :=
  let fresh := decide (w.phase = some .dwell)
  { w with
    state := .stepping
    phase := some p
    interruptCause := none
    lifted := w.lifted && !fresh
    setDownSeen := w.setDownSeen && !fresh }

/-- A halt asked for before acts at RESUME (R127, R129). -/
def WalkRec.haltedIfAsked (w : WalkRec) (k : Constants) (tubOn : Bool) : WalkRec :=
  if w.haltRequested then w.halted k tubOn else w

/-- RESUME's own part (R129). -/
def State.resumeTaken (s : State) : Taken :=
  match s.resumeFails with
  | some r => s.refuses r
  | none =>
    (s.onWalk fun w => (w.resumed (phaseOf s.k s.stride)).haltedIfAsked s.k s.inputs.tub).accepted

/-- WALK RESUME as R167 gives it. -/
def walkResumeSpec : Spec := ⟨10, true, false, false, false, false, false⟩

/-- WALK RESUME (R129). -/
def execWalkResume (f : Frame) (s : State) : Host.Outcome State Fault Refusal :=
  .next (request walkResumeSpec parseNothing (fun _ t => t.resumeTaken) f s)

/-- The walk ends CANCELLED; in holdup it finishes at once (R126, R130, R157). -/
def State.cancelled (s : State) : State :=
  if s.inHoldup then s.walkFinishInHoldup .cancelled else (s.onWalk fun w => w.ended s.k .cancelled).walkPass

/-- CANCEL is DONE if the walk went IDLE in the same change (R130). -/
def State.cancelReply (s : State) : Taken := if s.walk.state = .idle then s.done else s.accepted

/-- CANCEL's own part (R130). -/
def State.cancelTaken (s : State) : Taken :=
  if s.walk.ending.isSome then s.refuses .state
  else
    match s.walk.state with
    | .preparing => s.cancelled.cancelReply
    | .interrupted => if s.inputs.tub then s.cancelled.cancelReply else s.refuses .condition
    | .stepping => s.refuses .state
    | .idle => s.refuses .state

/-- WALK CANCEL as R167 gives it. -/
def walkCancelSpec : Spec := ⟨11, true, true, false, false, true, false⟩

/-- WALK CANCEL (R130). -/
def execWalkCancel (f : Frame) (s : State) : Host.Outcome State Fault Refusal :=
  .next (request walkCancelSpec parseNothing (fun _ t => t.cancelTaken) f s)

/-! ### Zone edits (R26–R28) -/

/-- Counting a revision up (R25). -/
def revisionUp (r : BitVec 16) : BitVec 16 := if r + 1 = 0 then 1 else r + 1

/-- The walk record is in a state other than IDLE. -/
def State.walking (s : State) : Bool := decide (s.walk.state ≠ .idle)

/-- WRITE ZONE's own field checks: the base a multiple of the span, the bands in order (R26, R166). -/
def ZoneWrite.consistent (w : ZoneWrite) : Bool :=
  decide (w.window.base % w.window.span = 0) && decide (w.body.dragMin ≤ w.body.dragMax) &&
    decide (w.body.hoistMin ≤ w.body.hoistMax)

/-- A write that a walk under way bars (R26). -/
def ZoneSlot.barred (z : ZoneSlot) (w : ZoneWrite) : Bool :=
  decide (w.body.kind = .site) || decide (z.state = .stale) || decide (z.state = .defective) || z.isSiteInForce

/-- The slot as written (R26). -/
def ZoneSlot.written (z : ZoneSlot) (w : ZoneWrite) : ZoneSlot :=
  ⟨.inForce, revisionUp z.revision, some w.window, w.body, .sound⟩

/-- WRITE ZONE's own part (R26). -/
def State.writeZoneTaken (s : State) (w : ZoneWrite) : Taken :=
  let z := s.zones.slots.get w.slot
  if !w.consistent then s.replies (Reply.of .badField)
  else if w.expected ≠ z.revision then s.replies (Reply.of .stale)
  else if s.walking && z.barred w then s.refuses .state
  else (s.onSlot w.slot fun z => z.written w).epochUp.done

/-- WRITE ZONE as R167 gives it. -/
def writeZoneSpec : Spec := ⟨12, false, true, false, true, false, false⟩

/-- WRITE ZONE (R26). -/
def execWriteZone (f : Frame) (s : State) : Host.Outcome State Fault Refusal :=
  .next (request writeZoneSpec parseWriteZone (fun w t => t.writeZoneTaken w) f s)

/-- RETIRE ZONE's own part (R27). -/
def State.retireZoneTaken (s : State) (x : Fin 40 × BitVec 16) : Taken :=
  let z := s.zones.slots.get x.1
  if z.state = .empty then s.replies (Reply.of .noRecord)
  else if x.2 ≠ z.revision then s.replies (Reply.of .stale)
  else (s.onSlot x.1 fun _ => ZoneSlot.empty).epochUp.done

/-- RETIRE ZONE as R167 gives it. -/
def retireZoneSpec : Spec := ⟨13, false, true, false, true, false, false⟩

/-- RETIRE ZONE (R27). -/
def execRetireZone (f : Frame) (s : State) : Host.Outcome State Fault Refusal :=
  .next (request retireZoneSpec parseRetireZone (fun x t => t.retireZoneTaken x) f s)

/-- A STALE slot confirmed (R28). -/
def ZoneSlot.confirmed (z : ZoneSlot) : ZoneSlot :=
  if z.state = .stale then { z with state := .inForce, revision := revisionUp z.revision } else z

/-- The expected revision of a CONFIRM ZONES, where given, differs (R28). -/
def revisionDiffers (expected : Option (BitVec 16)) (r : BitVec 16) : Bool :=
  match expected with
  | some e => decide (e ≠ r)
  | none => false

/-- CONFIRM ZONES for one slot (R28). -/
def State.confirmOne (s : State) (i : Fin 40) (expected : Option (BitVec 16)) : Taken :=
  let z := s.zones.slots.get i
  if z.state ≠ .stale then s.refuses .state
  else if revisionDiffers expected z.revision then s.replies (Reply.of .stale)
  else (s.onSlot i ZoneSlot.confirmed).epochUp.done

/-- CONFIRM ZONES for all (R28). -/
def State.confirmAll (s : State) : Taken :=
  if s.anyStale then
    { s with zones := { s.zones with slots := s.zones.slots.map ZoneSlot.confirmed } }.epochUp.done
  else s.refuses .state

/-- CONFIRM ZONES' own part; the walk is tested first (R28, log entry 23). -/
def State.confirmTaken (s : State) (x : Option (Fin 40 × Option (BitVec 16))) : Taken :=
  if s.walking then s.refuses .state
  else
    match x with
    | some (i, e) => s.confirmOne i e
    | none => s.confirmAll

/-- CONFIRM ZONES as R167 gives it. -/
def confirmZonesSpec : Spec := ⟨14, false, true, false, true, false, false⟩

/-- CONFIRM ZONES (R28). -/
def execConfirmZones (f : Frame) (s : State) : Host.Outcome State Fault Refusal :=
  .next (request confirmZonesSpec parseConfirmZones (fun x t => t.confirmTaken x) f s)

/-- The cache flushed (R47). -/
def State.flushed (s : State) : State := { s with res := { s.res with cache := cacheInvalidated s.res.cache } }

/-- FLUSH CACHE as R167 gives it. -/
def flushCacheSpec : Spec := ⟨15, false, true, false, true, false, false⟩

/-- FLUSH CACHE (R47). -/
def execFlushCache (f : Frame) (s : State) : Host.Outcome State Fault Refusal :=
  .next (request flushCacheSpec parseNothing (fun _ t => t.flushed.done) f s)

/-! ### REFERENCE RESET (R15) -/

/-- A channel becomes UNREFERENCED (R15). -/
def State.unreference (s : State) (c : Motion) : State := s.onChan c Chan.unreferenced

/-- REFERENCE RESET's own part (R15). -/
def State.referenceResetTaken (s : State) (c : Motion) : Taken :=
  if c = .walk ∧ s.walking = true then s.refuses .state else (s.unreference c).done

/-- REFERENCE RESET as R167 gives it. -/
def referenceResetSpec : Spec := ⟨16, false, true, false, false, false, false⟩

/-- REFERENCE RESET (R15). -/
def execReferenceReset (f : Frame) (s : State) : Host.Outcome State Fault Refusal :=
  .next (request referenceResetSpec parseChannel (fun c t => t.referenceResetTaken c) f s)

/-! ### Alarms (R143, R144, R148) -/

/-- The records after an ACKNOWLEDGE, with the late recording that a retirement brings (R143, R147). -/
def Alarms.acknowledge (a : Alarms) (now : Nat) (p : Port) (key : AlarmKey) : Alarms :=
  (a.onRecord key fun r => r.acknowledged p).afterRetirement now

/-- ACKNOWLEDGE's own part (R143). -/
def State.acknowledgeTaken (s : State) (p : Port) (key : AlarmKey) : Taken :=
  match s.alarms.record key with
  | none => s.replies (Reply.of .noRecord)
  | some _ => State.done { s with alarms := s.alarms.acknowledge s.now p key }

/-- ACKNOWLEDGE as R167 gives it. -/
def acknowledgeSpec : Spec := ⟨17, true, true, false, false, true, false⟩

/-- ACKNOWLEDGE (R143). -/
def execAcknowledge (f : Frame) (s : State) : Host.Outcome State Fault Refusal :=
  .next (request acknowledgeSpec parseAlarmKey (fun key t => t.acknowledgeTaken f.port key) f s)

/-- Change the shelf of a record. -/
def State.setShelf (s : State) (key : AlarmKey) (h : Option Shelf) : State :=
  { s with alarms := s.alarms.onRecord key fun r => some { r with shelf := h } }

/-- SHELVE's own part (R144). -/
def State.shelveTaken (s : State) (x : AlarmKey × Nat) : Taken :=
  match s.alarms.record x.1 with
  | none => s.replies (Reply.of .noRecord)
  | some r =>
    match r.cls with
    | .trip => s.refuses .state
    | .stop => s.refuses .state
    | .warn => (s.setShelf x.1 (some ⟨x.2, 60000⟩)).done
    | .notice => (s.setShelf x.1 (some ⟨x.2, 60000⟩)).done

/-- SHELVE as R167 gives it. -/
def shelveSpec : Spec := ⟨18, false, true, false, false, false, false⟩

/-- SHELVE (R144). -/
def execShelve (f : Frame) (s : State) : Host.Outcome State Fault Refusal :=
  .next (request shelveSpec parseShelve (fun x t => t.shelveTaken x) f s)

/-- UNSHELVE's own part (R144). -/
def State.unshelveTaken (s : State) (key : AlarmKey) : Taken :=
  match s.alarms.record key with
  | none => s.replies (Reply.of .noRecord)
  | some r =>
    match r.shelf with
    | none => s.refuses .state
    | some _ => (s.setShelf key none).done

/-- UNSHELVE as R167 gives it. -/
def unshelveSpec : Spec := ⟨19, false, true, false, false, false, false⟩

/-- UNSHELVE (R144). -/
def execUnshelve (f : Frame) (s : State) : Host.Outcome State Fault Refusal :=
  .next (request unshelveSpec parseAlarmKey (fun key t => t.unshelveTaken key) f s)

/-- A port's announce setting written (R148). -/
def State.announceSet (s : State) (p : Port) (a : Announce) : State :=
  { s with alarms := { s.alarms with announce := s.alarms.announce.set p a } }

/-- SET ANNOUNCE as R167 gives it. -/
def setAnnounceSpec : Spec := ⟨20, true, true, false, false, true, false⟩

/-- SET ANNOUNCE (R148). -/
def execSetAnnounce (f : Frame) (s : State) : Host.Outcome State Fault Refusal :=
  .next (request setAnnounceSpec parseAnnounce (fun a t => (t.announceSet f.port a).done) f s)

/-! ### Generators (R64, R65) -/

/-- A service request on one generator, with its answer. -/
def State.genReplies (s : State) (g : Fin 12) (r : Gen × Status × Reason) : Taken :=
  ⟨s.onGen g fun _ => r.1, ⟨r.2.1, r.2.2, []⟩⟩

/-- LOCK OUT GENERATOR as R167 gives it. -/
def lockOutGeneratorSpec : Spec := ⟨21, false, true, false, false, false, false⟩

/-- LOCK OUT GENERATOR (R64). -/
def execLockOutGenerator (f : Frame) (s : State) : Host.Outcome State Fault Refusal :=
  .next (request lockOutGeneratorSpec parseGenerator
    (fun g t => t.genReplies g (lockedOutBy t.k (t.proofs g) (t.gens.get g))) f s)

/-- RETURN GENERATOR as R167 gives it. -/
def returnGeneratorSpec : Spec := ⟨22, false, true, true, false, false, false⟩

/-- RETURN GENERATOR (R65). -/
def execReturnGenerator (f : Frame) (s : State) : Host.Outcome State Fault Refusal :=
  .next (request returnGeneratorSpec parseGenerator
    (fun g t => t.genReplies g (returnedToService (t.proofs g) (t.gens.get g))) f s)

/-! ### WRITE CONSTANT (R177) -/

/-- Every dig motion is IDLE and the walk record is IDLE (R177). -/
def State.allIdle (s : State) : Bool :=
  (Dig.all.all fun m => decide ((s.motions.get m).state = .idle)) && decide (s.walk.state = .idle)

/-- A write of the withdrawn set acts on each generator whose membership changes (R67). -/
def withdrawnChange (old new : Constants) (p : PerMotion Bool) (i : Fin 12) (g : Gen) : Gen :=
  match isWithdrawn old i, isWithdrawn new i with
  | false, true => addedToWithdrawn new p g
  | true, false => removedFromWithdrawn p g
  | false, false => g
  | true, true => g

/-- The generators after a write of the withdrawn set (R67). -/
def State.gensWithdrawn (s : State) (old : Constants) : Table Gen 12 :=
  ⟨gensAll.map fun i => withdrawnChange old s.k (s.proofs i) i (s.gens.get i), by
    rw [List.length_map]; exact List.length_finRange⟩

/-- The SWING position reduced modulo a new cpr (R16). -/
def State.swingReduced (s : State) : State :=
  s.onChan .swing fun ch => { ch with position := ch.position % (s.k.cprSwing : Int) }

/-- A write of counts per revolution (R16). -/
def State.cprWritten (s : State) (c : Motion) : State := if c = .swing then s.swingReduced else s

/-- What a write of a channel constant does besides (R7, R16). -/
def State.channelWritten (s : State) (no : Nat) (c : Motion) : State :=
  if no ≤ 7 then (if no = 4 then s.cprWritten c else s).unreference c else s

/-- What a write of another constant does besides (R29, R67). -/
def State.machineWritten (s : State) (no : Nat) (old : Constants) : State :=
  if no = 22 ∨ no = 23 ∨ no = 24 then s.epochUp
  else if no = 31 then { s with gens := s.gensWithdrawn old }
  else s

/-- The owner of a constant acts on its new value (R177). -/
def State.constantWritten (s : State) (key : ConstKey) (old : Constants) : State :=
  match key.channel with
  | some c => s.channelWritten key.no c
  | none => s.machineWritten key.no old

/-- WRITE CONSTANT's own part; its state is tested before the agreement of the constants (R176, R177, log entry 23). -/
def State.writeConstantTaken (s : State) (x : ConstKey × Int) : Taken :=
  let k := setConst s.k x.1 x.2
  if !s.allIdle then s.refuses .state
  else if !constantsAgree k then s.replies (Reply.of .badField)
  else ({ s with k := k }.constantWritten x.1 s.k).done

/-- WRITE CONSTANT as R167 gives it. -/
def writeConstantSpec : Spec := ⟨24, false, true, true, true, false, false⟩

/-- WRITE CONSTANT (R177). -/
def execWriteConstant (f : Frame) (s : State) : Host.Outcome State Fault Refusal :=
  .next (request writeConstantSpec parseWriteConstant (fun x t => t.writeConstantTaken x) f s)

/-! ### COMMIT and RESTART (R178, R179) -/

/-- The stored form of a slot (R31). -/
def storedForm (z : ZoneSlot) : StoredZone :=
  match z.state, z.window with
  | .defective, some w => .defective z.revision w
  | .inForce, some w => .zone z.revision w z.body
  | .stale, some w => .zone z.revision w z.body
  | .empty, _ => .empty
  | _, none => .empty

/-- The image formed at the take (R178). -/
def State.imageNow (s : State) : Image := ⟨s.k, s.zones.slots.map storedForm⟩

/-- The time a COMMIT has for its write and read-back, in milliseconds (R178). -/
def commitTime : Nat := 400

/-- A COMMIT begins, the bodies checked as they are read, in the order of `State.checkAll` (R178, log entry 55). -/
def State.commitBegun (s : State) : State :=
  let t := s.checkAll
  { t with commit := some ⟨t.imageNow, commitTime⟩ }

/-- COMMIT as R167 gives it. -/
def commitSpec : Spec := ⟨25, false, true, true, true, false, false⟩

/-- COMMIT (R178). -/
def execCommit (f : Frame) (s : State) : Host.Outcome State Fault Refusal :=
  .next (request commitSpec parseNothing (fun _ t => t.commitBegun.accepted) f s)

/-- RESTART as R167 gives it; its cold start begins when its answer has been sent (R179). -/
def restartSpec : Spec := ⟨26, false, true, true, true, false, true⟩

/-- RESTART (R171, R179). -/
def execRestart (f : Frame) (s : State) : Host.Outcome State Fault Refusal :=
  .next (request restartSpec parseNothing (fun _ t => t.done) f s)

end Sys2Proof.Machine
end

