-- ==== Sys2Proof/Machine/Zones.lean ====
section
/-! DEFINITION. The events of the zone table and the resolver: the scrub's visit (02 R33) and the end of a resolution (03
R43–R45). -/

namespace Sys2Proof.Machine

/-! ### The scrub -/

/-- A body's agreement with its check code after a further fault (R32). DESIGN CHOICE, unsafe: R32 says what the code does
with one fault and with two; a body with three or more stays uncorrectable here, never corrected to other contents and
never passed as sound (log entry 53). -/
def BodyFault.joined (old new : BodyFault) : BodyFault :=
  match old, new with
  | f, .sound => f
  | .sound, .single => .single
  | .single, .single => .uncorrectable
  | .uncorrectable, .single => .uncorrectable
  | _, .uncorrectable => .uncorrectable

/-- Storage faults reach the stored bodies (R32, log entry 5). -/
def State.bodiesFault (s : State) (faults : List StorageFault) : State :=
  faults.foldl (fun t f => t.onSlot f.slot fun z => { z with fault := BodyFault.joined z.fault f.fault }) s

/-- The scrub position moves on by one, from 39 to 0 (R33). -/
def State.scrubOn (s : State) : State := { s with zones := { s.zones with scrub := s.zones.scrub + 1 } }

/-- SCRUB_VISIT: the check of the next slot's body (R32–R35). The operand is the storage faults that the bodies have
taken since the visit before. -/
def execScrubVisit (faults : List StorageFault) (s : State) : Host.Outcome State Fault Refusal :=
  .next (s.event fun t => ((t.bodiesFault faults).checkBody t.zones.scrub).scrubOn)

/-! ### The end of a resolution -/

/-- A good result is put in force for the current key (R44). -/
def Resolver.putCurrent (r : Resolver) (key : CellKey) (epoch : BitVec 16) (x : Result) : Resolver :=
  if r.currentKey = some key then { r with force := ⟨x.codes, .cell, some key, some epoch⟩ } else r

/-- A good result is put in force for the lookahead key (R44). -/
def Resolver.putLook (r : Resolver) (key : CellKey) (epoch : BitVec 16) (x : Result) : Resolver :=
  if r.lookKey = some key then { r with look := ⟨x.codes.swing, .cell, some key, some epoch, r.look.direction⟩ } else r

/-- A good result enters the cache, is put in force where it is needed, and the next head is taken (R44). -/
def Resolver.completed (r : Resolver) (key : CellKey) (epoch : BitVec 16) (x : Result) : Resolver :=
  let c := { r with cache := cacheEnter r.cache epoch ⟨key, x, epoch⟩, inFlight := none }
  ((c.putCurrent key epoch x).putLook key epoch x).started epoch

/-- A result of an older epoch is discarded; a key still needed is resolved again ahead of the queue (R45). -/
def Resolver.redone (r : Resolver) (key : CellKey) (epoch : BitVec 16) : Resolver :=
  if r.needs key then { r with inFlight := some ⟨key, epoch⟩ } else { r with inFlight := none }.started epoch

/-- The result of the resolution of a key over the slots as read (R24, R43). -/
def State.resolved (s : State) (key : CellKey) : Result := resolve s.zones.slots.cells s.k.defaultPermission key

/-- The epoch comparison at the end of a resolution (R44, R45). -/
def State.compareEpoch (s : State) (f : InFlight) : State :=
  { s with
    res := if f.epoch = s.zones.epoch then s.res.completed f.key s.zones.epoch (s.resolved f.key)
      else s.res.redone f.key s.zones.epoch }

/-- The resolution in flight ends: its reads, then the comparison (R43–R45, log entry 14). -/
def State.resolutionEnds (s : State) : State :=
  match s.res.inFlight with
  | none => s
  | some f => s.checkAll.compareEpoch f

/-- RESOLUTION_END (R43–R46). -/
def execResolutionEnd (s : State) : Host.Outcome State Fault Refusal := .next (s.event State.resolutionEnds)

end Sys2Proof.Machine
end

