-- ==== Sys2Proof/Machine/Dispatch.lean ====
section
/-! DEFINITION. One arm per command: its meaning. -/

namespace Sys2Proof.Machine

def exec (i : Instr) (s : State) : Host.Outcome State Fault Refusal :=
  match i with
  | .read f => Sys2Proof.Machine.execRead f s
  | .next f => Sys2Proof.Machine.execNext f s
  | .status f => Sys2Proof.Machine.execStatus f s
  | .demand f => Sys2Proof.Machine.execDemand f s
  | .arm f => Sys2Proof.Machine.execArm f s
  | .stopAll f => Sys2Proof.Machine.execStopAll f s
  | .parkMachine f => Sys2Proof.Machine.execParkMachine f s
  | .walk f => Sys2Proof.Machine.execWalk f s
  | .walkHalt f => Sys2Proof.Machine.execWalkHalt f s
  | .walkResume f => Sys2Proof.Machine.execWalkResume f s
  | .walkCancel f => Sys2Proof.Machine.execWalkCancel f s
  | .writeZone f => Sys2Proof.Machine.execWriteZone f s
  | .retireZone f => Sys2Proof.Machine.execRetireZone f s
  | .confirmZones f => Sys2Proof.Machine.execConfirmZones f s
  | .flushCache f => Sys2Proof.Machine.execFlushCache f s
  | .referenceReset f => Sys2Proof.Machine.execReferenceReset f s
  | .acknowledge f => Sys2Proof.Machine.execAcknowledge f s
  | .shelve f => Sys2Proof.Machine.execShelve f s
  | .unshelve f => Sys2Proof.Machine.execUnshelve f s
  | .setAnnounce f => Sys2Proof.Machine.execSetAnnounce f s
  | .lockOutGenerator f => Sys2Proof.Machine.execLockOutGenerator f s
  | .returnGenerator f => Sys2Proof.Machine.execReturnGenerator f s
  | .openGuard f => Sys2Proof.Machine.execOpenGuard f s
  | .writeConstant f => Sys2Proof.Machine.execWriteConstant f s
  | .commit f => Sys2Proof.Machine.execCommit f s
  | .restart f => Sys2Proof.Machine.execRestart f s
  | .unknown f code => Sys2Proof.Machine.execUnknown f code s
  | .check p tag code => Sys2Proof.Machine.execCheck p tag code s
  | .lengthOutOfRange p length => Sys2Proof.Machine.execLengthOutOfRange p length s
  | .frameGap p byte => Sys2Proof.Machine.execFrameGap p byte s
  | .lineBreakOrFramingError p => Sys2Proof.Machine.execLineBreakOrFramingError p s
  | .frameDiscarded p => Sys2Proof.Machine.execFrameDiscarded p s
  | .answerSent p => Sys2Proof.Machine.execAnswerSent p s
  | .guardWindowEnd => Sys2Proof.Machine.execGuardWindowEnd s
  | .cabLinkPeriodEnd => Sys2Proof.Machine.execCabLinkPeriodEnd s
  | .quadratureCount c input level => Sys2Proof.Machine.execQuadratureCount c input level s
  | .countDirectionCount c input level => Sys2Proof.Machine.execCountDirectionCount c input level s
  | .quadratureError c => Sys2Proof.Machine.execQuadratureError c s
  | .rateWindowEnd c => Sys2Proof.Machine.execRateWindowEnd c s
  | .referenceSwitchMake c => Sys2Proof.Machine.execReferenceSwitchMake c s
  | .referenceSwitchBreak c => Sys2Proof.Machine.execReferenceSwitchBreak c s
  | .encoderIndex c => Sys2Proof.Machine.execEncoderIndex c s
  | .camIndex => Sys2Proof.Machine.execCamIndex s
  | .tubLiftOff => Sys2Proof.Machine.execTubLiftOff s
  | .tubSetDown => Sys2Proof.Machine.execTubSetDown s
  | .scrubVisit faults => Sys2Proof.Machine.execScrubVisit faults s
  | .resolutionEnd => Sys2Proof.Machine.execResolutionEnd s
  | .closureProof g loop => Sys2Proof.Machine.execClosureProof g loop s
  | .dropOutProof g loop => Sys2Proof.Machine.execDropOutProof g loop s
  | .strayOrLostProof g loop present => Sys2Proof.Machine.execStrayOrLostProof g loop present s
  | .lockedOutProofChange g loop present => Sys2Proof.Machine.execLockedOutProofChange g loop present s
  | .openingProofTimeEnd g => Sys2Proof.Machine.execOpeningProofTimeEnd g s
  | .failedClose g => Sys2Proof.Machine.execFailedClose g s
  | .releaseHoldExpiry m => Sys2Proof.Machine.execReleaseHoldExpiry m s
  | .starveTimeEnd m => Sys2Proof.Machine.execStarveTimeEnd m s
  | .brakeReleaseProof m => Sys2Proof.Machine.execBrakeReleaseProof m s
  | .brakeSetProof m => Sys2Proof.Machine.execBrakeSetProof m s
  | .releaseProofLost m => Sys2Proof.Machine.execReleaseProofLost m s
  | .brakeLiftWithoutCommand m => Sys2Proof.Machine.execBrakeLiftWithoutCommand m s
  | .brakeReleaseTimeEnd m => Sys2Proof.Machine.execBrakeReleaseTimeEnd m s
  | .brakeSetTimeEnd m => Sys2Proof.Machine.execBrakeSetTimeEnd m s
  | .stopTimeout m => Sys2Proof.Machine.execStopTimeout m s
  | .prepareTimeout => Sys2Proof.Machine.execPrepareTimeout s
  | .phaseTimeout => Sys2Proof.Machine.execPhaseTimeout s
  | .dwellEnd => Sys2Proof.Machine.execDwellEnd s
  | .emergencyStopInput stop => Sys2Proof.Machine.execEmergencyStopInput stop s
  | .shelfMinute key => Sys2Proof.Machine.execShelfMinute key s
  | .mainsLoss => Sys2Proof.Machine.execMainsLoss s
  | .mainsReturn => Sys2Proof.Machine.execMainsReturn s
  | .holdupExhausted => Sys2Proof.Machine.execHoldupExhausted s
  | .markerWriteDone => Sys2Proof.Machine.execMarkerWriteDone s
  | .commitWriteEnd left => Sys2Proof.Machine.execCommitWriteEnd left s
  | .powerOn => Sys2Proof.Machine.execPowerOn s
  | .resetLine => Sys2Proof.Machine.execResetLine s
  | .settingsLoadEnd => Sys2Proof.Machine.execSettingsLoadEnd s

end Sys2Proof.Machine
end

