-- ==== Sys2Proof/Safety.lean ====
section
/-! DEFINITION. What the statements say of a state: when the part takes what, the answers of a port, what a change leaves
alone, and the invariants that every step keeps (the count channels within their ranges, the zone slots in their four
states, the conditions at the truth of their causes, the shape of a motion record, the permit law, the waiting list). -/

namespace Sys2Proof.Machine

/-! ### When the part acts -/

/-- The part runs, on mains or in holdup (R153, R180). -/
def State.Runs (s : State) : Prop := s.power = .running

/-- The part runs on mains: its supply state is RUN (R153). -/
def State.OnMains (s : State) : Prop := s.power = .running ∧ s.supply.state = .run

/-- The part runs in HOLDUP (R153). -/
def State.OnBackup (s : State) : Prop := s.power = .running ∧ s.supply.state = .holdup

/-- A port's answer is not in progress, so that a frame which completes is taken (R163). -/
def State.Awaits (s : State) (p : Port) : Prop := (s.ports.get p).answer = none

/-- A port is answering a tag and a code with a status and a reason (R162, R163, R165). -/
def State.Answers (s : State) (p : Port) (tag code : Byte) (status : Status) (reason : Reason) : Prop :=
  ∃ a, (s.ports.get p).answer = some a ∧ a.tag = tag ∧ a.code = code ∧ a.status = status ∧ a.reason = reason

/-- A port is answering with a body (R165, R168). -/
def State.AnswersBody (s : State) (p : Port) (tag code : Byte) (status : Status) (body : List Byte) : Prop :=
  ∃ a, (s.ports.get p).answer = some a ∧ a.tag = tag ∧ a.code = code ∧ a.status = status ∧ a.reason = .none ∧ a.body = body

/-! ### What a change leaves alone -/

/-- What no completion of a change touches: the commands that wait, the power state, the clock, the constants and the
fitted count, the store, the inputs, the count channels, the zone table, the supply record, the ports, the guard and the
cab link timer. -/
structure State.SameRecords (s t : State) : Prop where
  pending : t.pending = s.pending
  power : t.power = s.power
  clock : t.clock = s.clock
  k : t.k = s.k
  fitted : t.fitted = s.fitted
  store : t.store = s.store
  commit : t.commit = s.commit
  inputs : t.inputs = s.inputs
  chans : t.chans = s.chans
  zones : t.zones = s.zones
  supply : t.supply = s.supply
  ports : t.ports = s.ports
  guardLeft : t.guardLeft = s.guardLeft
  cabTimer : t.cabTimer = s.cabTimer

/-- As `SameRecords`, but for the input levels and the count channels: what a channel event can change besides the blocks
that follow the channels. -/
structure State.SameButChannels (s t : State) : Prop where
  pending : t.pending = s.pending
  power : t.power = s.power
  clock : t.clock = s.clock
  k : t.k = s.k
  fitted : t.fitted = s.fitted
  store : t.store = s.store
  commit : t.commit = s.commit
  zones : t.zones = s.zones
  supply : t.supply = s.supply
  ports : t.ports = s.ports
  guardLeft : t.guardLeft = s.guardLeft
  cabTimer : t.cabTimer = s.cabTimer

/-- As `SameRecords`, but for the ports, the cab link timer and the guard: what every request may change. -/
structure State.SameButPorts (s t : State) : Prop where
  pending : t.pending = s.pending
  power : t.power = s.power
  clock : t.clock = s.clock
  k : t.k = s.k
  fitted : t.fitted = s.fitted
  store : t.store = s.store
  commit : t.commit = s.commit
  inputs : t.inputs = s.inputs
  chans : t.chans = s.chans
  zones : t.zones = s.zones
  supply : t.supply = s.supply

/-- Every channel but one keeps its record. -/
def State.OtherChannels (s t : State) (c : Motion) : Prop := ∀ d, d ≠ c → t.chans.ch.get d = s.chans.ch.get d

/-- Every zone slot but one keeps its record. -/
def State.OtherSlots (s t : State) (i : Fin 40) : Prop := ∀ j, j ≠ i → t.zones.slots.get j = s.zones.slots.get j

/-! ### Invariants -/

/-- A position within the limits of HOIST, DRAG and WALK (R3, R5). -/
def InLimits (p : Int) : Prop := -134217728 ≤ p ∧ p ≤ 134217727

/-- A rate or a rate counter within its saturation (R7). -/
def InRateRange (r : Int) : Prop := -1048575 ≤ r ∧ r ≤ 1048575

/-- A channel record within its ranges (01, the channel record). -/
def Chan.InRange (ch : Chan) : Prop := InRateRange ch.rateCounter ∧ InRateRange ch.rate ∧ ch.quietWindows ≤ 3

/-- The count channels are within their ranges, under constants that pass their tests (R3, R4, R5, R7, R8, R176). -/
def State.ChannelsInRange (s : State) : Prop :=
  constantsPass s.k = true ∧
    InLimits s.chans.ch.hoist.position ∧ InLimits s.chans.ch.drag.position ∧ InLimits s.chans.ch.walk.position ∧
    0 ≤ s.chans.ch.swing.position ∧ s.chans.ch.swing.position < (s.k.cprSwing : Int) ∧
    ∀ c, (s.chans.ch.get c).InRange

/-- The suspect cause is present exactly in SUSPECT (R12, R13, R15). -/
def State.SuspectHasCause (s : State) : Prop :=
  ∀ c, (s.chans.ch.get c).refState = .suspect ↔ (s.chans.ch.get c).suspectCause.isSome = true

/-- A slot keeps the law of its state: an EMPTY slot has revision 0 and no window, another has both; only a SITE zone is
STALE (R19, R25). -/
def ZoneSlot.Lawful (z : ZoneSlot) : Prop :=
  (z.state = .empty → z.revision = 0 ∧ z.window = none) ∧
    (z.state ≠ .empty → z.revision ≠ 0 ∧ z.window.isSome = true) ∧
    (z.state = .stale → z.body.kind = .site)

/-- A stored zone has a revision other than 0 (R25, R31). -/
def StoredZone.Lawful : StoredZone → Prop
  | .empty => True
  | .defective rev _ => rev ≠ 0
  | .zone rev _ _ => rev ≠ 0

/-- The slots of an image keep the law of the stored form. -/
def Image.Lawful (i : Image) : Prop := ∀ z ∈ i.zones.cells, StoredZone.Lawful z

/-- A command leaves a lawful image in the store: what a COMMIT's write leaves is an image that some COMMIT formed, or
none. -/
def Instr.LeavesLawful : Instr → Prop
  | .commitWriteEnd (some i) => Image.Lawful i
  | _ => True

/-- The zone slots, the image in the store and the image being written keep the law of their states, and no waiting
command brings another (R19, R25, R31). -/
def State.ZonesLawful (s : State) : Prop :=
  (∀ z ∈ s.zones.slots.cells, z.Lawful) ∧
    (∀ i, s.store.image = some i → Image.Lawful i) ∧
    (∀ c, s.commit = some c → Image.Lawful c.image) ∧
    ∀ c ∈ s.pending, Instr.LeavesLawful c

/-- COUNT JUMP and UNREFERENCED are true exactly for the channels that are SUSPECT and UNREFERENCED (R17). -/
def State.ChannelConditions (s : State) : Prop :=
  ∀ c : Motion, (s.isTrue ⟨6, c.number⟩ = true ↔ (s.chans.ch.get c).refState = .suspect) ∧
    (s.isTrue ⟨7, c.number⟩ = true ↔ (s.chans.ch.get c).refState = .unreferenced)

/-- ZONE DEFECTIVE is true exactly for the DEFECTIVE slots, SITE ZONES STALE exactly while a slot is STALE (R36). -/
def State.ZoneConditions (s : State) : Prop :=
  (∀ i : Fin 40, s.isTrue ⟨15, i.val⟩ = true ↔ (s.zones.slots.get i).state = .defective) ∧
    (s.isTrue ⟨16, 0⟩ = true ↔ ∃ i : Fin 40, (s.zones.slots.get i).state = .stale)

/-- The conditions of the generator table are at the truth of their causes (R70). -/
def State.GeneratorConditions (s : State) : Prop :=
  ∀ g : Fin 12, (s.isTrue ⟨10, g.val + 1⟩ = true ↔ (s.gens.get g).keepsTrying = true) ∧
    (s.isTrue ⟨11, g.val + 1⟩ = true ↔ (s.gens.get g).showsWeld (s.proofs g) = true) ∧
    (s.isTrue ⟨12, g.val + 1⟩ = true ↔ (s.gens.get g).isLockedOut = true)

/-- Every condition that follows a record is at the truth of its cause: nothing is left for the end of a change to raise
or clear (R17, R36, R70). -/
def State.ConditionsFollow (s : State) : Prop := s.ChannelConditions ∧ s.ZoneConditions ∧ s.GeneratorConditions

/-- A dig motion record outside ACQUIRING and READY has no demand, no permit and no hold reason; a hold start is present in
RELEASING alone, a trip cause in TRIPPED alone (R86, R96, R100, R103). -/
def MotionRec.Lawful (r : MotionRec) : Prop :=
  (r.state ≠ .acquiring → r.state ≠ .ready → r.demand = none ∧ r.permit = none ∧ r.holdReason = none) ∧
    (r.state = .acquiring ∨ r.state = .ready → r.demand.isSome = true) ∧
    (r.holdStart.isSome = true → r.state = .releasing) ∧
    (r.tripCause.isSome = true ↔ r.state = .tripped)

/-- The dig motion records are lawful. -/
def State.MotionsLawful (s : State) : Prop := ∀ m, (s.motions.get m).Lawful

/-- The permit law of a dig motion: its permit shows a direction only if the motion is READY with that demand, no reversal
is pending, its brake is RELEASED, it has its minimum complement proven, no trip effect is in force, and the permission in
force, for SWING with the lookahead permission, grants the direction (R95). -/
def State.PermitLaw (s : State) (m : Dig) : Prop :=
  ∀ d, (s.motions.get m).permit = some d →
    (s.motions.get m).state = .ready ∧ (s.motions.get m).demand = some d ∧ (s.motions.get m).reversal = false ∧
      (s.motions.get m).brake.state = .released ∧ s.k.minimumComplement.get m.motion ≤ s.proven m.motion ∧
      s.tripInForce = false ∧ grants (s.res.force.codes.get m) d = true ∧
      (m = .swing → grants s.res.look.code d = true)

/-- The permit law of the walk: STEPPING in a timed phase with no ending, its brake RELEASED, its minimum complement proven
and no trip effect in force (R119). -/
def State.WalkPermitLaw (s : State) : Prop :=
  ∀ d, s.walk.permit = some d →
    s.walk.state = .stepping ∧ s.walk.ending = none ∧ s.walk.phase ≠ some .dwell ∧ d = s.walk.direction ∧
      s.walk.brake.state = .released ∧ s.k.minimumComplement.walk ≤ s.proven .walk ∧ s.tripInForce = false

/-- The permit laws of the three dig motions and the walk. -/
def State.PermitsLawful (s : State) : Prop := (∀ m, s.PermitLaw m) ∧ s.WalkPermitLaw

/-- No permit shows a direction off mains (R155, R180). -/
def State.NoPermitOffMains (s : State) : Prop :=
  ¬ s.OnMains → (∀ m, (s.motions.get m).permit = none) ∧ s.walk.permit = none

/-- The waiting list has no two entries of one motion (R72). -/
def State.ListDistinct (s : State) : Prop := (s.arb.list.map Entry.motion).Nodup

/-- The entries of a list of conditions have distinct keys (R136). -/
def State.ConditionsDistinct (s : State) : Prop := (s.alarms.conditions.map Condition.key).Nodup

/-- A class that a record of a code can have: the code's base class, or for a code with a threshold a class it has risen
to, which is never TRIP (R137, R142). -/
def classLegal (code : Nat) (cls : AlarmClass) : Prop :=
  cls = baseClass code ∨ ((threshold code).isSome = true ∧ cls ≠ .trip ∧ cls.rank ≤ (baseClass code).rank)

/-- Every alarm record has a class its code can have (R142). -/
def State.ClassesLegal (s : State) : Prop := ∀ r, some r ∈ s.alarms.slots.cells → classLegal r.key.code r.cls

/-- On mains a motion with a demand is READY exactly while its proven count is at or above its minimum complement (R91). -/
def State.ReadyLaw (s : State) : Prop :=
  s.OnMains → ∀ m : Dig, (s.motions.get m).state = .acquiring ∨ (s.motions.get m).state = .ready →
    ((s.motions.get m).state = .ready ↔ s.k.minimumComplement.get m.motion ≤ s.proven m.motion)

/-- The resolver has followed the channels and the SWING demand: following them again changes nothing (R38–R43). -/
def State.ResolverFollows (s : State) : Prop := s.resolverFollow = s

/-- Every stored zone body agrees with its check code, and an EMPTY slot holds the cleared form (R19, R32). -/
def State.BodiesSound (s : State) : Prop :=
  ∀ i : Fin 40, (s.zones.slots.get i).fault = .sound ∧
    ((s.zones.slots.get i).state = .empty → (s.zones.slots.get i).body = ZoneBody.cleared)

/-! ### Effects as relations between the states before and after -/

/-- A rate counter after a count, saturating (R7). -/
def CounterAfter (d : Dir) (a b : Int) : Prop :=
  InRateRange a →
    (d = .plus → b = if a < 1048575 then a + 1 else 1048575) ∧ (d = .minus → b = if -1048575 < a then a - 1 else -1048575)

/-- One count of a HOIST or DRAG channel: a PLUS count takes the position down, a MINUS count up; beyond a limit the count
is lost and the channel SUSPECT with cause LIMIT (R1, R3). -/
def Chan.RopeCounted (a b : Chan) (d : Dir) : Prop :=
  (InLimits (a.position - (if d = .plus then 1 else -1)) →
    b.position = a.position - (if d = .plus then 1 else -1) ∧ CounterAfter d a.rateCounter b.rateCounter ∧
      b.lastDirection = some d ∧ b.refState = a.refState ∧ b.suspectCause = a.suspectCause) ∧
    (¬ InLimits (a.position - (if d = .plus then 1 else -1)) →
      b.position = a.position ∧ b.rateCounter = a.rateCounter ∧ b.refState = .suspect ∧ b.suspectCause = some .limit)

/-- One count of the SWING channel, within 0 to cpr − 1, with the turns counter (R1, R4). -/
def SwingCounted (cpr : Nat) (a b : Chan) (turns turns' : BitVec 16) (d : Dir) : Prop :=
  (d = .plus → if a.position + 1 = (cpr : Int) then b.position = 0 ∧ turns' = turns + 1
    else b.position = a.position + 1 ∧ turns' = turns) ∧
    (d = .minus → if a.position = 0 then b.position = (cpr : Int) - 1 ∧ turns' = turns - 1
      else b.position = a.position - 1 ∧ turns' = turns) ∧
    CounterAfter d a.rateCounter b.rateCounter ∧ b.lastDirection = some d ∧ b.refState = a.refState ∧
    b.suspectCause = a.suspectCause

/-- One count of the WALK channel: up on PLUS, down on MINUS, held at a limit; a magnitude beyond cpr + cpr / 8 makes the
channel SUSPECT with cause MISSED INDEX, and counting goes on (R1, R5). -/
def Chan.CamCounted (a b : Chan) (cpr : Nat) (d : Dir) : Prop :=
  (InLimits (a.position + (if d = .plus then 1 else -1)) →
    b.position = a.position + (if d = .plus then 1 else -1) ∧ CounterAfter d a.rateCounter b.rateCounter ∧
      b.lastDirection = some d ∧
      (b.position.natAbs ≤ cpr + cpr / 8 → b.refState = a.refState ∧ b.suspectCause = a.suspectCause) ∧
      (cpr + cpr / 8 < b.position.natAbs → b.refState = .suspect ∧ b.suspectCause = some .missedIndex)) ∧
    (¬ InLimits (a.position + (if d = .plus then 1 else -1)) →
      b.position = a.position ∧ b.rateCounter = a.rateCounter ∧ b.refState = .suspect ∧ b.suspectCause = some .limit)

/-- What no count changes in a channel record. -/
def Chan.SameMeasures (a b : Chan) : Prop :=
  b.rate = a.rate ∧ b.quietWindows = a.quietWindows ∧ b.capture = a.capture ∧ b.windowLeft = a.windowLeft

/-- A channel takes one count (R1–R5): its own record, and of the others' nothing; turns belong to SWING alone. -/
def State.TakesCount (s t : State) (c : Motion) (d : Dir) : Prop :=
  (s.chans.ch.get c).SameMeasures (t.chans.ch.get c) ∧ s.OtherChannels t c ∧
    (c ≠ .swing → t.chans.turns = s.chans.turns) ∧
    t.chans.stepCounter = s.chans.stepCounter ∧ t.chans.liftOff = s.chans.liftOff ∧ t.chans.setDown = s.chans.setDown ∧
    match c with
    | .hoist => s.chans.ch.hoist.RopeCounted t.chans.ch.hoist d
    | .drag => s.chans.ch.drag.RopeCounted t.chans.ch.drag d
    | .swing => SwingCounted s.k.cprSwing s.chans.ch.swing t.chans.ch.swing s.chans.turns t.chans.turns d
    | .walk => s.chans.ch.walk.CamCounted t.chans.ch.walk s.k.cprWalk d

/-- The reference value of a channel: the constant for HOIST and DRAG, 0 for SWING and WALK. -/
def referenceValue (k : Constants) : Motion → Int
  | .hoist => k.refValueHoist
  | .drag => k.refValueDrag
  | .swing => 0
  | .walk => 0

/-- A reference edge of a channel whose mode preloads a REFERENCED channel or does not (R12). -/
def Chan.EdgeTaken (a b : Chan) (value : Int) (preloads : Prop) (now : Nat) : Prop :=
  b.refState = .referenced ∧
    (a.refState ≠ .referenced → b.position = value ∧ b.capture = a.capture ∧ b.suspectCause = none) ∧
    (a.refState = .referenced → b.capture = some ⟨a.position, now⟩ ∧
      (preloads → b.position = value) ∧ (¬ preloads → b.position = a.position)) ∧
    b.lastDirection = a.lastDirection ∧ b.rateCounter = a.rateCounter ∧ b.rate = a.rate ∧
    b.quietWindows = a.quietWindows

/-- The turns counter at a SWING reference edge (R4, R12). -/
def TurnsAtEdge (cpr : Nat) (a : Chan) (preloads : Prop) (turns turns' : BitVec 16) : Prop :=
  (a.refState ≠ .referenced → turns' = 0) ∧
    (a.refState = .referenced → preloads → (cpr : Int) ≤ 2 * a.position → turns' = turns + 1) ∧
    (a.refState = .referenced → preloads → 2 * a.position < (cpr : Int) → turns' = turns) ∧
    (a.refState = .referenced → ¬ preloads → turns' = turns)

/-- A reference edge of HOIST, DRAG or SWING (R12). -/
def State.DigEdgeTaken (s t : State) (c : Dig) : Prop :=
  (s.chans.ch.get c.motion).EdgeTaken (t.chans.ch.get c.motion) (referenceValue s.k c.motion)
      ((s.k.reference.get c).mode = .everyEdge) s.now ∧
    s.OtherChannels t c.motion ∧
    (c = .swing → TurnsAtEdge s.k.cprSwing s.chans.ch.swing ((s.k.reference.get c).mode = .everyEdge)
      s.chans.turns t.chans.turns) ∧
    (c ≠ .swing → t.chans.turns = s.chans.turns) ∧
    t.chans.stepCounter = s.chans.stepCounter ∧ t.chans.liftOff = s.chans.liftOff ∧ t.chans.setDown = s.chans.setDown

/-- A revision counted up: r to r + 1, 65535 to 1, 0 to 1 (R25). -/
def CountedUp (r r' : BitVec 16) : Prop := (r.toNat < 65535 → r'.toNat = r.toNat + 1) ∧ (r.toNat = 65535 → r'.toNat = 1)

/-- What a request that edits a zone leaves alone. -/
structure State.SameButZones (s t : State) : Prop where
  pending : t.pending = s.pending
  power : t.power = s.power
  clock : t.clock = s.clock
  k : t.k = s.k
  fitted : t.fitted = s.fitted
  store : t.store = s.store
  commit : t.commit = s.commit
  inputs : t.inputs = s.inputs
  chans : t.chans = s.chans
  supply : t.supply = s.supply
  guardLeft : t.guardLeft = s.guardLeft

/-- The state against which a request's own checks are made: its frame has ended, and a valid Cab frame in RUN has
restarted the cab link timer and cleared CAB LINK LOST (R161, R164, R173, R174). -/
def State.atRequest (s : State) (p : Port) : State := (s.hunt p).cabFrame p

/-- What R167 gives of each request. -/
def requestSpec? : Instr → Option Spec
  | .read _ => some ⟨1, true, true, false, false, true, false⟩
  | .next _ => some ⟨2, true, true, false, false, true, false⟩
  | .status _ => some ⟨3, true, true, false, false, true, false⟩
  | .demand _ => some ⟨4, true, false, false, false, false, false⟩
  | .arm _ => some ⟨5, true, false, false, false, false, false⟩
  | .stopAll _ => some ⟨6, true, true, false, false, false, false⟩
  | .parkMachine _ => some ⟨7, true, true, false, false, false, false⟩
  | .walk _ => some ⟨8, true, false, false, false, false, false⟩
  | .walkHalt _ => some ⟨9, true, true, false, false, true, false⟩
  | .walkResume _ => some ⟨10, true, false, false, false, false, false⟩
  | .walkCancel _ => some ⟨11, true, true, false, false, true, false⟩
  | .writeZone _ => some ⟨12, false, true, false, true, false, false⟩
  | .retireZone _ => some ⟨13, false, true, false, true, false, false⟩
  | .confirmZones _ => some ⟨14, false, true, false, true, false, false⟩
  | .flushCache _ => some ⟨15, false, true, false, true, false, false⟩
  | .referenceReset _ => some ⟨16, false, true, false, false, false, false⟩
  | .acknowledge _ => some ⟨17, true, true, false, false, true, false⟩
  | .shelve _ => some ⟨18, false, true, false, false, false, false⟩
  | .unshelve _ => some ⟨19, false, true, false, false, false, false⟩
  | .setAnnounce _ => some ⟨20, true, true, false, false, true, false⟩
  | .lockOutGenerator _ => some ⟨21, false, true, false, false, false, false⟩
  | .returnGenerator _ => some ⟨22, false, true, true, false, false, false⟩
  | .openGuard _ => some ⟨23, false, true, false, false, false, false⟩
  | .writeConstant _ => some ⟨24, false, true, true, true, false, false⟩
  | .commit _ => some ⟨25, false, true, true, true, false, false⟩
  | .restart _ => some ⟨26, false, true, true, true, false, true⟩
  | _ => none

/-- The status of a failed field test, if there is one. -/
def failedField {α : Type} : Field α → Option Status
  | .error st => some st
  | .ok _ => none

/-- The field test of each request (R164, test 3; R166, R175). -/
def requestFieldFails (s : State) : Instr → Option Status
  | .read f => failedField (parseRead s f.fields)
  | .next f => failedField (parseNext s f.fields)
  | .demand f => failedField (parseDemand s f.fields)
  | .arm f => failedField (parseArm s f.fields)
  | .walk f => failedField (parseWalk s f.fields)
  | .writeZone f => failedField (parseWriteZone s f.fields)
  | .retireZone f => failedField (parseRetireZone s f.fields)
  | .confirmZones f => failedField (parseConfirmZones s f.fields)
  | .referenceReset f => failedField (parseChannel s f.fields)
  | .acknowledge f | .unshelve f => failedField (parseAlarmKey s f.fields)
  | .shelve f => failedField (parseShelve s f.fields)
  | .setAnnounce f => failedField (parseAnnounce s f.fields)
  | .lockOutGenerator f | .returnGenerator f => failedField (parseGenerator s f.fields)
  | .writeConstant f => failedField (parseWriteConstant s f.fields)
  | .status f | .stopAll f | .parkMachine f | .walkHalt f | .walkResume f | .walkCancel f | .flushCache f | .openGuard f
  | .commit f | .restart f => failedField (parseNothing s f.fields)
  | _ => none

/-- A frame on a port reaches a part that runs on mains and takes it (R163, R164). -/
def State.Takes (s : State) (f : Frame) (p : Port) : Prop := s.OnMains ∧ f.port = p ∧ s.Awaits p

/-- A frame that edits the zone table or the settings reaches a part that runs on mains with no COMMIT in progress. -/
def State.TakesEdit (s : State) (f : Frame) : Prop := s.OnMains ∧ f.port = .service ∧ s.Awaits .service ∧ s.commit = none

/-! ### Record bodies, byte for byte (R175) -/

/-- Bytes from a place on are the ones given, or all ones where the field is absent. -/
def FieldAt {α : Type} (b : List Byte) (place n : Nat) (x : Option α) (bytes : α → List Byte) : Prop :=
  (b.drop place).take n = match x with
    | some v => bytes v
    | none => List.replicate n 255

/-- The byte at a place. -/
def ByteAt (b : List Byte) (place : Nat) (x : Byte) : Prop := b[place]? = some x

/-- A machine time: 4 bytes of seconds, most significant byte first. -/
def TimeAt (b : List Byte) (place : Nat) (x : Option Nat) : Prop :=
  FieldAt b place 4 x fun t => [BitVec.ofNat 8 (t / 16777216), BitVec.ofNat 8 (t / 65536), BitVec.ofNat 8 (t / 256), BitVec.ofNat 8 t]

/-- A direction that may be NONE: 0 NONE, 1 PLUS, 2 MINUS. -/
def DirectionAt (b : List Byte) (place : Nat) (d : Option Dir) : Prop :=
  ByteAt b place (match d with
    | none => 0
    | some .plus => 1
    | some .minus => 2)

/-- Yes or no: 0 no, 1 yes. -/
def YesNoAt (b : List Byte) (place : Nat) (x : Bool) : Prop := ByteAt b place (if x then 1 else 0)

/-- A motion, a holder or a loop: 0 for none and OPEN. -/
def MotionAt (b : List Byte) (place : Nat) (m : Option Motion) : Prop :=
  ByteAt b place (match m with
    | none => 0
    | some .hoist => 1
    | some .drag => 2
    | some .swing => 3
    | some .walk => 4)

/-- A brake: 0 SET, 1 RELEASING, 2 RELEASED, 3 SETTING. -/
def BrakeAt (b : List Byte) (place : Nat) (x : BrakeState) : Prop :=
  ByteAt b place (match x with
    | .set => 0
    | .releasing => 1
    | .released => 2
    | .setting => 3)

/-- The motion record body, kind 3. -/
def State.MotionBody (s : State) (m : Dig) (b : List Byte) : Prop :=
  let r := s.motions.get m
  b.length = 20 ∧ MotionAt b 0 (some m.motion) ∧
    ByteAt b 1 (match r.state with
      | .idle => 0
      | .acquiring => 1
      | .ready => 2
      | .releasing => 3
      | .tripped => 4
      | .locked => 5) ∧
    DirectionAt b 2 r.demand ∧
    ByteAt b 3 (match r.complement with
      | .minimum => 0
      | .full => 1) ∧
    ByteAt b 4 (BitVec.ofNat 8 (s.held m.motion)) ∧ ByteAt b 5 (BitVec.ofNat 8 (s.proven m.motion)) ∧
    BrakeAt b 6 r.brake.state ∧ DirectionAt b 7 r.permit ∧
    ByteAt b 8 (match r.holdReason with
      | none => 255
      | some .zone => 0
      | some .lookahead => 1
      | some .resolving => 2
      | some .reversal => 3
      | some .brake => 4
      | some .lease => 5) ∧
    (FieldAt b 9 2 r.tripCause fun c => [BitVec.ofNat 8 c.key.code, BitVec.ofNat 8 c.key.num]) ∧
    TimeAt b 11 r.holdStart ∧ YesNoAt b 15 r.reversal ∧ TimeAt b 16 r.brake.stopWait

/-- The generator record body, kind 2. -/
def State.GeneratorBody (s : State) (g : Fin 12) (b : List Byte) : Prop :=
  b.length = 14 ∧ ByteAt b 0 (BitVec.ofNat 8 (g.val + 1)) ∧ ByteAt b 6 (BitVec.ofNat 8 (s.gens.get g).attempts) ∧
    (b[13]?.map fun p => (p.getLsbD 0, p.getLsbD 1, p.getLsbD 2, p.getLsbD 3)) =
      some ((s.proofs g).hoist, (s.proofs g).drag, (s.proofs g).swing, (s.proofs g).walk) ∧
    match (s.gens.get g).st with
    | .free => ByteAt b 1 0 ∧ MotionAt b 2 none ∧ MotionAt b 3 none ∧ ByteAt b 4 255 ∧ ByteAt b 5 255 ∧
        ByteAt b 7 255 ∧ TimeAt b 8 none ∧ ByteAt b 12 255
    | .parked l since => ByteAt b 1 1 ∧ MotionAt b 2 (some l) ∧ MotionAt b 3 none ∧ ByteAt b 4 255 ∧
        ByteAt b 5 255 ∧ ByteAt b 7 255 ∧ TimeAt b 8 (some since) ∧ ByteAt b 12 255
    | .moving v => ByteAt b 1 2 ∧ MotionAt b 2 v.loop ∧ MotionAt b 3 v.holder ∧
        ByteAt b 4 (match v.step with
          | .opening => 0
          | .closing => 1) ∧
        MotionAt b 5 v.target ∧
        ByteAt b 7 (match v.lockPending with
          | none => 255
          | some .service => 0
          | some .withdrawn => 3) ∧
        TimeAt b 8 none ∧ ByteAt b 12 255
    | .granted h => ByteAt b 1 3 ∧ MotionAt b 2 (some h) ∧ MotionAt b 3 (some h) ∧ ByteAt b 4 255 ∧
        ByteAt b 5 255 ∧ ByteAt b 7 255 ∧ TimeAt b 8 none ∧ ByteAt b 12 255
    | .lockedOut c l => ByteAt b 1 4 ∧ MotionAt b 2 l ∧ MotionAt b 3 none ∧ ByteAt b 4 255 ∧ ByteAt b 5 255 ∧
        ByteAt b 7 255 ∧ TimeAt b 8 none ∧
        ByteAt b 12 (match c with
          | .service => 0
          | .welded => 1
          | .noProof => 2
          | .withdrawn => 3)
    | .noRecord => True

/-- The zone record body, kind 1: an EMPTY or DEFECTIVE slot shows no body, and its label has length 0. -/
def State.ZoneBodyBytes (s : State) (i : Fin 40) (b : List Byte) : Prop :=
  let z := s.zones.slots.get i
  ByteAt b 0 (BitVec.ofNat 8 i.val) ∧
    ByteAt b 1 (match z.state with
      | .empty => 0
      | .inForce => 1
      | .stale => 2
      | .defective => 3) ∧
    (b.drop 2).take 2 = [BitVec.ofNat 8 (z.revision.toNat / 256), BitVec.ofNat 8 z.revision.toNat] ∧
    (FieldAt b 4 4 z.window fun w => [BitVec.ofNat 8 (w.base / 256), BitVec.ofNat 8 w.base, BitVec.ofNat 8 (w.span / 256),
      BitVec.ofNat 8 w.span]) ∧
    (z.state = .empty ∨ z.state = .defective → b.drop 8 = List.replicate 9 255 ++ [0]) ∧
    (z.state = .inForce ∨ z.state = .stale →
      ByteAt b 8 (match z.body.kind with
        | .machine => 0
        | .site => 1) ∧
      YesNoAt b 9 z.body.exclusion ∧
      (b.drop 10).take 4 = [BitVec.ofNat 8 z.body.dragMin, BitVec.ofNat 8 z.body.dragMax, BitVec.ofNat 8 z.body.hoistMin,
        BitVec.ofNat 8 z.body.hoistMax] ∧
      (∀ m : Dig, ByteAt b (13 + m.motion.number) (match z.body.permission.get m with
        | .none => 0
        | .plus => 1
        | .minus => 2
        | .both => 3)) ∧
      ByteAt b 17 (BitVec.ofNat 8 z.body.label.length) ∧ b.drop 18 = z.body.label)

/-- The supply record body, kind 13. -/
def State.SupplyBody (s : State) (b : List Byte) : Prop :=
  b.length = 10 ∧
    ByteAt b 0 (match s.supply.state with
      | .run => 0
      | .holdup => 1) ∧
    TimeAt b 1 s.supply.lastEntry ∧ TimeAt b 5 s.supply.lastReturn ∧ YesNoAt b 9 s.supply.marker

/-- The STATUS body (R170); the guard's seconds are rounded up (log entry 27, the model's choice). -/
def State.StatusBody (s : State) (b : List Byte) : Prop :=
  b.length = 22 ∧ b.take 5 = [0x53, 0x44, 0x34, 0x31, 0x30] ∧
    (∃ level : Nat, 1 ≤ level ∧ level ≤ 255 ∧ ByteAt b 5 (BitVec.ofNat 8 level)) ∧
    ByteAt b 6 (BitVec.ofNat 8 s.fitted) ∧
    ByteAt b 7 (match s.supply.state with
      | .run => 0
      | .holdup => 1) ∧
    (b.drop 8).take 2 = [BitVec.ofNat 8 (s.zones.epoch.toNat / 256), BitVec.ofNat 8 s.zones.epoch.toNat] ∧
    TimeAt b 10 (some s.now) ∧
    YesNoAt b 14 (s.alarms.announce.get .cab).announcing ∧
    ByteAt b 15 (BitVec.ofNat 8 (s.alarms.announce.get .cab).mask.toNat) ∧
    YesNoAt b 16 (s.alarms.announce.get .service).announcing ∧
    ByteAt b 17 (BitVec.ofNat 8 (s.alarms.announce.get .service).mask.toNat) ∧
    (s.guardLeft = none → ByteAt b 18 0) ∧
    (∀ ms, s.guardLeft = some ms → ByteAt b 18 (BitVec.ofNat 8 (max 1 ((ms + 999) / 1000)))) ∧
    ByteAt b 19 (match s.cabTimer with
      | .stopped => 0
      | .running _ => 1
      | .expired => 2) ∧
    YesNoAt b 20 s.commit.isSome ∧
    (b[21]?.map fun x => (x.getLsbD 0, x.getLsbD 1)) = some (s.attentionLine .cab, s.attentionLine .service)

/-! ### The orders of NEXT (R169) -/

/-- A number stands after an optional starting number. -/
def StandsAfter (start : Option Nat) (n : Nat) : Prop := ∀ k, start = some k → k < n

/-- The listing order of R150: effective class, then unacknowledged first, then first raised, then code, then instance. -/
def ListedBefore (a b : ListingKey) : Prop :=
  a.cls < b.cls ∨ (a.cls = b.cls ∧ (a.acknowledged < b.acknowledged ∨ (a.acknowledged = b.acknowledged ∧
    (a.firstRaised < b.firstRaised ∨ (a.firstRaised = b.firstRaised ∧
      (a.code < b.code ∨ (a.code = b.code ∧ a.num < b.num)))))))

/-- The listing values of a record: TRIP 0 to NOTICE 3, ACTIVE ACK 1 and any other state 0. -/
def ListedAs (r : AlarmRec) (k : ListingKey) : Prop :=
  k.cls = (match r.cls with
    | .trip => 0
    | .stop => 1
    | .warn => 2
    | .notice => 3) ∧
    k.acknowledged = (if r.state = .activeAck then 1 else 0) ∧ k.firstRaised = r.firstRaised ∧ k.code = r.key.code ∧
    k.num = r.key.num

/-- A record is held and stands after an optional starting key in listing order. -/
def State.ListedAfter (s : State) (start : Option ListingKey) (k : ListingKey) : Prop :=
  (∃ r, some r ∈ s.alarms.slots.cells ∧ ListedAs r k) ∧ ∀ i, start = some i → ListedBefore i k

/-- What NEXT returns of each kind, in its order (R169). -/
def State.NextFollowsOrder (s : State) : Prop :=
  (∀ (start : Option Nat) (i : Fin 40), s.nextOf (.zone start) = some (.zone i) ↔
    StandsAfter start i.val ∧ (s.zones.slots.get i).state ≠ .empty ∧
      ∀ j : Fin 40, j < i → StandsAfter start j.val → (s.zones.slots.get j).state = .empty) ∧
  (∀ start : Option Nat, s.nextOf (.zone start) = none ↔
    ∀ j : Fin 40, StandsAfter start j.val → (s.zones.slots.get j).state = .empty) ∧
  (∀ (start : Option Nat) (g : Fin 12), s.nextOf (.generator start) = some (.generator g) ↔
    StandsAfter start (g.val + 1) ∧ g.val < s.fitted ∧ ∀ h : Fin 12, h < g → ¬ StandsAfter start (h.val + 1)) ∧
  (s.nextOf (.motion none) = some (.motion .hoist) ∧ s.nextOf (.motion (some 1)) = some (.motion .drag) ∧
    s.nextOf (.motion (some 2)) = some (.motion .swing) ∧ s.nextOf (.motion (some 3)) = none) ∧
  (s.nextOf (.permission none) = some (.permission .hoist) ∧ s.nextOf (.permission (some 1)) = some (.permission .drag) ∧
    s.nextOf (.permission (some 2)) = some (.permission .swing) ∧ s.nextOf (.permission (some 3)) = none) ∧
  (s.nextOf (.channel none) = some (.channel .hoist) ∧ s.nextOf (.channel (some 1)) = some (.channel .drag) ∧
    s.nextOf (.channel (some 2)) = some (.channel .swing) ∧ s.nextOf (.channel (some 3)) = some (.channel .walk) ∧
    s.nextOf (.channel (some 4)) = none) ∧
  (s.nextOf (.cacheEntry none) = some (.cacheEntry 0) ∧ s.nextOf (.cacheEntry (some 15)) = none ∧
    ∀ i j : Fin 16, j.val = i.val + 1 → s.nextOf (.cacheEntry (some i.val)) = some (.cacheEntry j)) ∧
  (∀ (start : Option ListingKey) (key : AlarmKey), s.nextOf (.alarm start) = some (.alarm key) →
    ∃ k, s.ListedAfter start k ∧ key = ⟨k.code, k.num⟩ ∧ ∀ k', s.ListedAfter start k' → ¬ ListedBefore k' k) ∧
  (∀ start : Option ListingKey, s.nextOf (.alarm start) = none ↔ ∀ k, ¬ s.ListedAfter start k) ∧
  s.nextOf (.constant none) = constantKeys[0]?.map .constant ∧
  ∀ (i : Nat) (key : ConstKey), constantKeys[i]? = some key →
    s.nextOf (.constant (some (key.no, match key.channel with
      | some c => c.number
      | none => 255))) = constantKeys[i + 1]?.map .constant

end Sys2Proof.Machine
end

