-- ==== Sys2Proof/Certificates/Slice0/Obligations.lean ====
section
/-! DEFINITION. The statements for the provers. In each, the state before is `s` and the state after is `t`; where the own
effect of a command is written out as a state `u`, the command answers the completion of that effect,
`State.settle s u`, and `Obligations.CompletionLeavesRecords` says what the completion leaves alone. -/

open Sys2Proof Sys2Proof.Machine

/-! ### The machine as a whole -/

/-- A step with a command waiting is that command on the queue's rest. -/
def Obligations.StepRunsFrontCommand : Prop :=
  ∀ (c : Instr) (rest : List Instr) (s : State), s.pending = c :: rest → step s = exec c { s with pending := rest }

/-- With no command waiting a step is one millisecond of a part that runs: the machine clock and the rate windows go on
by it, and no record changes its state (log entry 3: the model's choice of a tick). -/
def Obligations.IdleStepIsOneMillisecond : Prop :=
  ∀ s : State, s.pending = [] → s.OnMains →
    ∃ t, step s = .next t ∧ t.clock = s.clock + 1 ∧ t.pending = [] ∧ t.power = s.power ∧ t.k = s.k ∧ t.inputs = s.inputs ∧
      t.zones = s.zones ∧ t.res = s.res ∧ t.arb = s.arb ∧ t.supply = s.supply ∧ t.ports = s.ports ∧ t.store = s.store ∧
      t.alarms.conditions = s.alarms.conditions ∧ (∀ m, t.proven m = s.proven m) ∧
      (∀ c, (t.chans.ch.get c).position = (s.chans.ch.get c).position ∧
        (t.chans.ch.get c).windowLeft = (s.chans.ch.get c).windowLeft - 1) ∧
      (∀ m, (t.motions.get m).state = (s.motions.get m).state ∧ (t.motions.get m).permit = (s.motions.get m).permit ∧
        (t.motions.get m).brake.state = (s.motions.get m).brake.state) ∧
      t.walk.state = s.walk.state ∧ t.walk.permit = s.walk.permit ∧ t.walk.brake.state = s.walk.brake.state

/-- The completion of a change leaves the clock, the constants, the store, the inputs, the count channels, the zone table,
the supply record, the ports, the guard, the cab link timer and the waiting commands alone. -/
def Obligations.CompletionLeavesRecords : Prop := ∀ s0 s : State, s.SameRecords (State.settle s0 s)

/-- What a cold start leaves (R18, R29, R31, R51, R68, R84, R110, R132, R151, R152, R171, R172, R180), on the inputs at rest
of log entry 2 and the factory image of log entry 1, which are the model's choices. -/
def Obligations.ResetIsAColdStart : Prop :=
  State.reset.OnMains ∧ State.reset.clock = 0 ∧ State.reset.k = Constants.defaults ∧ State.reset.fitted = 8 ∧
    (∀ c, (State.reset.chans.ch.get c).position = 0 ∧ (State.reset.chans.ch.get c).lastDirection = none ∧
      (State.reset.chans.ch.get c).rateCounter = 0 ∧ (State.reset.chans.ch.get c).rate = 0 ∧
      (State.reset.chans.ch.get c).quietWindows = 0 ∧ (State.reset.chans.ch.get c).refState = .unreferenced ∧
      (State.reset.chans.ch.get c).suspectCause = none ∧ (State.reset.chans.ch.get c).capture = none ∧
      (State.reset.chans.ch.get c).armed = false ∧ State.reset.isTrue ⟨7, c.number⟩ = true) ∧
    State.reset.chans.turns = 0 ∧ State.reset.chans.stepCounter = 0 ∧ State.reset.chans.liftOff = none ∧
    State.reset.chans.setDown = none ∧ State.reset.zones.epoch = 1 ∧ State.reset.zones.scrub = 0 ∧
    (∀ i : Fin 40, (State.reset.zones.slots.get i).state = .empty ∧ (State.reset.zones.slots.get i).revision = 0) ∧
    State.reset.res.force.source = .unreferenced ∧ State.reset.res.force.codes = PerDig.const .plus ∧
    (∀ g : Fin 12, (State.reset.gens.get g).st = if g.val < 8 then .free else .noRecord) ∧ State.reset.arb.list = [] ∧
    (∀ m, (State.reset.motions.get m).state = .idle ∧ (State.reset.motions.get m).brake.state = .set ∧
      (State.reset.motions.get m).permit = none) ∧
    State.reset.walk.state = .idle ∧ State.reset.walk.lastOutcome = none ∧ State.reset.supply.lastEntry = none ∧
    State.reset.alarms.lostEvents = 0 ∧ (∀ p, (State.reset.alarms.announce.get p).announcing = false) ∧
    State.reset.guardLeft = none ∧ State.reset.cabTimer = .stopped

/-- The invariants hold at reset. -/
def Obligations.InvariantsHoldAtReset : Prop :=
  State.reset.ChannelsInRange ∧ State.reset.SuspectHasCause ∧ State.reset.ZonesLawful ∧ State.reset.ConditionsFollow ∧
    State.reset.ClassesLegal ∧ State.reset.MotionsLawful ∧ State.reset.PermitsLawful ∧ State.reset.NoPermitOffMains ∧
    State.reset.ReadyLaw ∧ State.reset.ListDistinct ∧ State.reset.ConditionsDistinct

/-! ### Invariants that every step keeps -/

/-- The count channels stay within their ranges, under constants that pass their tests (R3, R4, R5, R7, R8, R176). -/
def Obligations.ChannelsStayInRange : Prop :=
  ∀ s t : State, s.ChannelsInRange → s.SuspectHasCause → step s = .next t → t.ChannelsInRange ∧ t.SuspectHasCause

/-- The zone slots keep the law of their states (R19, R25, R31). What a write leaves in the store is a lawful image or
none (log entry 32, the model's choice). -/
def Obligations.ZonesStayLawful : Prop := ∀ s t : State, s.ZonesLawful → step s = .next t → t.ZonesLawful

/-- While the part runs, COUNT JUMP, UNREFERENCED, ZONE DEFECTIVE and SITE ZONES STALE stay at the truth of their causes
(R17, R36). -/
def Obligations.ChannelAndZoneConditionsFollow : Prop :=
  ∀ s t : State, (s.Runs → s.ChannelConditions ∧ s.ZoneConditions) → step s = .next t → t.Runs →
    t.ChannelConditions ∧ t.ZoneConditions

/-- On mains the conditions of the generator table stay at the truth of their causes, and every record keeps a class its
code can have (R70, R142). -/
def Obligations.GeneratorConditionsFollow : Prop :=
  ∀ s t : State, s.ClassesLegal → (s.OnMains → s.GeneratorConditions) → step s = .next t →
    t.ClassesLegal ∧ (t.OnMains → t.GeneratorConditions)

/-- The dig motion records keep their shape: a demand in ACQUIRING and READY alone, a hold start in RELEASING alone, a trip
cause in TRIPPED alone (R86, R96, R100, R103). -/
def Obligations.MotionsStayLawful : Prop := ∀ s t : State, s.MotionsLawful → step s = .next t → t.MotionsLawful

/-- The permit laws: after every step no permit of a dig motion or of the walk shows a direction unless every term of its
composition holds, and none does off mains; a motion with a demand is READY exactly on its minimum complement (R91, R95,
R119, R155). -/
def Obligations.PermitsStayLawful : Prop :=
  ∀ s t : State, s.PermitsLawful → s.NoPermitOffMains → s.ReadyLaw → step s = .next t →
    t.PermitsLawful ∧ t.NoPermitOffMains ∧ t.ReadyLaw

/-- The waiting list has at most one entry of each motion, and the condition set no key twice (R72, R136). -/
def Obligations.ListAndConditionsStayDistinct : Prop :=
  ∀ s t : State, s.ListDistinct → s.ConditionsDistinct → step s = .next t → t.ListDistinct ∧ t.ConditionsDistinct

/-! ### Count channels (01) -/

/-- QUADRATURE_COUNT: a change of A or of B that the multiplier counts is one count, in the direction that the level
of the other input gives; nothing but that channel, its level and what follows the channels is touched (R1, R3–R5).
COUNT_DIRECTION_COUNT: a change of B that the multiplier counts is one count, PLUS while A is high with count sense
NORMAL (R2). QUADRATURE_ERROR: A and B seen changing together are not counted; the channel becomes SUSPECT with
suspect cause QUADRATURE, at every multiplier (R1, R13). The model keeps the input levels, and a change seen on both
inputs turns both (log entry 9, the model's choice). -/
def Obligations.EncoderChangesCount : Prop :=
  (∀ (s : State) (c : Motion) (input : EncoderInput) (level : Bool), s.Runs →
    (s.k.channel.get c).mode = .quadrature → s.inputs.encoder c input ≠ level →
    ((s.k.channel.get c).multiplier = .x4 ∨ ((s.k.channel.get c).multiplier = .x2 ∧ input = .a) ∨
      ((s.k.channel.get c).multiplier = .x1 ∧ input = .a ∧ level = true)) →
    ∃ t d, exec (.quadratureCount c input level) s = .next t ∧
      (d = .plus ↔ ((input = .a ∧ level ≠ s.inputs.encB.get c) ∨ (input = .b ∧ level = s.inputs.encA.get c) ↔
        (s.k.channel.get c).sense = .normal)) ∧
      s.TakesCount t c d ∧ s.SameButChannels t ∧ t.inputs = s.inputs.setEncoder c input level) ∧
  (∀ (s : State) (c : Motion) (level : Bool), s.Runs →
    (s.k.channel.get c).mode = .countDirection → s.inputs.encB.get c ≠ level →
    ((s.k.channel.get c).multiplier = .x2 ∨ ((s.k.channel.get c).multiplier = .x1 ∧ level = true)) →
    ∃ t d, exec (.countDirectionCount c .b level) s = .next t ∧
      (d = .plus ↔ (s.inputs.encA.get c = true ↔ (s.k.channel.get c).sense = .normal)) ∧
      s.TakesCount t c d ∧ s.SameButChannels t ∧ t.inputs = s.inputs.setEncoder c .b level) ∧
  (∀ (s : State) (c : Motion), s.Runs → (s.k.channel.get c).mode = .quadrature →
    ∃ t, exec (.quadratureError c) s = .next t ∧ s.SameButChannels t ∧
      t.chans = { s.chans with ch := s.chans.ch.set c { s.chans.ch.get c with
        refState := .suspect, suspectCause := some .quadrature } } ∧
      t.inputs = { s.inputs with
        encA := s.inputs.encA.set c (!s.inputs.encA.get c), encB := s.inputs.encB.set c (!s.inputs.encB.get c) })

/-- RATE_WINDOW_END: the counter becomes the rate and is cleared, the next window begins at the constant's length, and a
rate beyond the plausibility limit makes the channel SUSPECT with cause JUMP; OVERSPEED takes its truth from the new rate
(R7, R9, R10). -/
def Obligations.WindowEndMeasuresRate : Prop :=
  ∀ (s : State) (c : Motion), s.Runs →
    ∃ t, exec (.rateWindowEnd c) s = .next t ∧
      (t.chans.ch.get c).rate = (s.chans.ch.get c).rateCounter ∧ (t.chans.ch.get c).rateCounter = 0 ∧
      (t.chans.ch.get c).windowLeft = (s.k.channel.get c).rateWindow ∧
      ((s.k.channel.get c).plausibilityLimit < (s.chans.ch.get c).rateCounter.natAbs →
        (t.chans.ch.get c).refState = .suspect ∧ (t.chans.ch.get c).suspectCause = some .jump) ∧
      ((s.chans.ch.get c).rateCounter.natAbs ≤ (s.k.channel.get c).plausibilityLimit →
        (t.chans.ch.get c).refState = (s.chans.ch.get c).refState ∧
          (t.chans.ch.get c).suspectCause = (s.chans.ch.get c).suspectCause) ∧
      (t.isTrue ⟨5, c.number⟩ = true ↔ (s.k.channel.get c).overspeedLimit < (s.chans.ch.get c).rateCounter.natAbs) ∧
      (t.chans.ch.get c).position = (s.chans.ch.get c).position ∧
      (t.chans.ch.get c).lastDirection = (s.chans.ch.get c).lastDirection ∧
      (t.chans.ch.get c).capture = (s.chans.ch.get c).capture ∧ s.OtherChannels t c ∧ t.inputs = s.inputs ∧
      t.chans.turns = s.chans.turns ∧ t.chans.stepCounter = s.chans.stepCounter ∧ s.SameButChannels t

/-- The stopped rule: at a window end quiet windows counts up to no more than 3 while the magnitude of the new rate is at
most the stopped threshold and is 0 otherwise, stopped is yes exactly while quiet windows is 3, in every reference state,
and at a cold start quiet windows is 0 and no drum is stopped (R8). -/
def Obligations.StoppedAfterThreeQuietWindows : Prop :=
  (∀ (s : State) (c : Motion), s.Runs →
    ∃ t, exec (.rateWindowEnd c) s = .next t ∧
      ((t.chans.ch.get c).rate.natAbs ≤ (s.k.channel.get c).stoppedThreshold →
        (t.chans.ch.get c).quietWindows = min ((s.chans.ch.get c).quietWindows + 1) 3) ∧
      ((s.k.channel.get c).stoppedThreshold < (t.chans.ch.get c).rate.natAbs → (t.chans.ch.get c).quietWindows = 0)) ∧
    (∀ (s : State) (c : Motion), s.stopped c = true ↔ (s.chans.ch.get c).quietWindows = 3) ∧
    ∀ c : Motion, (State.reset.chans.ch.get c).quietWindows = 0 ∧ State.reset.stopped c = false

/-- REFERENCE_SWITCH_MAKE: in the reference direction it is the reference edge with qualifier SWITCH and sets switch
armed with SWITCH THEN INDEX; in the other direction, or with the last direction absent, it is neither (R11, R12).
REFERENCE_SWITCH_BREAK clears switch armed without a reference edge (R11). ENCODER_INDEX: with SWITCH THEN INDEX,
armed, the switch still made and the last direction still the reference direction, it is the reference edge and clears
switch armed; else it has no effect (R11, R12). The switch events are taken as they come, whatever level was kept (log
entry 9, the model's choice). -/
def Obligations.SwitchAndIndexEdges : Prop :=
  (∀ (s : State) (c : Dig), s.Runs →
    ∃ t, exec (.referenceSwitchMake c) s = .next t ∧ s.SameButChannels t ∧
      t.inputs = { s.inputs with refSwitch := s.inputs.refSwitch.set c true } ∧
      ((s.chans.ch.get c.motion).lastDirection = some (s.k.reference.get c).direction →
        (s.k.reference.get c).qualifier = .switch → s.DigEdgeTaken t c) ∧
      ((s.chans.ch.get c.motion).lastDirection = some (s.k.reference.get c).direction →
        (s.k.reference.get c).qualifier = .switchThenIndex →
        t.chans = { s.chans with ch := s.chans.ch.set c.motion { s.chans.ch.get c.motion with armed := true } }) ∧
      ((s.chans.ch.get c.motion).lastDirection ≠ some (s.k.reference.get c).direction → t.chans = s.chans)) ∧
  (∀ (s : State) (c : Dig), s.Runs →
    ∃ t, exec (.referenceSwitchBreak c) s = .next t ∧ s.SameButChannels t ∧
      t.inputs = { s.inputs with refSwitch := s.inputs.refSwitch.set c false } ∧
      t.chans = { s.chans with ch := s.chans.ch.set c.motion { s.chans.ch.get c.motion with armed := false } }) ∧
  (∀ (s : State) (c : Dig), s.Runs →
    ∃ t, exec (.encoderIndex c) s = .next t ∧ s.SameButChannels t ∧ t.inputs = s.inputs ∧
      ((s.k.reference.get c).qualifier = .switchThenIndex ∧ (s.chans.ch.get c.motion).armed = true ∧
          s.inputs.refSwitch.get c = true ∧
          (s.chans.ch.get c.motion).lastDirection = some (s.k.reference.get c).direction →
        s.DigEdgeTaken t c ∧ (t.chans.ch.get c.motion).armed = false) ∧
      ((s.k.reference.get c).qualifier = .switch ∨ (s.chans.ch.get c.motion).armed = false ∨
          s.inputs.refSwitch.get c = false ∨
          (s.chans.ch.get c.motion).lastDirection ≠ some (s.k.reference.get c).direction →
        t.chans = s.chans))

/-- CAM_INDEX: the WALK position is preloaded to 0 in every state, with the capture in REFERENCED; the step counter counts
up in the direction of the walk record, wrapping, down in the other, holding at 0, and not at all with the last direction
absent (log entry 12, the model's choice); a walk under way reads it as its steps done, no more than were requested. In
STEPPING outside DWELL with no ending, an index in the walk direction ends the step: phase DWELL, permit NONE, the brake
output dropped, the phase timer stopped; one in the other direction leaves the phase to the stride position; in every other
state the phase stays (R5, R6, R12, R124). A lift-off taken while the walk is not IDLE is copied into the walk record, sets
lifted this step and clears set-down seen; the first of a walk, in RUN, sets site marking done and makes every IN FORCE
SITE slot STALE, counting the epoch up by one if there is one. A set-down taken while the walk is not IDLE is copied too,
and sets set-down seen if the walk is STEPPING or INTERRUPTED, has lifted in this step and the stride lies from stride end
to set-down end - 1. An IDLE walk takes no edge (R30, R121, R122). -/
def Obligations.CamAndTubEdgesMoveTheWalk : Prop :=
  (∀ s : State, s.Runs →
    ∃ t u, exec .camIndex s = .next t ∧ t = State.settle s u ∧ s.SameButChannels t ∧ t.inputs = s.inputs ∧
      t.chans.ch.walk.position = 0 ∧ s.chans.ch.walk.EdgeTaken t.chans.ch.walk 0 True s.now ∧ s.OtherChannels t .walk ∧
      (s.chans.ch.walk.lastDirection = some s.walk.direction → t.chans.stepCounter = s.chans.stepCounter + 1) ∧
      (s.chans.ch.walk.lastDirection = some s.walk.direction.opposite →
        t.chans.stepCounter = if s.chans.stepCounter = 0 then 0 else s.chans.stepCounter - 1) ∧
      (s.chans.ch.walk.lastDirection = none → t.chans.stepCounter = s.chans.stepCounter) ∧
      t.chans.turns = s.chans.turns ∧ t.chans.liftOff = s.chans.liftOff ∧ t.chans.setDown = s.chans.setDown ∧
      (s.walk.state ≠ .idle → t.walk.stepsDone = min t.chans.stepCounter.toNat (s.walk.stepsRequested.getD 0)) ∧
      (s.walk.state = .idle → t.walk.stepsDone = s.walk.stepsDone) ∧
      (s.walk.state = .stepping ∧ s.walk.ending = none ∧ s.walk.phase ≠ some .dwell →
        (s.chans.ch.walk.lastDirection = some s.walk.direction →
          u.walk.phase = some .dwell ∧ u.walk.permit = none ∧ u.walk.phaseTimer = none ∧
            (u.walk.brake.state = .set ∨ u.walk.brake.state = .setting)) ∧
        (s.chans.ch.walk.lastDirection = some s.walk.direction.opposite → u.walk.phase = some (phaseOf s.k t.stride))) ∧
      (¬ (s.walk.state = .stepping ∧ s.walk.ending = none ∧ s.walk.phase ≠ some .dwell) →
        u.walk = { s.walk with stepsDone := t.walk.stepsDone })) ∧
  (∀ s : State, s.Runs →
    ∃ t u, exec .tubLiftOff s = .next t ∧ t = State.settle s u ∧
      (s.walk.state ≠ .idle → u.walk = { s.walk with
        liftOff := some ⟨s.stride, s.now, decide (s.chans.ch.walk.refState = .referenced)⟩
        lifted := true, setDownSeen := false, siteMarked := u.walk.siteMarked }) ∧
      (s.walk.state ≠ .idle → s.walk.siteMarked = false → s.OnMains → u.walk.siteMarked = true ∧
        (∀ i : Fin 40, ((s.zones.slots.get i).state = .inForce → (s.zones.slots.get i).body.kind = .site →
            t.zones.slots.get i = { s.zones.slots.get i with state := .stale }) ∧
          (¬ ((s.zones.slots.get i).state = .inForce ∧ (s.zones.slots.get i).body.kind = .site) →
            t.zones.slots.get i = s.zones.slots.get i)) ∧
        ((∃ i : Fin 40, (s.zones.slots.get i).state = .inForce ∧ (s.zones.slots.get i).body.kind = .site) →
          t.zones.epoch = s.zones.epoch + 1) ∧
        ((∀ i : Fin 40, ¬ ((s.zones.slots.get i).state = .inForce ∧ (s.zones.slots.get i).body.kind = .site)) →
          t.zones = s.zones)) ∧
      (s.walk.state = .idle ∨ s.walk.siteMarked = true ∨ s.OnBackup →
        t.zones = s.zones ∧ u.walk.siteMarked = s.walk.siteMarked) ∧
      (s.walk.state = .idle → u.walk = s.walk)) ∧
  ∀ s : State, s.Runs →
    ∃ u, exec .tubSetDown s = .next (State.settle s u) ∧
      (s.walk.state ≠ .idle → u.walk = { s.walk with
        setDown := some ⟨s.stride, s.now, decide (s.chans.ch.walk.refState = .referenced)⟩
        setDownSeen := u.walk.setDownSeen } ∧
        (u.walk.setDownSeen = true ↔ s.walk.setDownSeen = true ∨
          ((s.walk.state = .stepping ∨ s.walk.state = .interrupted) ∧ s.walk.lifted = true ∧
            s.k.strideEnd ≤ s.stride ∧ s.stride < s.k.setDownEnd))) ∧
      (s.walk.state = .idle → u.walk = s.walk) ∧ s.SameButChannels (State.settle s u)

/-- TUB_LIFT_OFF and TUB_SET_DOWN: each edge of the tub bearing input replaces the capture of its kind by the stride
position, the machine time and whether WALK is REFERENCED, in every walk record state and every reference state, and the
tub bearing field shows the present level (R14). -/
def Obligations.TubEdgesAreCaptured : Prop :=
  ∀ s : State, s.Runs →
    (∃ t, exec .tubLiftOff s = .next t ∧ t.inputs = { s.inputs with tub := false } ∧
      t.chans = { s.chans with
        liftOff := some ⟨s.stride, s.now, decide (s.chans.ch.walk.refState = .referenced)⟩ }) ∧
    ∃ t, exec .tubSetDown s = .next t ∧ t.inputs = { s.inputs with tub := true } ∧
      t.chans = { s.chans with
        setDown := some ⟨s.stride, s.now, decide (s.chans.ch.walk.refState = .referenced)⟩ }

/-- REFERENCE RESET makes the named channel UNREFERENCED and clears suspect cause and switch armed, leaving the rest of the
channel; of channel 4 it is refused with reason STATE while the walk record is not IDLE (R15). -/
def Obligations.ReferenceResetUnreferences : Prop :=
  ∀ (s : State) (f : Frame) (c : Motion), s.Takes f .service → parseChannel s f.fields = .ok c →
    (c ≠ .walk ∨ s.walk.state = .idle →
      ∃ t, exec (.referenceReset f) s = .next t ∧ t.Answers .service f.tag 16 .done .none ∧
        t.chans = { s.chans with ch := s.chans.ch.set c { s.chans.ch.get c with
          refState := .unreferenced, suspectCause := none, armed := false } } ∧
        t.zones = s.zones ∧ t.inputs = s.inputs ∧ t.k = s.k) ∧
    (c = .walk → s.walk.state ≠ .idle →
      ∃ t, exec (.referenceReset f) s = .next t ∧ t.Answers .service f.tag 16 .refused .state ∧ s.SameButPorts t)

/-! ### Zone table (02) -/

/-- The permission codes: NONE grants no direction, PLUS and MINUS one each, BOTH both (R23). -/
def Obligations.PermissionCodesGrant : Prop :=
  (∀ d, grants .none d = false) ∧ (∀ d, grants .plus d = true ↔ d = .plus) ∧
    (∀ d, grants .minus d = true ↔ d = .minus) ∧ ∀ d, grants .both d = true

/-- What a slot covers (R20, R22): IN FORCE and STALE by its swing window and both band windows, DEFECTIVE by its swing
window at every band, EMPTY nothing. A cell key resolves in three tiers: the lowest exclusion-like zone that covers it
forbids every motion; else the ordinary zone of smallest span, lowest index among equals, gives its codes; else the
default permissions apply with no winner. Exclusion-like is a slot STALE or DEFECTIVE, or IN FORCE with Exclusion yes;
ordinary is a slot IN FORCE with Exclusion no (R19, R24). -/
def Obligations.ZonesResolveKeys : Prop :=
  (∀ (z : ZoneSlot) (w : SwingWindow) (key : CellKey), z.window = some w →
    (z.state = .empty → z.covers key = false) ∧
    (z.state = .defective → (z.covers key = true ↔ w.base ≤ key.cell * 64 ∧ key.cell * 64 < w.base + w.span)) ∧
    (z.state = .inForce ∨ z.state = .stale →
      (z.covers key = true ↔ (w.base ≤ key.cell * 64 ∧ key.cell * 64 < w.base + w.span) ∧
        (z.body.dragMin ≤ key.drag ∧ key.drag ≤ z.body.dragMax) ∧
        z.body.hoistMin ≤ key.hoist ∧ key.hoist ≤ z.body.hoistMax))) ∧
  (∀ z : ZoneSlot,
    (z.exclusionLike = true ↔
      z.state = .stale ∨ z.state = .defective ∨ (z.state = .inForce ∧ z.body.exclusion = true)) ∧
    (z.ordinary = true ↔ z.state = .inForce ∧ z.body.exclusion = false)) ∧
  (∀ (slots : List ZoneSlot) (defaults : PerDig Permission) (key : CellKey),
    (∀ (i : Nat) (z : ZoneSlot), slots[i]? = some z → z.covers key = true → z.exclusionLike = true →
      (∀ (j : Nat) (y : ZoneSlot), j < i → slots[j]? = some y → ¬ (y.covers key = true ∧ y.exclusionLike = true)) →
      resolve slots defaults key = ⟨PerDig.const .none, some i⟩) ∧
    ((∀ z ∈ slots, ¬ (z.covers key = true ∧ z.exclusionLike = true)) →
      (∀ (i : Nat) (z : ZoneSlot), slots[i]? = some z → z.covers key = true → z.ordinary = true →
        (∀ (j : Nat) (y : ZoneSlot), slots[j]? = some y → y.covers key = true → y.ordinary = true →
          z.span < y.span ∨ (z.span = y.span ∧ i ≤ j)) →
        resolve slots defaults key = ⟨z.body.permission, some i⟩) ∧
      ((∀ z ∈ slots, ¬ (z.covers key = true ∧ z.ordinary = true)) → resolve slots defaults key = ⟨defaults, none⟩)))

/-- WRITE ZONE that passes its checks makes the slot IN FORCE with the fields sent and the revision counted up, and counts
the epoch up by one; every other slot and every other record of the part's store and channels keeps its value (R25, R26,
R29). -/
def Obligations.WriteZoneReplacesSlot : Prop :=
  ∀ (s : State) (f : Frame) (w : ZoneWrite), s.TakesEdit f → parseWriteZone s f.fields = .ok w →
    w.window.base % w.window.span = 0 → w.body.dragMin ≤ w.body.dragMax → w.body.hoistMin ≤ w.body.hoistMax →
    w.expected = (s.zones.slots.get w.slot).revision →
    (s.walk.state = .idle ∨ (w.body.kind = .machine ∧ (s.zones.slots.get w.slot).state ≠ .stale ∧
      (s.zones.slots.get w.slot).state ≠ .defective ∧
      ((s.zones.slots.get w.slot).state = .inForce → (s.zones.slots.get w.slot).body.kind = .machine))) →
    ∃ t, exec (.writeZone f) s = .next t ∧ t.Answers .service f.tag 12 .done .none ∧
      (t.zones.slots.get w.slot).state = .inForce ∧ (t.zones.slots.get w.slot).window = some w.window ∧
      (t.zones.slots.get w.slot).body = w.body ∧ (t.zones.slots.get w.slot).fault = .sound ∧
      CountedUp (s.zones.slots.get w.slot).revision (t.zones.slots.get w.slot).revision ∧
      t.zones.epoch = s.zones.epoch + 1 ∧ t.zones.scrub = s.zones.scrub ∧ s.OtherSlots t w.slot ∧ s.SameButZones t

/-- RETIRE ZONE makes a non-empty slot of the expected revision EMPTY with revision 0, in every state of the walk, and
counts the epoch up; an EMPTY slot is answered NO RECORD and another revision STALE, with nothing changed (R25, R27,
R29). CONFIRM ZONES with the walk IDLE makes the STALE slot named, or every STALE slot, IN FORCE with its revision
counted up, and counts the epoch up by one for the whole request (R25, R28, R29). -/
def Obligations.RetireAndConfirmZones : Prop :=
  (∀ (s : State) (f : Frame) (i : Fin 40) (r : BitVec 16), s.TakesEdit f → parseRetireZone s f.fields = .ok (i, r) →
    ((s.zones.slots.get i).state ≠ .empty → r = (s.zones.slots.get i).revision →
      ∃ t, exec (.retireZone f) s = .next t ∧ t.Answers .service f.tag 13 .done .none ∧
        t.zones.slots.get i = ZoneSlot.empty ∧ t.zones.epoch = s.zones.epoch + 1 ∧ s.OtherSlots t i ∧
        t.zones.scrub = s.zones.scrub ∧ s.SameButZones t) ∧
    ((s.zones.slots.get i).state = .empty →
      ∃ t, exec (.retireZone f) s = .next t ∧ t.Answers .service f.tag 13 .noRecord .none ∧ s.SameButPorts t) ∧
    ((s.zones.slots.get i).state ≠ .empty → r ≠ (s.zones.slots.get i).revision →
      ∃ t, exec (.retireZone f) s = .next t ∧ t.Answers .service f.tag 13 .stale .none ∧ s.SameButPorts t)) ∧
  (∀ (s : State) (f : Frame), s.TakesEdit f → s.walk.state = .idle →
    (∀ (i : Fin 40) (r : Option (BitVec 16)), parseConfirmZones s f.fields = .ok (some (i, r)) →
      (s.zones.slots.get i).state = .stale → (∀ e, r = some e → e = (s.zones.slots.get i).revision) →
      ∃ t, exec (.confirmZones f) s = .next t ∧ t.Answers .service f.tag 14 .done .none ∧
        (t.zones.slots.get i).state = .inForce ∧ (t.zones.slots.get i).body = (s.zones.slots.get i).body ∧
        (t.zones.slots.get i).window = (s.zones.slots.get i).window ∧
        CountedUp (s.zones.slots.get i).revision (t.zones.slots.get i).revision ∧
        t.zones.epoch = s.zones.epoch + 1 ∧ s.OtherSlots t i ∧ s.SameButZones t) ∧
    (parseConfirmZones s f.fields = .ok none → (∃ i : Fin 40, (s.zones.slots.get i).state = .stale) →
      ∃ t, exec (.confirmZones f) s = .next t ∧ t.Answers .service f.tag 14 .done .none ∧
        (∀ i : Fin 40, ((s.zones.slots.get i).state = .stale →
            (t.zones.slots.get i).state = .inForce ∧ (t.zones.slots.get i).body = (s.zones.slots.get i).body ∧
            CountedUp (s.zones.slots.get i).revision (t.zones.slots.get i).revision) ∧
          ((s.zones.slots.get i).state ≠ .stale → t.zones.slots.get i = s.zones.slots.get i)) ∧
        t.zones.epoch = s.zones.epoch + 1 ∧ s.SameButZones t))

/-- SCRUB_VISIT checks the body of the slot at the scrub position and moves the position on by one, from 39 to 0: a
sound body is left, a single fault corrected with the epoch kept, an uncorrectable fault of an IN FORCE or STALE slot
makes it DEFECTIVE with its revision and window kept and the epoch counted up; a DEFECTIVE slot is not checked and an
EMPTY slot is put in its cleared form (R32–R35). A body agrees with its check code, or has one correctable or an
uncorrectable fault (log entry 5, the model's choice). -/
def Obligations.ScrubChecksOneBody : Prop :=
  ∀ s : State, s.Runs →
    ∃ t, exec (.scrubVisit []) s = .next t ∧ t.zones.scrub = s.zones.scrub + 1 ∧ s.OtherSlots t s.zones.scrub ∧
      (let z := s.zones.slots.get s.zones.scrub
       let y := t.zones.slots.get s.zones.scrub
       (z.state = .inForce ∨ z.state = .stale →
          (z.fault = .sound → y = z ∧ t.zones.epoch = s.zones.epoch) ∧
          (z.fault = .single → y = { z with fault := .sound } ∧ t.zones.epoch = s.zones.epoch) ∧
          (z.fault = .uncorrectable → y = { z with state := .defective, body := ZoneBody.cleared, fault := .sound } ∧
            t.zones.epoch = s.zones.epoch + 1)) ∧
        (z.state = .defective → y = z ∧ t.zones.epoch = s.zones.epoch) ∧
        (z.state = .empty → y = { z with body := ZoneBody.cleared, fault := .sound } ∧
          t.zones.epoch = s.zones.epoch)) ∧
      t.chans = s.chans ∧ t.k = s.k ∧ t.ports = s.ports ∧ t.inputs = s.inputs

/-! ### Permission resolver (03) -/

/-- RESOLUTION_END under an unchanged epoch puts what the key resolves to in force for the current key, with source
CELL and that key and epoch; under another epoch the key is resolved again from the present table (R44, R45). The
slots are read as they stand at the end of the resolution (log entry 14, the model's choice). -/
def Obligations.ResolutionEndPutsInForce : Prop :=
  ∀ (s : State) (f : InFlight), s.OnMains → s.BodiesSound → s.res.inFlight = some f → s.onCellPath = true →
    s.res.currentKey = some f.key → s.presentKey = f.key →
    (f.epoch = s.zones.epoch →
      ∃ t, exec .resolutionEnd s = .next t ∧
        t.res.force = ⟨(resolve s.zones.slots.cells s.k.defaultPermission f.key).codes, .cell, some f.key,
          some s.zones.epoch⟩ ∧ s.SameRecords t) ∧
    (f.epoch ≠ s.zones.epoch →
      ∃ t, exec .resolutionEnd s = .next t ∧ t.res.inFlight = some ⟨f.key, s.zones.epoch⟩ ∧
        t.res.force = s.res.force ∧ s.SameRecords t)

/-- FLUSH CACHE invalidates every entry and is answered DONE; the epoch and the zone table stay (R47). -/
def Obligations.FlushCacheInvalidates : Prop :=
  ∀ (s : State) (f : Frame), s.TakesEdit f → f.fields = [] →
    ∃ t, exec (.flushCache f) s = .next t ∧ t.Answers .service f.tag 15 .done .none ∧
      (∀ e ∈ t.res.cache.cells, e.valid = false) ∧ t.zones = s.zones ∧ s.SameButZones t

/-! ### Generators (04) -/

/-- CLOSURE_PROOF in the CLOSING step that waits for it: with a holder the generator is GRANTED to it with its attempts
kept, without one it is PARKED on the loop under PARK LAST, and a pending lock-out or the policy OPEN begins an
opening there (R57, R60, R64). DROP_OUT_PROOF in the OPENING step that waits for it, not after a failed close: with a
holder and a target whose proof is absent the close on the target begins; with target OPEN the generator is FREE, or
LOCKED OUT with the pending cause (R56, R61, R64). DROP_OUT_PROOF in the OPENING step that follows a failed close acts by
what that close made of its attempts: at the constant under LOCK OUT the generator is LOCKED OUT with cause NO PROOF, with
the event; else the close begins again for a holder, as a failing claim under KEEP TRYING, and without one the generator
is FREE, or LOCKED OUT with the pending cause (R58, R59, R64). No rule says outright that the reopening goes by the
constants of its failed close, whatever they now are: that is the model's own (log entry 16, DEDUCED). So is the cause NO
PROOF with a lock-out pending (log entry 15, DEDUCED). -/
def Obligations.ProofsEndMoveSteps : Prop :=
  (∀ (s : State) (g : Fin 12) (loop : Motion) (v : Move) (n : Nat), s.OnMains → s.gens.get g = ⟨.moving v, n⟩ →
    v.step = .closing → v.on = loop →
    (∀ h, v.lockPending = none → v.holder = some h →
      exec (.closureProof g loop) s = .next (State.settle s { s with
        inputs := s.inputs.setProof g loop true, gens := s.gens.set g ⟨.granted h, n⟩ })) ∧
    (v.lockPending = none → v.holder = none → s.k.parkPolicy = .parkLast →
      exec (.closureProof g loop) s = .next (State.settle s { s with
        inputs := s.inputs.setProof g loop true, gens := s.gens.set g ⟨.parked loop s.now, n⟩ })) ∧
    (v.lockPending ≠ none ∨ (v.holder = none ∧ s.k.parkPolicy = .openContactor) →
      exec (.closureProof g loop) s = .next (State.settle s { s with
        inputs := s.inputs.setProof g loop true
        gens := s.gens.set g ⟨.moving
          { holder := none, step := .opening, on := loop, loop := some loop, target := none, afterFail := .no,
            lockPending := v.lockPending, keepTrying := false, seq := 0, timer := some s.k.contactorProofTime }, n⟩ }))) ∧
  (∀ (s : State) (g : Fin 12) (loop : Motion) (v : Move) (n : Nat), s.OnMains → s.gens.get g = ⟨.moving v, n⟩ →
    v.step = .opening → v.on = loop → v.afterFail = .no →
    (∀ h tl, v.lockPending = none → v.holder = some h → v.target = some tl → tl ≠ loop →
      (s.proofs g).get tl = false →
      exec (.dropOutProof g loop) s = .next (State.settle s { s with
        inputs := s.inputs.setProof g loop false
        gens := s.gens.set g ⟨.moving
          { v with step := .closing, on := tl, loop := none, target := some tl, afterFail := .no,
                   timer := some s.k.contactorProofTime }, n⟩ })) ∧
    (v.lockPending = none → (v.holder = none ∨ v.target = none) →
      exec (.dropOutProof g loop) s = .next (State.settle s { s with
        inputs := s.inputs.setProof g loop false, gens := s.gens.set g ⟨.free, n⟩ })) ∧
    (∀ c, v.lockPending = some c →
      exec (.dropOutProof g loop) s = .next (State.settle s { s with
        inputs := s.inputs.setProof g loop false, gens := s.gens.set g ⟨.lockedOut (causeOf c) none, n⟩ }))) ∧
  (∀ (s : State) (g : Fin 12) (loop : Motion) (v : Move) (n : Nat), s.OnMains → s.gens.get g = ⟨.moving v, n⟩ →
    v.step = .opening → v.on = loop → v.afterFail ≠ .no →
    (v.afterFail = .lockOut →
      exec (.dropOutProof g loop) s = .next (State.settle s (State.raiseEvent { s with
        inputs := s.inputs.setProof g loop false
        gens := s.gens.set g ⟨.lockedOut .noProof none, n⟩ } ⟨10, g.val + 1⟩))) ∧
    (∀ h, v.afterFail ≠ .lockOut → v.lockPending = none → v.holder = some h →
      exec (.dropOutProof g loop) s = .next (State.settle s { s with
        inputs := s.inputs.setProof g loop false
        gens := s.gens.set g ⟨.moving
          { v with step := .closing, loop := none, target := some loop, afterFail := .no,
                   keepTrying := decide (v.afterFail = .keepTrying), timer := some s.k.contactorProofTime }, n⟩ })) ∧
    (v.afterFail ≠ .lockOut → v.lockPending = none → v.holder = none →
      exec (.dropOutProof g loop) s = .next (State.settle s { s with
        inputs := s.inputs.setProof g loop false, gens := s.gens.set g ⟨.free, n⟩ })) ∧
    (∀ c, v.afterFail ≠ .lockOut → v.lockPending = some c →
      exec (.dropOutProof g loop) s = .next (State.settle s { s with
        inputs := s.inputs.setProof g loop false, gens := s.gens.set g ⟨.lockedOut (causeOf c) none, n⟩ })))

/-- STRAY_OR_LOST_PROOF: a proof that no record expects makes a FREE generator, and a PARKED or GRANTED one on another loop,
LOCKED OUT with cause WELDED on the stray loop; the loss of its own proof makes a PARKED generator FREE and a GRANTED one
LOCKED OUT with cause NO PROOF, each raising CONTACTOR NO PROOF (R63). -/
def Obligations.StrayAndLostProofs : Prop :=
  ∀ (s : State) (g : Fin 12) (loop : Motion) (n : Nat), s.OnMains →
    ((s.gens.get g = ⟨.free, n⟩ ∨ (∃ l since, s.gens.get g = ⟨.parked l since, n⟩ ∧ l ≠ loop) ∨
        (∃ h, s.gens.get g = ⟨.granted h, n⟩ ∧ h ≠ loop)) →
      exec (.strayOrLostProof g loop true) s = .next (State.settle s { s with
        inputs := s.inputs.setProof g loop true, gens := s.gens.set g ⟨.lockedOut .welded (some loop), n⟩ })) ∧
    (∀ since, s.gens.get g = ⟨.parked loop since, n⟩ →
      exec (.strayOrLostProof g loop false) s = .next (State.settle s (State.raiseEvent { s with
        inputs := s.inputs.setProof g loop false, gens := s.gens.set g ⟨.free, n⟩ } ⟨10, g.val + 1⟩))) ∧
    (s.gens.get g = ⟨.granted loop, n⟩ →
      exec (.strayOrLostProof g loop false) s = .next (State.settle s (State.raiseEvent { s with
        inputs := s.inputs.setProof g loop false, gens := s.gens.set g ⟨.lockedOut .noProof none, n⟩ }
        ⟨10, g.val + 1⟩)))

/-- LOCKED_OUT_PROOF_CHANGE: a LOCKED OUT generator stays as it is, and CONTACTOR WELDED is true exactly while it shows a
closure proof (R54, R70). -/
def Obligations.LockedOutProofSetsWelded : Prop :=
  ∀ (s : State) (g : Fin 12) (loop : Motion) (present : Bool) (cause : LockCause) (l : Option Motion) (n : Nat),
    s.OnMains → s.gens.get g = ⟨.lockedOut cause l, n⟩ →
    ∃ t, exec (.lockedOutProofChange g loop present) s = .next t ∧ t.gens.get g = ⟨.lockedOut cause l, n⟩ ∧
      t.inputs = s.inputs.setProof g loop present ∧
      (t.isTrue ⟨11, g.val + 1⟩ = true ↔ ∃ m, (t.proofs g).get m = true) ∧ t.isTrue ⟨12, g.val + 1⟩ = true ∧
      t.chans = s.chans ∧ t.zones = s.zones

/-- OPENING_PROOF_TIME_END: an OPENING step without drop-out proof in time leaves the generator LOCKED OUT with cause
WELDED on the loop it waited for, and GENERATOR LOCKED OUT becomes true (R56, R70). FAILED_CLOSE with the target's
proof absent: attempts counts up and the close begins again while it is below the constant; at the constant LOCK OUT
makes the generator LOCKED OUT with cause NO PROOF and raises the event, and KEEP TRYING closes again with CONTACTOR
NO PROOF as a condition (R58, R59). Without a holder, or with a lock-out pending, no close begins again: the generator
is LOCKED OUT with cause NO PROOF, with the event, at the constant under LOCK OUT (with a lock-out pending by log
entry 15, DEDUCED, the model's), and else FREE, or LOCKED OUT with the pending cause (R58, R61, R64). With the
target's proof showing, the opening on the target begins (R58); that it keeps what the constants made of the attempts
at this failed close is the model's own (log entry 16, DEDUCED). The end of a time arrives as a command (log entry 4,
the model's choice). -/
def Obligations.ProofTimesEndMoveSteps : Prop :=
  (∀ (s : State) (g : Fin 12) (v : Move) (n : Nat), s.OnMains → s.gens.get g = ⟨.moving v, n⟩ → v.step = .opening →
    ∃ t, exec (.openingProofTimeEnd g) s = .next t ∧ t.gens.get g = ⟨.lockedOut .welded (some v.on), n⟩ ∧
      t.isTrue ⟨12, g.val + 1⟩ = true ∧ s.SameRecords t) ∧
  (∀ (s : State) (g : Fin 12) (v : Move) (h : Motion) (n : Nat), s.OnMains → s.gens.get g = ⟨.moving v, n⟩ →
    v.step = .closing → v.holder = some h → v.lockPending = none → (s.proofs g).get v.on = false →
    (n + 1 < s.k.transferAttempts →
      exec (.failedClose g) s = .next (State.settle s { s with
        gens := s.gens.set g ⟨.moving
          { v with loop := none, target := some v.on, afterFail := .no, keepTrying := false,
                   timer := some s.k.contactorProofTime }, n + 1⟩ })) ∧
    (s.k.transferAttempts ≤ n + 1 → s.k.attemptPolicy = .lockOut →
      exec (.failedClose g) s = .next (State.settle s (State.raiseEvent { s with
        gens := s.gens.set g ⟨.lockedOut .noProof none, s.k.transferAttempts⟩ } ⟨10, g.val + 1⟩))) ∧
    (s.k.transferAttempts ≤ n + 1 → s.k.attemptPolicy = .keepTrying →
      exec (.failedClose g) s = .next (State.settle s { s with
        gens := s.gens.set g ⟨.moving
          { v with loop := none, target := some v.on, afterFail := .no, keepTrying := true,
                   timer := some s.k.contactorProofTime }, s.k.transferAttempts⟩ }))) ∧
  (∀ (s : State) (g : Fin 12) (v : Move) (n : Nat), s.OnMains → s.gens.get g = ⟨.moving v, n⟩ →
    v.step = .closing → (v.holder = none ∨ v.lockPending ≠ none) → (s.proofs g).get v.on = false →
    (s.k.transferAttempts ≤ n + 1 → s.k.attemptPolicy = .lockOut →
      exec (.failedClose g) s = .next (State.settle s (State.raiseEvent { s with
        gens := s.gens.set g ⟨.lockedOut .noProof none, s.k.transferAttempts⟩ } ⟨10, g.val + 1⟩))) ∧
    (n + 1 < s.k.transferAttempts ∨ s.k.attemptPolicy = .keepTrying →
      exec (.failedClose g) s = .next (State.settle s { s with
        gens := s.gens.set g ⟨match v.lockPending with
          | none => .free
          | some c => .lockedOut (causeOf c) none, min (n + 1) s.k.transferAttempts⟩ }))) ∧
  (∀ (s : State) (g : Fin 12) (v : Move) (n : Nat), s.OnMains → s.gens.get g = ⟨.moving v, n⟩ →
    v.step = .closing → (s.proofs g).get v.on = true →
    exec (.failedClose g) s = .next (State.settle s { s with
      gens := s.gens.set g ⟨.moving
        { v with step := .opening, loop := none, timer := some s.k.contactorProofTime,
                 afterFail :=
                  if n + 1 < s.k.transferAttempts then .again
                  else if s.k.attemptPolicy = .lockOut then .lockOut
                  else .keepTrying }, min (n + 1) s.k.transferAttempts⟩ }))

/-- LOCK OUT GENERATOR by the state of the generator: FREE is LOCKED OUT (SERVICE) with DONE; a PARKED one that shows its
proof is MOVING with holder none, target OPEN, lock-out pending SERVICE and an OPENING step on its park loop, ACCEPTED; a
MOVING one has holder none and lock-out pending SERVICE, or is left as it is with a lock-out pending already, ACCEPTED; a
GRANTED one is refused with reason GRANTED and a LOCKED OUT one with reason STATE, either left as it is; no other
generator changes by it (R56, R64). RETURN GENERATOR under
an open guard: a LOCKED OUT generator that is not WITHDRAWN and shows no closure proof is no longer LOCKED OUT, with
DONE; one that shows a proof is refused with reason CONDITION, a WITHDRAWN one and one that is not LOCKED OUT with
reason STATE (R65; that a WITHDRAWN one with a proof is refused with STATE is the model's choice, log entry 42). -/
def Obligations.ServiceRequestsOnGenerators : Prop :=
  (∀ (s : State) (f : Frame) (g : Fin 12), s.Takes f .service → parseGenerator s f.fields = .ok g →
    ((s.gens.get g).st = .free →
      ∃ t, exec (.lockOutGenerator f) s = .next t ∧ t.Answers .service f.tag 21 .done .none ∧
        (t.gens.get g).st = .lockedOut .service none ∧ t.isTrue ⟨12, g.val + 1⟩ = true ∧ s.SameButPorts t) ∧
    ((∃ l since, (s.gens.get g).st = .parked l since) ∨ (∃ v, (s.gens.get g).st = .moving v) →
      ∃ u, exec (.lockOutGenerator f) s = .next (State.settle s u) ∧ u.Answers .service f.tag 21 .accepted .none ∧
        s.SameButPorts u ∧ (∀ j, j ≠ g → u.gens.get j = s.gens.get j) ∧
        (∀ l since, (s.gens.get g).st = .parked l since →
          ((s.proofs g).get l = true → u.gens.get g = ⟨.moving
            { holder := none, step := .opening, on := l, loop := some l, target := none, afterFail := .no,
              lockPending := some .service, keepTrying := false, seq := 0, timer := some s.k.contactorProofTime }, 0⟩) ∧
          ((s.proofs g).get l = false → (u.gens.get g).st = .lockedOut .service none)) ∧
        (∀ v, (s.gens.get g).st = .moving v →
          (v.lockPending = none → u.gens.get g =
            ⟨.moving { v with lockPending := some .service, holder := none }, (s.gens.get g).attempts⟩) ∧
          (v.lockPending ≠ none → u.gens.get g = s.gens.get g))) ∧
    (∀ h, (s.gens.get g).st = .granted h →
      ∃ u, exec (.lockOutGenerator f) s = .next (State.settle s u) ∧ u.Answers .service f.tag 21 .refused .granted ∧
        u.gens = s.gens ∧ s.SameButPorts u) ∧
    (∀ c l, (s.gens.get g).st = .lockedOut c l →
      ∃ t, exec (.lockOutGenerator f) s = .next t ∧ t.Answers .service f.tag 21 .refused .state ∧
        t.gens.get g = s.gens.get g ∧ s.SameButPorts t)) ∧
  (∀ (s : State) (f : Frame) (g : Fin 12), s.Takes f .service → parseGenerator s f.fields = .ok g → s.guardLeft ≠ none →
    (s.gens.get g).st ≠ .noRecord →
    (∀ c l, (s.gens.get g).st = .lockedOut c l → c ≠ .withdrawn → (∀ m, (s.proofs g).get m = false) →
      ∃ t, exec (.returnGenerator f) s = .next t ∧ t.Answers .service f.tag 22 .done .none ∧
        (t.gens.get g).isLockedOut = false ∧ t.isTrue ⟨12, g.val + 1⟩ = false ∧ s.SameButPorts t) ∧
    (∀ c l m, (s.gens.get g).st = .lockedOut c l → c ≠ .withdrawn → (s.proofs g).get m = true →
      ∃ t, exec (.returnGenerator f) s = .next t ∧ t.Answers .service f.tag 22 .refused .condition ∧ s.SameButPorts t) ∧
    ((s.gens.get g).isLockedOut = false ∨ (∃ l, (s.gens.get g).st = .lockedOut .withdrawn l) →
      ∃ t, exec (.returnGenerator f) s = .next t ∧ t.Answers .service f.tag 22 .refused .state ∧ s.SameButPorts t))

/-- PARK MACHINE with every dig motion IDLE or TRIPPED and the walk IDLE opens every PARKED generator, ACCEPTED when
there is one and DONE when there is none; in any other state it is refused with reason STATE (R66). -/
def Obligations.ParkMachineOpensParked : Prop :=
  ∀ (s : State) (f : Frame), s.OnMains → s.Awaits f.port → f.fields = [] →
    ((∀ m, (s.motions.get m).state = .idle ∨ (s.motions.get m).state = .tripped) → s.walk.state = .idle →
      ∃ u, exec (.parkMachine f) s = .next (State.settle s u) ∧ (s.atRequest f.port).SameButPorts u ∧
        u.Answers f.port f.tag 7 (if ∃ g, (s.gens.get g).isParked = true then .accepted else .done) .none ∧
        (∀ g l since, (s.gens.get g).st = .parked l since →
          ((s.proofs g).get l = false → (u.gens.get g).st = .free) ∧
          ((s.proofs g).get l = true → (u.gens.get g).st = .moving
            { holder := none, step := .opening, on := l, loop := some l, target := none, afterFail := .no,
              lockPending := none, keepTrying := false, seq := 0, timer := some s.k.contactorProofTime })) ∧
        ∀ g, (s.gens.get g).isParked = false → u.gens.get g = s.gens.get g) ∧
    (¬ ((∀ m, (s.motions.get m).state = .idle ∨ (s.motions.get m).state = .tripped) ∧ s.walk.state = .idle) →
      ∃ t, exec (.parkMachine f) s = .next t ∧ t.Answers f.port f.tag 7 .refused .state ∧ s.SameButPorts t)

/-! ### Lease arbiter (05) -/

/-- The choice of a motion for a grant: the highest-priority entry H, WALK before HOIST before DRAG before SWING, unless the
counted motion is H with its count at the rotation count and an entry waits below H, when the earliest-joined entry below
H is served and the counter restarts. A list with an entry has a highest one, an empty list none and no grant (R78). -/
def Obligations.GrantsGoByPriorityAndRotation : Prop :=
  (priority .walk < priority .hoist ∧ priority .hoist < priority .drag ∧ priority .drag < priority .swing) ∧
  (∀ l : List Entry, highest l = none ↔ l = []) ∧
  (∀ (l : List Entry) (h : Motion), below l h = l.filter fun e => decide (priority h < priority e.motion)) ∧
  (∀ (a : Arbiter) (rotation : Nat), a.list = [] → chooseMotion a rotation = none) ∧
  ∀ (a : Arbiter) (rotation : Nat) (h : Motion), highest a.list = some h → a.count ≤ rotation →
    (∃ e ∈ a.list, e.motion = h) ∧ (∀ e ∈ a.list, priority h ≤ priority e.motion) ∧
    (∀ (e : Entry) (rest : List Entry), below a.list h = e :: rest → a.countedMotion = some h → a.count = rotation →
      chooseMotion a rotation = some (e.motion, none, 0)) ∧
    (below a.list h ≠ [] → a.countedMotion = some h → a.count < rotation →
      chooseMotion a rotation = some (h, some h, a.count + 1)) ∧
    (below a.list h ≠ [] → a.countedMotion ≠ some h → chooseMotion a rotation = some (h, some h, 1)) ∧
    (below a.list h = [] → chooseMotion a rotation = some (h, none, 0))

/-- The choice of a generator for a grant to a motion: PARKED on its loop, lowest number first; else FREE, lowest number
first; else parked longest on another loop, lowest number among equals; none when none is available, and one whenever one
is (R79). -/
def Obligations.GrantsTakeNearestGenerator : Prop :=
  (∀ (gens : Table Gen 12) (m : Motion), (∃ j, (gens.get j).isAvailable = true) → ∃ i, chooseGen gens m = some i) ∧
  (∀ g : Gen, g.isAvailable = true ↔ g.st = .free ∨ ∃ l since, g.st = .parked l since) ∧
  ∀ (gens : Table Gen 12) (m : Motion) (i : Fin 12), chooseGen gens m = some i →
    (gens.get i).isAvailable = true ∧
    ((∃ j, (gens.get j).isParkedOn m = true) → (gens.get i).isParkedOn m = true ∧
      ∀ j, (gens.get j).isParkedOn m = true → i ≤ j) ∧
    ((∀ j, (gens.get j).isParkedOn m = false) → (∃ j, (gens.get j).isFree = true) →
      (gens.get i).isFree = true ∧ ∀ j, (gens.get j).isFree = true → i ≤ j) ∧
    ((∀ j, (gens.get j).isParkedOn m = false) → (∀ j, (gens.get j).isFree = false) →
      ∀ j a b, (gens.get i).parkedSince = some a → (gens.get j).parkedSince = some b → a < b ∨ (a = b ∧ i ≤ j))

/-- RELEASE_HOLD_EXPIRY returns every generator GRANTED to the motion and makes it IDLE with its release hold start
absent; STARVE_TIME_END makes LEASE STARVED true for a motion whose entry has short since present and exceeded by the
machine time by more than the starve time, and before that does nothing (R81, R83, R100).
The end of a time arrives as a command (log entry 4, the model's choice). -/
def Obligations.LeaseTimersEnd : Prop :=
  (∀ (s : State) (m : Dig), s.OnMains → s.ConditionsFollow → s.ClassesLegal → (s.motions.get m).state = .releasing →
    (s.motions.get m).demand = none → (s.motions.get m).holdStart.isSome = true →
    ∃ t, exec (.releaseHoldExpiry m) s = .next t ∧ (t.motions.get m).state = .idle ∧
      (t.motions.get m).holdStart = none ∧ (t.motions.get m).complement = (s.motions.get m).complement ∧
      t.proven m.motion = 0 ∧ t.held m.motion = 0 ∧ s.SameRecords t) ∧
    ∀ (s : State) (m : Motion), s.OnMains →
      ((∃ e ∈ s.arb.list, e.motion = m ∧ ∃ since, e.shortSince = some since ∧ s.k.starveTime < s.now - since) →
        (s.raiseCondition ⟨13, m.number⟩).isTrue ⟨13, m.number⟩ = true ∧
          exec (.starveTimeEnd m) s = .next (State.settle s (s.raiseCondition ⟨13, m.number⟩))) ∧
      ((∀ e ∈ s.arb.list, ∀ since, e.motion = m → e.shortSince = some since → s.now - since ≤ s.k.starveTime) →
        exec (.starveTimeEnd m) s = .next (State.settle s s))

/-! ### Dig motions and brakes (06) -/

/-- DEMAND with a direction, taken while the motion is neither TRIPPED nor LOCKED, writes direction and complement, leaves
the motion READY or ACQUIRING by its proven count, ends a release hold, and is answered DONE; the
records of the other blocks' settings, channels and zones keep their values (R81, R88, R91). -/
def Obligations.DemandIsTaken : Prop :=
  ∀ (s : State) (f : Frame) (m : Dig) (d : Dir) (c : Complement), s.Takes f .cab → s.ConditionsFollow → s.ClassesLegal →
    s.MotionsLawful → s.ReadyLaw → parseDemand s f.fields = .ok (m, some d, c) →
    (s.motions.get m).state ≠ .tripped → (s.motions.get m).state ≠ .locked →
    ∃ t, exec (.demand f) s = .next t ∧ t.Answers .cab f.tag 4 .done .none ∧
      (t.motions.get m).demand = some d ∧ (t.motions.get m).complement = c ∧ (t.motions.get m).holdStart = none ∧
      (((t.motions.get m).state = .ready ∧ s.k.minimumComplement.get m.motion ≤ t.proven m.motion) ∨
        ((t.motions.get m).state = .acquiring ∧ t.proven m.motion < s.k.minimumComplement.get m.motion)) ∧
      s.SameButPorts t

/-- DEMAND with direction NONE takes a motion out of ACQUIRING and READY to RELEASING, or to IDLE where its hold ends as it
begins, with demand and permit NONE and the complement recorded; STOP ALL leaves no dig motion a demand or a permit (R88,
R99, R107). -/
def Obligations.DemandNoneAndStopAllRelease : Prop :=
  (∀ (s : State) (f : Frame) (m : Dig) (c : Complement), s.Takes f .cab → s.ConditionsFollow → s.ClassesLegal →
    parseDemand s f.fields = .ok (m, none, c) →
    (s.motions.get m).state = .acquiring ∨ (s.motions.get m).state = .ready → (s.motions.get m).demand.isSome = true →
    ∃ t, exec (.demand f) s = .next t ∧ t.Answers .cab f.tag 4 .done .none ∧
      (t.motions.get m).demand = none ∧ (t.motions.get m).complement = c ∧ (t.motions.get m).permit = none ∧
      ((t.motions.get m).state = .releasing ∨ (t.motions.get m).state = .idle) ∧ s.SameButPorts t) ∧
    ∀ (s : State) (f : Frame), s.OnMains → s.Awaits f.port → s.MotionsLawful → f.fields = [] →
      ∃ t, exec (.stopAll f) s = .next t ∧ t.Answers f.port f.tag 6 .done .none ∧ s.SameButPorts t ∧
        ∀ m, (t.motions.get m).demand = none ∧ (t.motions.get m).permit = none ∧
          (t.motions.get m).state ≠ .acquiring ∧ (t.motions.get m).state ≠ .ready

/-- A DEMAND is refused with reason TRIPPED while the motion is TRIPPED and with reason LOCKED while it is LOCKED (R88).
ARM of one motion, tested against the state after its own frame has cleared CAB LINK LOST: a TRIPPED motion with the
walk IDLE, no effect in force, its brake SET and nothing held becomes IDLE with its trip cause absent and its complement
kept; one that is not TRIPPED is refused with reason STATE, one with the walk not IDLE with reason LOCKED, one with an
effect in force with reason CONDITION (R105, R174). -/
def Obligations.TrippedMotionsWaitForArm : Prop :=
  (∀ (s : State) (f : Frame) (m : Dig) (d : Option Dir) (c : Complement), s.Takes f .cab →
    parseDemand s f.fields = .ok (m, d, c) →
    ((s.motions.get m).state = .tripped →
      ∃ t, exec (.demand f) s = .next t ∧ t.Answers .cab f.tag 4 .refused .tripped ∧ s.SameButPorts t) ∧
    ((s.motions.get m).state = .locked →
      ∃ t, exec (.demand f) s = .next t ∧ t.Answers .cab f.tag 4 .refused .locked ∧ s.SameButPorts t)) ∧
  (∀ (s : State) (f : Frame) (m : Dig), s.Takes f .cab → parseArm s f.fields = .ok (some m) →
    (s.ConditionsFollow → s.ClassesLegal → (s.motions.get m).state = .tripped → s.walk.state = .idle →
      (s.atRequest .cab).tripInForce = false → (s.atRequest .cab).stopInForce m.motion = false →
      (s.motions.get m).brake.state = .set → s.showsReleased m.motion = false → s.held m.motion = 0 →
      ∃ t, exec (.arm f) s = .next t ∧ t.Answers .cab f.tag 5 .done .none ∧ (t.motions.get m).state = .idle ∧
        (t.motions.get m).tripCause = none ∧ (t.motions.get m).complement = (s.motions.get m).complement ∧
        s.SameButPorts t) ∧
    ((s.motions.get m).state ≠ .tripped →
      ∃ t, exec (.arm f) s = .next t ∧ t.Answers .cab f.tag 5 .refused .state ∧ s.SameButPorts t) ∧
    ((s.motions.get m).state = .tripped → s.walk.state ≠ .idle →
      ∃ t, exec (.arm f) s = .next t ∧ t.Answers .cab f.tag 5 .refused .locked ∧ s.SameButPorts t) ∧
    ((s.motions.get m).state = .tripped → s.walk.state = .idle →
      (s.atRequest .cab).tripInForce = true ∨ (s.atRequest .cab).stopInForce m.motion = true →
      ∃ t, exec (.arm f) s = .next t ∧ t.Answers .cab f.tag 5 .refused .condition ∧ s.SameButPorts t))

/-- EMERGENCY_STOP_INPUT showing the stop, with no trip effect in force before: every dig motion is TRIPPED with permit and
demand NONE and its brake SET or SETTING, one that was not TRIPPED with cause EMERGENCY STOP; the walk's permit is NONE, a
STEPPING walk with no ending is INTERRUPTED with cause EMERGENCY STOP and its brake SET or SETTING, and a PREPARING one
ends CANCELLED, IDLE at once or at its set proof; showing no stop it makes the condition false (R101, R103, R126, R128,
R136, R138). -/
def Obligations.EmergencyStopTripsEverything : Prop :=
  (∀ s : State, s.OnMains → s.ClassesLegal → s.isTrue ⟨1, 0⟩ = false → s.tripInForce = false →
    ∃ t, exec (.emergencyStopInput true) s = .next t ∧ t.isTrue ⟨1, 0⟩ = true ∧
      t.inputs = { s.inputs with estop := true } ∧
      (∀ m, (t.motions.get m).state = .tripped ∧ (t.motions.get m).permit = none ∧ (t.motions.get m).demand = none ∧
        ((t.motions.get m).brake.state = .set ∨ (t.motions.get m).brake.state = .setting) ∧
        ((s.motions.get m).state ≠ .tripped → (t.motions.get m).tripCause = some ⟨⟨1, 0⟩, .trip⟩)) ∧
      t.walk.permit = none ∧
      (s.walk.state = .stepping → s.walk.ending = none → t.walk.state = .interrupted ∧
        t.walk.interruptCause = some ⟨⟨1, 0⟩, .trip⟩ ∧ t.walk.phase = s.walk.phase ∧
        (t.walk.brake.state = .set ∨ t.walk.brake.state = .setting)) ∧
      (s.walk.state = .preparing → s.walk.ending = none →
        (t.walk.ending = some .cancelled ∧ t.walk.brake.state = .setting) ∨
          (t.walk.state = .idle ∧ t.walk.lastOutcome = some .cancelled)) ∧
      t.chans = s.chans ∧ t.zones = s.zones ∧ t.ports = s.ports) ∧
    ∀ s : State, s.Runs →
      ∃ t, exec (.emergencyStopInput false) s = .next t ∧ t.isTrue ⟨1, 0⟩ = false ∧
        t.inputs = { s.inputs with estop := false } ∧ t.chans = s.chans ∧ t.zones = s.zones ∧ t.ports = s.ports

/-- BRAKE_RELEASE_PROOF of a brake RELEASING: a dig motion whose run condition holds has its brake RELEASED and its
permit in its demand direction; a walk in PREPARING with its minimum proven becomes STEPPING in the phase of its stride
position with its brake RELEASED and its permit in the walk direction (R93, R95, R116, R119). -/
def Obligations.ReleaseProofAssertsPermit : Prop :=
  (∀ (s : State) (m : Dig) (d : Dir), s.OnMains → s.ConditionsFollow → s.ClassesLegal → s.ResolverFollows →
    s.MotionsLawful → s.ReadyLaw → s.tripInForce = false → (s.motions.get m).brake.state = .releasing →
    (s.motions.get m).demand = some d → s.runs m = true →
    ∃ t, exec (.brakeReleaseProof m.motion) s = .next t ∧ (t.motions.get m).brake.state = .released ∧
      (t.motions.get m).permit = some d ∧ t.permitLine m.motion d = true ∧
      t.inputs = { s.inputs with brakeProof := s.inputs.brakeProof.set m.motion true } ∧ t.chans = s.chans ∧
      t.zones = s.zones) ∧
    ∀ s : State, s.OnMains → s.ConditionsFollow → s.ClassesLegal → s.tripInForce = false →
      s.walk.state = .preparing → s.walk.ending = none → s.walk.brake.state = .releasing → s.leased .walk = true →
      ∃ t, exec (.brakeReleaseProof .walk) s = .next t ∧ t.walk.state = .stepping ∧
        t.walk.phase = some (phaseOf s.k s.stride) ∧ t.walk.brake.state = .released ∧
        t.walk.permit = some s.walk.direction ∧ t.walk.prepareTimer = none ∧ t.chans = s.chans ∧ t.zones = s.zones

/-- BRAKE_SET_PROOF of a brake SETTING: the brake of a motion without a demand is SET and BRAKE NOT SET false, a TRIPPED
motion then holds nothing, and a walk with an ending finishes: IDLE, the ending its outcome, no motion LOCKED that was
(R94, R104, R126). -/
def Obligations.SetProofSetsBrake : Prop :=
  (∀ (s : State) (m : Dig), s.OnMains → (s.motions.get m).brake.state = .setting →
    (s.motions.get m).state ≠ .acquiring → (s.motions.get m).state ≠ .ready →
    ∃ t, exec (.brakeSetProof m.motion) s = .next t ∧ (t.motions.get m).brake.state = .set ∧
      t.isTrue ⟨9, m.motion.number⟩ = false ∧ ((s.motions.get m).state = .tripped → t.proven m.motion = 0) ∧
      t.inputs = { s.inputs with brakeProof := s.inputs.brakeProof.set m.motion false } ∧ t.chans = s.chans ∧
      t.zones = s.zones) ∧
    ∀ (s : State) (o : WalkOutcome), s.OnMains → s.walk.brake.state = .setting → s.walk.ending = some o →
      ∃ t, exec (.brakeSetProof .walk) s = .next t ∧ t.walk.brake.state = .set ∧ t.walk.state = .idle ∧
        t.walk.ending = none ∧ t.walk.lastOutcome = some o ∧ t.isTrue ⟨9, 4⟩ = false ∧ t.proven .walk = 0 ∧
        (∀ m, (s.motions.get m).state = .locked → (t.motions.get m).state ≠ .locked) ∧ t.chans = s.chans ∧
        t.zones = s.zones

/-- RELEASE_PROOF_LOST of a brake RELEASED and BRAKE_RELEASE_TIME_END of a brake RELEASING drop the output: the brake is
SET or SETTING and the dig motion TRIPPED with its permit NONE; BRAKE_LIFT_WITHOUT_COMMAND of a brake SET makes it
SETTING and BRAKE NOT SET true, and no permit is asserted (R93, R94, R102). BRAKE_SET_TIME_END of a brake SETTING whose
proof shows released makes BRAKE NOT SET true with the brake left SETTING and no permit asserted; STOP_TIMEOUT of a
brake RELEASED in its stop wait drops the output, and the stop wait is absent (R94). BRAKE_RELEASE_PROOF of a brake SET
that was dropped from RELEASING, within the proof time of its setting, makes it SETTING again with the rest of that time
and leaves BRAKE NOT SET as it was; a release hold, or the walk's dwell time, that had begun waits for the set proof again
(R93, R99, R117, R124; log entry 44, the model's choice). The end of a time arrives as a
command (log entry 4, the model's choice). -/
def Obligations.BrakeFaultsAndTimes : Prop :=
  ((∀ (s : State) (m : Motion), s.OnMains → s.ClassesLegal → (s.brake m).state = .released →
    ∃ t, exec (.releaseProofLost m) s = .next t ∧ t.permit m = none ∧
      ((t.brake m).state = .set ∨ (t.brake m).state = .setting) ∧
      (∀ d : Dig, d.motion = m → (t.motions.get d).state = .tripped) ∧ t.chans = s.chans) ∧
    (∀ (s : State) (m : Motion), s.OnMains → s.ClassesLegal → (s.brake m).state = .releasing →
      ∃ t, exec (.brakeReleaseTimeEnd m) s = .next t ∧ t.permit m = none ∧
        ((t.brake m).state = .set ∨ (t.brake m).state = .setting) ∧
        (∀ d : Dig, d.motion = m → (t.motions.get d).state = .tripped) ∧ s.SameRecords t) ∧
    ∀ (s : State) (m : Motion), s.OnMains → s.ClassesLegal → (s.brake m).state = .set →
      ∃ t, exec (.brakeLiftWithoutCommand m) s = .next t ∧ (t.brake m).state = .setting ∧
        t.isTrue ⟨9, m.number⟩ = true ∧ (∀ n, t.permit n = none) ∧ t.chans = s.chans) ∧
  ((∀ (s : State) (m : Motion), s.OnMains → s.ClassesLegal → (s.brake m).state = .setting → s.showsReleased m = true →
    ∃ t, exec (.brakeSetTimeEnd m) s = .next t ∧ (t.brake m).state = .setting ∧ t.isTrue ⟨9, m.number⟩ = true ∧
      (∀ n, t.permit n = none) ∧ s.SameRecords t) ∧
    ∀ (s : State) (m : Motion), s.OnMains → (s.brake m).state = .released → (s.brake m).stopWait.isSome = true →
      s.showsReleased m = true →
      ∃ t, exec (.stopTimeout m) s = .next t ∧ (t.brake m).state = .setting ∧ (t.brake m).stopWait = none ∧
        t.brakeOutput m = false ∧ s.SameRecords t) ∧
  ∀ (s : State) (m : Motion) (left : Nat), s.OnMains → (s.brake m).state = .set → (s.brake m).late = some left →
    ∃ t, exec (.brakeReleaseProof m) s = .next t ∧ (t.brake m).state = .setting ∧ (t.brake m).proofTimer = some left ∧
      t.brakeOutput m = false ∧ t.isTrue ⟨9, m.number⟩ = s.isTrue ⟨9, m.number⟩ ∧
      (∀ d : Dig, d.motion = m → (t.motions.get d).holdStart = none) ∧ (m = .walk → t.walk.dwellTimer = none) ∧
      t.chans = s.chans

/-! ### The walk (07) -/

/-- WALK that passes its nine checks: the dig motions are LOCKED, the step counter cleared, and the walk record takes the
order and is PREPARING; answered ACCEPTED (R106, R114, R115). A WALK is refused by the first check that fails: reason
STATE unless the walk is IDLE, reason TRIPPED with a motion TRIPPED, reason STATE with a motion neither IDLE nor
RELEASING, and then reason CONDITION for a trip effect or a stop effect for the walk in force, a drum that is not stopped,
the swing or the walk brake not SET, SWING or WALK not REFERENCED, a heading outside the tolerance, or a HOIST position
below the grounded payout (R114). -/
def Obligations.WalkOrders : Prop :=
  (∀ (s : State) (f : Frame) (o : WalkOrder), s.Takes f .cab → s.ConditionsFollow → s.ClassesLegal →
    parseWalk s f.fields = .ok o → s.walk.state = .idle → s.walk.ending = none →
    (∀ m, (s.motions.get m).state = .idle ∨ (s.motions.get m).state = .releasing) →
    (s.atRequest .cab).tripInForce = false → (s.atRequest .cab).stopInForce .walk = false →
    (∀ c, (s.chans.ch.get c).quietWindows = 3) → s.motions.swing.brake.state = .set → s.walk.brake.state = .set →
    s.showsReleased .walk = false → s.chans.ch.swing.refState = .referenced → s.chans.ch.walk.refState = .referenced →
    min ((s.swingAngle + 4096 - o.heading) % 4096) ((o.heading + 4096 - s.swingAngle) % 4096) ≤ s.k.headingTolerance →
    (s.k.groundedPayout : Int) ≤ s.chans.ch.hoist.position →
    ∃ t, exec (.walk f) s = .next t ∧ t.Answers .cab f.tag 8 .accepted .none ∧ t.walk.state = .preparing ∧
      t.walk.direction = o.direction ∧ t.walk.heading = some o.heading ∧ t.walk.stepsRequested = some o.steps ∧
      t.walk.stepsDone = 0 ∧ t.walk.haltRequested = false ∧ t.walk.siteMarked = false ∧ t.walk.lifted = false ∧
      t.walk.setDownSeen = false ∧ t.walk.liftOff = none ∧ t.walk.setDown = none ∧ t.walk.interruptCause = none ∧
      t.walk.lastOutcome = s.walk.lastOutcome ∧ (∀ m, (t.motions.get m).state = .locked) ∧
      (∀ m : Dig, t.held m.motion = 0) ∧ t.chans = { s.chans with stepCounter := 0 } ∧ t.zones = s.zones ∧ t.k = s.k) ∧
  (∀ (s : State) (f : Frame) (o : WalkOrder), s.Takes f .cab → parseWalk s f.fields = .ok o →
    (s.walk.state ≠ .idle →
      ∃ t, exec (.walk f) s = .next t ∧ t.Answers .cab f.tag 8 .refused .state ∧ s.SameButPorts t) ∧
    (s.walk.state = .idle → (∃ m, (s.motions.get m).state = .tripped) →
      ∃ t, exec (.walk f) s = .next t ∧ t.Answers .cab f.tag 8 .refused .tripped ∧ s.SameButPorts t) ∧
    (s.walk.state = .idle → (∀ m, (s.motions.get m).state ≠ .tripped) →
      (∃ m, (s.motions.get m).state ≠ .idle ∧ (s.motions.get m).state ≠ .releasing) →
      ∃ t, exec (.walk f) s = .next t ∧ t.Answers .cab f.tag 8 .refused .state ∧ s.SameButPorts t) ∧
    (s.walk.state = .idle → (∀ m, (s.motions.get m).state = .idle ∨ (s.motions.get m).state = .releasing) →
      (s.atRequest .cab).tripInForce = true ∨ (s.atRequest .cab).stopInForce .walk = true ∨
        (∃ c, (s.chans.ch.get c).quietWindows ≠ 3) ∨ s.motions.swing.brake.state ≠ .set ∨ s.walk.brake.state ≠ .set ∨
        s.chans.ch.swing.refState ≠ .referenced ∨ s.chans.ch.walk.refState ≠ .referenced ∨
        s.k.headingTolerance < min ((s.swingAngle + 4096 - o.heading) % 4096) ((o.heading + 4096 - s.swingAngle) % 4096) ∨
        s.chans.ch.hoist.position < (s.k.groundedPayout : Int) →
      ∃ t, exec (.walk f) s = .next t ∧ t.Answers .cab f.tag 8 .refused .condition ∧ s.SameButPorts t))

/-- WALK HALT is answered DONE in every state of the walk; PREPARING, and LOWER SHOES with the tub not lifted and
bearing, end HALTED, any other step and INTERRUPTED take halt requested (R127). -/
def Obligations.WalkHaltActs : Prop :=
  ∀ (s : State) (f : Frame), s.OnMains → s.Awaits f.port → s.ConditionsFollow → s.ClassesLegal → f.fields = [] →
    ∃ t, exec (.walkHalt f) s = .next t ∧ t.Answers f.port f.tag 9 .done .none ∧ s.SameButPorts t ∧
      (s.walk.ending = none → s.walk.state = .preparing ∨ (s.walk.state = .stepping ∧ s.walk.phase = some .lowerShoes ∧
          s.walk.lifted = false ∧ s.inputs.tub = true) →
        t.walk.permit = none ∧ (t.walk.ending = some .halted ∨
          (t.walk.state = .idle ∧ t.walk.lastOutcome = some .halted))) ∧
      (s.walk.ending = none → (s.walk.state = .interrupted ∨ (s.walk.state = .stepping ∧
          ¬ (s.walk.phase = some .lowerShoes ∧ s.walk.lifted = false ∧ s.inputs.tub = true))) →
        t.walk.haltRequested = true ∧ t.walk.ending = none)

/-- WALK RESUME that passes its tests makes the INTERRUPTED walk STEPPING in the phase of its stride position, with its
cause absent, answered ACCEPTED; WALK CANCEL of an INTERRUPTED walk whose tub bears, its brake SET, finishes it
CANCELLED with DONE, and is refused with reason CONDITION with the tub off the ground (R129, R130). -/
def Obligations.WalkResumesOrIsCancelled : Prop :=
  (∀ (s : State) (f : Frame), s.Takes f .cab → s.ConditionsFollow → s.ClassesLegal → f.fields = [] →
    s.walk.state = .interrupted → s.walk.ending = none → s.walk.haltRequested = false →
    (s.atRequest .cab).tripInForce = false → (s.atRequest .cab).stopInForce .walk = false →
    (∀ c, s.walk.interruptCause = some c → (s.atRequest .cab).isTrue c.key = false) →
    s.chans.ch.walk.refState = .referenced → s.walk.brake.state = .set → s.showsReleased .walk = false →
    s.held .walk = 0 →
    ∃ t, exec (.walkResume f) s = .next t ∧ t.Answers .cab f.tag 10 .accepted .none ∧ t.walk.state = .stepping ∧
      t.walk.phase = some (phaseOf s.k s.stride) ∧ t.walk.interruptCause = none ∧
      t.walk.stepsDone = s.walk.stepsDone ∧ s.SameButPorts t) ∧
    (∀ (s : State) (f : Frame), s.OnMains → s.Awaits f.port → f.fields = [] → s.walk.state = .interrupted →
      s.walk.ending = none → s.inputs.tub = true → s.walk.brake.state = .set →
      ∃ t, exec (.walkCancel f) s = .next t ∧ t.Answers f.port f.tag 11 .done .none ∧ t.walk.state = .idle ∧
        t.walk.lastOutcome = some .cancelled ∧ t.proven .walk = 0 ∧
        (∀ m, (s.motions.get m).state = .locked → (t.motions.get m).state ≠ .locked) ∧ s.SameButPorts t) ∧
    ∀ (s : State) (f : Frame), s.Runs → s.Awaits f.port → f.fields = [] → s.walk.state = .interrupted →
      s.walk.ending = none → s.inputs.tub = false →
      ∃ t, exec (.walkCancel f) s = .next t ∧ t.Answers f.port f.tag 11 .refused .condition ∧ s.SameButPorts t

/-- PREPARE_TIMEOUT ends a walk that is still PREPARING as PREPARE FAILED, IDLE at once with its brake SET;
PHASE_TIMEOUT interrupts a walk in a timed phase, with every dig motion TRIPPED; DWELL_END finishes the walk COMPLETED
after its last step, else HALTED with a halt requested, else begins the next step in LOWER SHOES (R117, R120, R125,
R126, R128). The end of a time arrives as a command (log entry 4, the model's choice). -/
def Obligations.WalkTimersEnd : Prop :=
  (∀ s : State, s.OnMains → s.walk.state = .preparing → s.walk.ending = none → s.walk.brake.state = .set →
    s.showsReleased .walk = false →
    ∃ t, exec .prepareTimeout s = .next t ∧ t.walk.state = .idle ∧ t.walk.lastOutcome = some .prepareFailed ∧
      t.walk.permit = none ∧ t.proven .walk = 0 ∧ s.SameRecords t) ∧
    (∀ (s : State) (p : Phase) (left : Nat), s.OnMains → s.ClassesLegal → s.walk.state = .stepping →
      s.walk.ending = none → s.walk.phase = some p → p ≠ .dwell → s.walk.phaseTimer = some left →
      ∃ t, exec .phaseTimeout s = .next t ∧ t.walk.state = .interrupted ∧ t.walk.phase = some p ∧
        t.walk.permit = none ∧ t.walk.interruptCause = some ⟨⟨18, p.number⟩, .trip⟩ ∧
        (∀ m, (t.motions.get m).state = .tripped) ∧ s.SameRecords t) ∧
    ∀ (s : State) (left : Nat), s.OnMains → s.ConditionsFollow → s.ClassesLegal → s.walk.state = .stepping →
      s.walk.ending = none → s.walk.phase = some .dwell → s.walk.dwellTimer = some left → s.walk.brake.state = .set →
      s.showsReleased .walk = false →
      ∃ t, exec .dwellEnd s = .next t ∧ s.SameRecords t ∧ t.walk.stepsDone = s.walk.stepsDone ∧
        (s.walk.stepsRequested = some s.walk.stepsDone →
          t.walk.state = .idle ∧ t.walk.lastOutcome = some .completed ∧ t.proven .walk = 0) ∧
        (s.walk.stepsRequested ≠ some s.walk.stepsDone → s.walk.haltRequested = true →
          t.walk.state = .idle ∧ t.walk.lastOutcome = some .halted ∧ t.proven .walk = 0) ∧
        (s.walk.stepsRequested ≠ some s.walk.stepsDone → s.walk.haltRequested = false →
          t.walk.state = .stepping ∧ t.walk.phase = some .lowerShoes ∧ t.walk.lifted = false ∧
            t.walk.setDownSeen = false)

/-! ### Alarms (08) -/

/-- ACKNOWLEDGE of a record: ACTIVE UNACK becomes ACTIVE ACK with the port, ACTIVE ACK stays, CLEARED UNACK retires and
its slot is EMPTY when no true condition is unrecorded; a key without a record is answered NO RECORD (R143). SET
ANNOUNCE writes the setting of the port it arrives on, in RUN and in HOLDUP, and leaves the other port's; answered
DONE (R148, R157, R167). -/
def Obligations.AlarmRequests : Prop :=
  (∀ (s : State) (f : Frame) (key : AlarmKey) (i : Nat), s.Runs → s.Awaits f.port → parseAlarmKey s f.fields = .ok key →
    ((s.atRequest f.port).alarms.slotOf key = some i →
      ∃ u, exec (.acknowledge f) s = .next (State.settle s u) ∧ u.Answers f.port f.tag 17 .done .none ∧
        (s.atRequest f.port).SameButPorts u ∧
        ∀ r, (s.atRequest f.port).alarms.slots.cells[i]? = some (some r) →
          (s.atRequest f.port).alarms.anyUnrecorded = false → key ≠ ⟨21, 0⟩ →
          (r.state = .activeUnack → u.alarms.slots.cells[i]? = some (some { r with
            state := .activeAck, ackBy := some f.port })) ∧
          (r.state = .activeAck → u.alarms.slots.cells[i]? = some (some r)) ∧
          (r.state = .clearedUnack → u.alarms.slots.cells[i]? = some none)) ∧
    ((s.atRequest f.port).alarms.record key = none →
      ∃ t, exec (.acknowledge f) s = .next t ∧ t.Answers f.port f.tag 17 .noRecord .none ∧ s.SameButPorts t)) ∧
  (∀ (s : State) (f : Frame) (a : Announce), s.Runs → s.Awaits f.port → parseAnnounce s f.fields = .ok a →
    ∃ t, exec (.setAnnounce f) s = .next t ∧ t.Answers f.port f.tag 20 .done .none ∧
      t.alarms.announce = s.alarms.announce.set f.port a ∧ s.SameButPorts t)

/-- SHELVE of a record of class WARN or NOTICE sets its minutes, and of class TRIP or STOP is refused with reason STATE;
UNSHELVE ends a shelf, and is refused with reason STATE without one; SHELF_MINUTE counts a shelf down and ends it at the
count that would reach 0 (R144). -/
def Obligations.ShelvesAreKept : Prop :=
  (∀ (s : State) (f : Frame) (key : AlarmKey) (n i : Nat) (r : AlarmRec), s.Takes f .service →
    parseShelve s f.fields = .ok (key, n) → s.alarms.slotOf key = some i → s.alarms.record key = some r →
    (r.cls = .warn ∨ r.cls = .notice →
      ∃ u, exec (.shelve f) s = .next (State.settle s u) ∧ u.Answers .service f.tag 18 .done .none ∧
        s.SameButPorts u ∧ u.alarms = { s.alarms with
          slots := s.alarms.slots.setAt i (some { r with shelf := some ⟨n, 60000⟩ }) }) ∧
    (r.cls = .trip ∨ r.cls = .stop →
      ∃ t, exec (.shelve f) s = .next t ∧ t.Answers .service f.tag 18 .refused .state ∧ s.SameButPorts t)) ∧
    (∀ (s : State) (f : Frame) (key : AlarmKey) (i : Nat) (r : AlarmRec), s.Takes f .service →
      parseAlarmKey s f.fields = .ok key → s.alarms.slotOf key = some i → s.alarms.record key = some r →
      (r.shelf.isSome = true →
        ∃ u, exec (.unshelve f) s = .next (State.settle s u) ∧ u.Answers .service f.tag 19 .done .none ∧
          s.SameButPorts u ∧
          u.alarms = { s.alarms with slots := s.alarms.slots.setAt i (some { r with shelf := none }) }) ∧
      (r.shelf = none →
        ∃ t, exec (.unshelve f) s = .next t ∧ t.Answers .service f.tag 19 .refused .state ∧ s.SameButPorts t)) ∧
    ∀ (s : State) (key : AlarmKey) (i : Nat) (r : AlarmRec) (h : Shelf), s.Runs → s.alarms.slotOf key = some i →
      s.alarms.record key = some r → r.shelf = some h →
      exec (.shelfMinute key) s = .next (State.settle s { s with alarms := { s.alarms with
        slots := s.alarms.slots.setAt i (some { r with
          shelf := if h.minutes ≤ 1 then none else some ⟨h.minutes - 1, 60000⟩ }) } })

/-- A raise of a held record: ACTIVE UNACK only counts, ACTIVE ACK becomes ACTIVE UNACK with the acknowledgement
dropped, and CLEARED UNACK is active again with its run one more, to no more than 15, within the escalation window of
its last clear and 1 after it; at each new multiple of the code's threshold the class rises one step, to no higher than
STOP, and a record that rises to STOP is unshelved; a re-raise whose run is no new multiple, or stays at 15, leaves the
class and the shelf, as does every re-raise of a code without a threshold (R141, R142). -/
def Obligations.RepeatedRaisesEscalate : Prop :=
  ∀ (r : AlarmRec) (now window : Nat),
    (r.raised now window).state = .activeUnack ∧ (r.raised now window).lastRaised = now ∧
    (r.raised now window).raiseCount = min (r.raiseCount + 1) 255 ∧ (r.raised now window).key = r.key ∧
    (r.state ≠ .clearedUnack → (r.raised now window).cls = r.cls ∧ (r.raised now window).repeatRun = r.repeatRun ∧
      (r.raised now window).shelf = r.shelf) ∧
    (r.state = .activeAck → (r.raised now window).ackBy = none) ∧
    (∀ c, r.state = .clearedUnack → r.lastCleared = some c →
      ((r.raised now window).repeatRun = if now - c ≤ window then min (r.repeatRun + 1) 15 else 1) ∧
      (∀ t, threshold r.key.code = some t → (r.raised now window).repeatRun % t = 0 →
        (r.raised now window).repeatRun ≠ r.repeatRun →
        (r.cls = .notice → (r.raised now window).cls = .warn ∧ (r.raised now window).shelf = r.shelf) ∧
        (r.cls = .warn → (r.raised now window).cls = .stop ∧ (r.raised now window).shelf = none) ∧
        (r.cls = .stop → (r.raised now window).cls = .stop)) ∧
      (∀ t, threshold r.key.code = some t →
        (r.raised now window).repeatRun % t ≠ 0 ∨ (r.raised now window).repeatRun = r.repeatRun →
        (r.raised now window).cls = r.cls ∧ (r.raised now window).shelf = r.shelf) ∧
      (threshold r.key.code = none → (r.raised now window).cls = r.cls ∧ (r.raised now window).shelf = r.shelf))

/-! ### Supply and holdup (09) -/

/-- MAINS_LOSS in RUN: in one change the supply state is HOLDUP with the entry time and the marker SET and its write begun,
every coil, field enable, brake output and permit line is off, every dig motion is TRIPPED (with cause SUPPLY LOST if it was
not TRIPPED before) with its permit NONE, no motion holds a generator, the waiting list is empty, the guard is CLOSED, the
cab link timer STOPPED and SUPPLY LOST true; the generator records, the channels and the zone table keep their values
(R153–R157). -/
def Obligations.MainsLossEntersHoldup : Prop :=
  ∀ s : State, s.OnMains →
    ∃ t, exec .mainsLoss s = .next t ∧
      t.supply = { state := .holdup, lastEntry := some s.now, lastReturn := s.supply.lastReturn, marker := true } ∧
      t.store = { s.store with markerWrite := some true } ∧
      (∀ g l, t.coilOutput g l = false ∧ t.fieldEnable g = false) ∧
      (∀ m, t.brakeOutput m = false ∧ t.permit m = none ∧ ∀ d, t.permitLine m d = false) ∧
      (∀ m, (t.motions.get m).state = .tripped ∧
        ((t.motions.get m).brake.state = .set ∨ (t.motions.get m).brake.state = .setting) ∧
        ((s.motions.get m).state ≠ .tripped → (t.motions.get m).tripCause = some ⟨⟨3, 0⟩, .warn⟩) ∧
        ((s.motions.get m).state = .tripped → (t.motions.get m).tripCause = (s.motions.get m).tripCause)) ∧
      (∀ m, t.held m = 0 ∧ t.proven m = 0) ∧ t.arb.list = [] ∧ t.guardLeft = none ∧ t.cabTimer = .stopped ∧
      t.isTrue ⟨3, 0⟩ = true ∧ t.gens = s.gens ∧ t.chans = s.chans ∧ t.zones = s.zones ∧ t.ports = s.ports ∧
      t.k = s.k ∧ t.clock = s.clock ∧ t.inputs = { s.inputs with mains := false }

/-- MAINS_RETURN in HOLDUP: the supply state is RUN with the return time and the marker CLEAR and its write begun,
SUPPLY LOST is false, the guard is CLOSED, the cab link timer STOPPED, both ports announce no longer and keep their
masks, and a dig motion that was TRIPPED stays TRIPPED, its cause and the walk's interrupt cause kept. Of the generators
that are not LOCKED OUT, one in the withdrawn set is LOCKED OUT (WITHDRAWN), one with no closure proof FREE or LOCKED OUT
with its pending cause, one with one proof opens on that loop with holder none and its lock-out pending and its CONTACTOR
NO PROOF kept, one with more is LOCKED OUT (WELDED); a LOCKED OUT one is left as it is. Every cache entry is invalid; on
the cell path, with the permissions as R50 leaves them in holdup, the current key is formed and in flight under the epoch
that stood before any marking of the return, and the permissions stay NONE and HELD (R50, R158; that the head is taken
before the marking is the model's choice, log entry 52). A brake SETTING begins a full proof time, or is SET with BRAKE NOT
SET false where its proof shows set, and a brake SET whose proof shows released is SETTING with BRAKE NOT SET true (R69,
R92, R103, R111, R134, R152, R154, R158). HOLDUP_EXHAUSTED in HOLDUP stops the part:
no output, no attention line, no port answers; the store keeps its image unless a
COMMIT was cut off (R160). The records of a stopped part show nothing (log entry 30, the model's choice). -/
def Obligations.HoldupEnds : Prop :=
  (∀ s : State, s.OnBackup →
    ∃ t u, exec .mainsReturn s = .next t ∧ t = State.settle s u ∧
      (∀ g : Fin 12, (s.gens.get g).st ≠ .noRecord → (s.gens.get g).isLockedOut = false →
        (s.k.withdrawn.getLsbD g.val = true →
          u.gens.get g = ⟨.lockedOut .withdrawn (Motion.all.find? (s.proofs g).get), 0⟩) ∧
        (s.k.withdrawn.getLsbD g.val = false → (∀ l, (s.proofs g).get l = false) →
          u.gens.get g = ⟨match (s.gens.get g).lockPending with
            | none => .free
            | some c => .lockedOut (causeOf c) none, 0⟩) ∧
        (∀ l, s.k.withdrawn.getLsbD g.val = false → (s.proofs g).get l = true →
          (∀ l', l' ≠ l → (s.proofs g).get l' = false) →
          u.gens.get g = ⟨.moving
            { holder := none, step := .opening, on := l, loop := some l, target := none, afterFail := .no,
              lockPending := (s.gens.get g).lockPending, keepTrying := (s.gens.get g).keepsTrying, seq := 0,
              timer := some s.k.contactorProofTime }, 0⟩) ∧
        (∀ l l', s.k.withdrawn.getLsbD g.val = false → l ≠ l' → (s.proofs g).get l = true → (s.proofs g).get l' = true →
          u.gens.get g = ⟨.lockedOut .welded (Motion.all.find? (s.proofs g).get), 0⟩)) ∧
      (∀ g : Fin 12, (s.gens.get g).isLockedOut = true → u.gens.get g = s.gens.get g) ∧
      (∀ e ∈ u.res.cache.cells, e.valid = false ∧ e.age = none) ∧
      (s.onCellPath = true → s.res.force = InForce.noneHeld → s.res.queue = [] → s.res.inFlight = none →
        u.res.currentKey = some s.presentKey ∧ u.res.inFlight = some ⟨s.presentKey, s.zones.epoch⟩ ∧
        u.res.force = InForce.noneHeld) ∧
      (∀ m, ((s.brake m).state = .setting → s.showsReleased m = true →
          (u.brake m).state = .setting ∧ (u.brake m).proofTimer = some s.k.brakeProofTime) ∧
        ((s.brake m).state = .setting → s.showsReleased m = false →
          (u.brake m).state = .set ∧ u.isTrue ⟨9, m.number⟩ = false) ∧
        ((s.brake m).state = .set → s.showsReleased m = false → (u.brake m).state = .set) ∧
        ((s.brake m).state = .set → s.showsReleased m = true →
          (u.brake m).state = .setting ∧ u.isTrue ⟨9, m.number⟩ = true)) ∧
      (∀ m, (u.motions.get m).tripCause = (s.motions.get m).tripCause) ∧ u.walk.interruptCause = s.walk.interruptCause ∧
      t.supply = { state := .run, lastEntry := s.supply.lastEntry, lastReturn := some s.now, marker := false } ∧
      t.store = { s.store with markerWrite := some false } ∧ t.isTrue ⟨3, 0⟩ = false ∧ t.guardLeft = none ∧
      t.cabTimer = .stopped ∧
      (∀ p, (t.alarms.announce.get p).announcing = false ∧
        (t.alarms.announce.get p).mask = (s.alarms.announce.get p).mask) ∧
      (∀ m, (s.motions.get m).state = .tripped → (t.motions.get m).state = .tripped) ∧ t.chans = s.chans ∧
      t.ports = s.ports ∧ t.k = s.k ∧ t.clock = s.clock ∧ t.inputs = { s.inputs with mains := true }) ∧
  (∀ s : State, s.OnBackup →
    ∃ t, exec .holdupExhausted s = .next t ∧ t.power = .stopped ∧ t.pending = s.pending ∧ t.inputs = s.inputs ∧
      (∀ g l, t.coilOutput g l = false ∧ t.fieldEnable g = false) ∧ (∀ m d, t.brakeOutput m = false ∧ t.permitLine m d = false) ∧
      (∀ p, t.attentionLine p = false ∧ (t.ports.get p).answer = none) ∧
      (s.commit = none → t.store.image = s.store.image) ∧ (s.commit.isSome = true → t.store.image = none) ∧
      (s.store.markerWrite = none → t.store.marker = s.store.marker))

/-! ### Settings store and start-up (11) -/

/-- WRITE CONSTANT that passes its tests writes the one constant with the value sent and changes no constant of another
key; it takes effect in the live constants and not in the store (R177). WRITE CONSTANT outside its state is refused with
reason STATE, and one that would leave constants that do not agree is answered BAD FIELD; either changes no constant
(R176, R177). The state is tested before the agreement of the constants, and a field by the ends of its own range (log
entries 23 and 25, the model's choices). -/
def Obligations.WriteConstantActs : Prop :=
  (∀ (s : State) (f : Frame) (key : ConstKey) (v : Int), s.TakesEdit f → s.guardLeft.isSome = true →
    parseWriteConstant s f.fields = .ok (key, v) → (∀ m, (s.motions.get m).state = .idle) → s.walk.state = .idle →
    constantsAgree (setConst s.k key v) = true →
    ∃ t, exec (.writeConstant f) s = .next t ∧ t.Answers .service f.tag 24 .done .none ∧ t.k = setConst s.k key v ∧
      constValue t.k key = v ∧
      (∀ other ∈ constantKeys, other ≠ key → constValue t.k other = constValue s.k other) ∧
      t.store = s.store ∧ t.zones.slots = s.zones.slots ∧
      t.zones.epoch = (if key.no = 22 ∨ key.no = 23 ∨ key.no = 24 then s.zones.epoch + 1 else s.zones.epoch) ∧
      (∀ c, key.channel = some c → key.no ≤ 7 → (t.chans.ch.get c).refState = .unreferenced) ∧ t.fitted = s.fitted) ∧
  (∀ (s : State) (f : Frame) (key : ConstKey) (v : Int), s.TakesEdit f → s.guardLeft.isSome = true →
    parseWriteConstant s f.fields = .ok (key, v) →
    (¬ ((∀ m, (s.motions.get m).state = .idle) ∧ s.walk.state = .idle) →
      ∃ t, exec (.writeConstant f) s = .next t ∧ t.Answers .service f.tag 24 .refused .state ∧ s.SameButPorts t) ∧
    ((∀ m, (s.motions.get m).state = .idle) → s.walk.state = .idle → constantsAgree (setConst s.k key v) = false →
      ∃ t, exec (.writeConstant f) s = .next t ∧ t.Answers .service f.tag 24 .badField .none ∧ s.SameButPorts t))

/-- COMMIT copies the live constants and the zone map into an image and begins its write, answered ACCEPTED;
COMMIT_WRITE_END leaves the store with what the write left, ends the COMMIT and makes SETTINGS STORE FAULT true
exactly when that is not the image formed; MARKER_WRITE_DONE leaves the marker written (R154, R178). What the write
leaves is the operand of COMMIT_WRITE_END (log entry 32, the model's choice). -/
def Obligations.StoreWrites : Prop :=
  (∀ (s : State) (f : Frame), s.TakesEdit f → s.BodiesSound → s.guardLeft.isSome = true → f.fields = [] →
    ∃ t c, exec (.commit f) s = .next t ∧ t.Answers .service f.tag 25 .accepted .none ∧ t.commit = some c ∧
      c.image.constants = s.k ∧ t.store = s.store ∧ t.zones = s.zones ∧ t.chans = s.chans ∧ t.k = s.k ∧
      ∀ i : Fin 40, ((s.zones.slots.get i).state = .empty → c.image.zones.get i = .empty) ∧
        ∀ w, (s.zones.slots.get i).window = some w →
          ((s.zones.slots.get i).state = .defective →
            c.image.zones.get i = .defective (s.zones.slots.get i).revision w) ∧
          ((s.zones.slots.get i).state = .inForce ∨ (s.zones.slots.get i).state = .stale →
            c.image.zones.get i = .zone (s.zones.slots.get i).revision w (s.zones.slots.get i).body)) ∧
    (∀ (s : State) (c : CommitRun) (left : Option Image), s.Runs → s.commit = some c →
      ∃ t, exec (.commitWriteEnd left) s = .next t ∧ t.commit = none ∧ t.store = { s.store with image := left } ∧
        (t.isTrue ⟨20, 0⟩ = true ↔ left ≠ some c.image) ∧ t.chans = s.chans ∧ t.zones = s.zones ∧ t.k = s.k ∧
        t.ports = s.ports) ∧
    ∀ (s : State) (v : Bool), s.Runs → s.store.markerWrite = some v →
      ∃ t, exec .markerWriteDone s = .next t ∧
        t.store = { s.store with marker := if v then .set else .clear, markerWrite := none } ∧ t.supply = s.supply ∧
        t.chans = s.chans ∧ t.zones = s.zones ∧ t.k = s.k

/-- POWER_ON of a part that is not in HOLDUP, and RESET_LINE of a part that runs or loads, begin a cold start: the load,
with every output off and no answer in progress; the store stays but for what a cut-off write left (R180). The records
of a part that loads show nothing (log entries 28 to 30, the model's choices). -/
def Obligations.ColdStartBegins : Prop :=
  (∀ s : State, ¬ s.OnBackup →
    ∃ t, exec .powerOn s = .next t ∧ t.power = .loading ∧ t.pending = s.pending ∧
      t.inputs = { s.inputs with mains := true } ∧ (s.commit = none → t.store.image = s.store.image) ∧
      (s.store.markerWrite = none → t.store.marker = s.store.marker) ∧
      (∀ g l, t.coilOutput g l = false ∧ t.fieldEnable g = false) ∧ (∀ m d, t.brakeOutput m = false ∧ t.permitLine m d = false) ∧
      ∀ p, (t.ports.get p).answer = none ∧ t.attentionLine p = false) ∧
    ∀ s : State, s.power ≠ .stopped →
      ∃ t, exec .resetLine s = .next t ∧ t.power = .loading ∧ t.pending = s.pending ∧ t.inputs = s.inputs ∧
        (s.commit = none → t.store.image = s.store.image) ∧
        (s.store.markerWrite = none → t.store.marker = s.store.marker) ∧
        (∀ g l, t.coilOutput g l = false ∧ t.fieldEnable g = false) ∧ (∀ m d, t.brakeOutput m = false ∧ t.permitLine m d = false) ∧
        ∀ p, (t.ports.get p).answer = none ∧ t.attentionLine p = false

/-- SETTINGS_LOAD_END with supply shown: the part runs on mains; an image that passes its tests gives the constants, and
an image that fails, or none, gives the defaults and an EMPTY zone table with SETTINGS STORE FAULT true; a stored SITE
zone loads STALE and a MACHINE zone IN FORCE, the epoch is 1, the channels are UNREFERENCED at position 0, the walk IDLE
and, with no emergency stop, the motions IDLE, and HOLDUP EXHAUSTED is raised when the marker reads other than CLEAR
(R18, R29, R31, R154, R176, R180, R181). What the store may hold is an image, or none (log entry 5, the model's choice). -/
def Obligations.LoadEndStartsPart : Prop :=
  ∀ s : State, s.power = .loading → s.inputs.mains = true →
    ∃ t, exec .settingsLoadEnd s = .next t ∧ t.OnMains ∧ t.clock = s.clock ∧ t.pending = s.pending ∧
      t.zones.epoch = 1 ∧ t.zones.scrub = 0 ∧ t.fitted = t.k.fittedCount ∧ t.inputs = s.inputs ∧
      (∀ i, s.store.image = some i → constantsPass i.constants = true →
        t.k = i.constants ∧ t.isTrue ⟨20, 0⟩ = false ∧
        ∀ j : Fin 40, (i.zones.get j = .empty → t.zones.slots.get j = ZoneSlot.empty) ∧
          (∀ rev w body, i.zones.get j = .zone rev w body → t.zones.slots.get j =
            ⟨if body.kind = .site then .stale else .inForce, rev, some w, body, .sound⟩) ∧
          (∀ rev w, i.zones.get j = .defective rev w → t.zones.slots.get j =
            ⟨.defective, rev, some w, ZoneBody.cleared, .sound⟩)) ∧
      ((∀ i, s.store.image = some i → constantsPass i.constants = false) →
        t.k = Constants.defaults ∧ t.isTrue ⟨20, 0⟩ = true ∧ ∀ j : Fin 40, t.zones.slots.get j = ZoneSlot.empty) ∧
      (∀ c, (t.chans.ch.get c).position = 0 ∧ (t.chans.ch.get c).refState = .unreferenced ∧
        t.isTrue ⟨7, c.number⟩ = true) ∧
      (∀ g : Fin 12, t.k.fittedCount ≤ g.val → (t.gens.get g).st = .noRecord) ∧ t.walk.state = .idle ∧
      (s.inputs.estop = false → ∀ m, (t.motions.get m).state = .idle ∧ (t.motions.get m).permit = none) ∧
      (t.alarms.record ⟨4, 0⟩ ≠ none ↔ s.store.marker ≠ .clear)

/-- OPEN GUARD opens the guard for 30 s with DONE, GUARD_WINDOW_END closes it; RESTART under an open guard is answered
DONE, and ANSWER_SENT of a guarded request's answer closes the guard, of RESTART's begins the cold start, and of any
other answer only ends it (R163, R171, R179). The end of the window arrives as a command (log entry 4, the model's
choice). -/
def Obligations.GuardAndRestart : Prop :=
  (∀ (s : State) (f : Frame), s.Takes f .service → f.fields = [] →
    ∃ t, exec (.openGuard f) s = .next t ∧ t.Answers .service f.tag 23 .done .none ∧ t.guardLeft = some 30000 ∧
      s.SameButPorts t) ∧
    (∀ s : State, s.Runs → exec .guardWindowEnd s = .next (State.settle s { s with guardLeft := none })) ∧
    (∀ (s : State) (f : Frame), s.TakesEdit f → s.guardLeft.isSome = true → f.fields = [] →
      ∃ t a, exec (.restart f) s = .next t ∧ t.Answers .service f.tag 26 .done .none ∧ t.guardLeft = s.guardLeft ∧
        (t.ports.get .service).answer = some a ∧ a.after = .closeGuardAndRestart ∧ s.SameButPorts t) ∧
    ∀ (s : State) (p : Port) (a : Answer), s.Runs → (s.ports.get p).answer = some a →
      ∃ t, exec (.answerSent p) s = .next t ∧ (t.ports.get p).answer = none ∧
        (a.after = .nothing → t.guardLeft = s.guardLeft ∧ s.SameButPorts t) ∧
        (a.after = .closeGuard → t.guardLeft = none ∧ s.SameButPorts t) ∧
        (a.after = .closeGuardAndRestart → t.power = .loading ∧ t.inputs = s.inputs ∧ t.guardLeft = none)

/-! ### Request ports (10) -/

/-- The tests before a request's own, in their order: a frame that a part that runs takes is answered WRONG PORT, then with
the answer of its field test, then REFUSED, reason HOLDUP, then BUSY, then GUARDED, and none of these changes a record of
the channels, the zones, the settings or the store (R164–R167, R171). What the field test of a request is, is the model's
reading of R166 and R175, with its choices for CONFIRM ZONES all with a revision, the ends of a constant's range, the
starting keys of NEXT, the unit of a constant and a key beside a bad value (log entries 24, 25, 26, 47 and 48). -/
def Obligations.RequestsAreTestedInOrder : Prop :=
  ∀ (s : State) (c : Instr) (f : Frame) (q : Spec), s.Runs → c.frame? = some f → requestSpec? c = some q → s.Awaits f.port →
    (q.allows f.port = false →
      ∃ t, exec c s = .next t ∧ t.Answers f.port f.tag q.code .wrongPort .none ∧ s.SameButPorts t) ∧
    (∀ st, q.allows f.port = true → requestFieldFails s c = some st →
      ∃ t, exec c s = .next t ∧ t.Answers f.port f.tag q.code st .none ∧ s.SameButPorts t) ∧
    (q.allows f.port = true → requestFieldFails s c = none → s.supply.state = .holdup → q.inHoldup = false →
      ∃ t, exec c s = .next t ∧ t.Answers f.port f.tag q.code .refused .holdup ∧ s.SameButPorts t) ∧
    (q.allows f.port = true → requestFieldFails s c = none → s.supply.state = .run → s.commit.isSome = true → q.store = true →
      ∃ t, exec c s = .next t ∧ t.Answers f.port f.tag q.code .busy .none ∧ s.SameButPorts t) ∧
    (q.allows f.port = true → requestFieldFails s c = none → s.supply.state = .run →
      (s.commit = none ∨ q.store = false) → q.guarded = true → s.guardLeft = none →
      ∃ t, exec c s = .next t ∧ t.Answers f.port f.tag q.code .guarded .none ∧ s.SameButPorts t)

/-- READ answers DONE with the bytes of the record the key names, as the check of a zone body leaves it, or NO RECORD, which
only an alarm key gets; NEXT answers with the record that follows the starting key, or NO RECORD; STATUS answers DONE with
the part's summary, which begins with the text SD410 (R168–R170). None of the three changes a record but by that check and
the answer. NEXT steps through zones that are not EMPTY by index, generators to the fitted count, motions, permissions,
channels and cache entries by number, and alarm records in listing order (R150, R169). The bodies of a motion record, a
generator record, a zone record, a supply record and the STATUS body are written out byte for byte (R175; the rounding of the
guard's seconds is log entry 27, the model's choice). -/
def Obligations.ReadingAnswersWithRecords : Prop :=
  (∀ (s : State) (f : Frame) (key : RecordKey), s.Runs → s.Awaits f.port → parseRead s f.fields = .ok key →
    ((∀ a, key ≠ .alarm a) → (((s.atRequest f.port).checkedFor key).recordOf key).isSome = true) ∧
    (∀ body, ((s.atRequest f.port).checkedFor key).recordOf key = some body →
      ∃ u, exec (.read f) s = .next (State.settle s u) ∧ u.AnswersBody f.port f.tag 1 .done body ∧
        { u with ports := s.ports } = { (s.atRequest f.port).checkedFor key with ports := s.ports }) ∧
    (((s.atRequest f.port).checkedFor key).recordOf key = none →
      ∃ u, exec (.read f) s = .next (State.settle s u) ∧ u.AnswersBody f.port f.tag 1 .noRecord [] ∧
        { u with ports := s.ports } = { (s.atRequest f.port).checkedFor key with ports := s.ports })) ∧
  (∀ (s : State) (key : RecordKey), (∀ i, key ≠ .zone i) → s.checkedFor key = s) ∧
  (∀ (s : State) (f : Frame) (start : NextKey), s.Runs → s.Awaits f.port → parseNext s f.fields = .ok start →
    (∀ key body, (s.atRequest f.port).nextOf start = some key →
      ((s.atRequest f.port).checkedFor key).recordOf key = some body →
      ∃ u, exec (.next f) s = .next (State.settle s u) ∧ u.AnswersBody f.port f.tag 2 .done body ∧
        { u with ports := s.ports } = { (s.atRequest f.port).checkedFor key with ports := s.ports }) ∧
    ((s.atRequest f.port).nextOf start = none →
      ∃ u, exec (.next f) s = .next (State.settle s u) ∧ u.AnswersBody f.port f.tag 2 .noRecord [] ∧
        { u with ports := s.ports } = { s.atRequest f.port with ports := s.ports })) ∧
  (∀ (s : State) (start : NextKey) (key : RecordKey), s.nextOf start = some key → (s.recordOf key).isSome = true) ∧
  (∀ s : State, s.NextFollowsOrder) ∧
  (∀ (s : State) (m : Dig), ∃ b, s.recordOf (.motion m) = some (3 :: b) ∧ s.MotionBody m b) ∧
  (∀ (s : State) (g : Fin 12), ∃ b, s.recordOf (.generator g) = some (2 :: b) ∧ s.GeneratorBody g b) ∧
  (∀ (s : State) (i : Fin 40), ∃ b, s.recordOf (.zone i) = some (1 :: b) ∧ s.ZoneBodyBytes i b) ∧
  (∀ s : State, ∃ b, s.recordOf .supply = some (13 :: b) ∧ s.SupplyBody b) ∧
  ∀ (s : State) (f : Frame), s.Runs → s.Awaits f.port → f.fields = [] →
    ∃ t body, exec (.status f) s = .next t ∧ t.AnswersBody f.port f.tag 3 .done body ∧
      (s.atRequest f.port).StatusBody body ∧ s.SameButPorts t

/-- A valid Cab frame taken in RUN, whatever its request and its answer, restarts the cab link timer with a full
period and makes CAB LINK LOST false; CAB_LINK_PERIOD_END of a running timer makes it EXPIRED and CAB LINK LOST true,
with every dig motion TRIPPED (R102, R173, R174). The end of the period arrives as a command (log entry 4, the model's
choice). -/
def Obligations.CabLinkIsWatched : Prop :=
  (∀ (s : State) (c : Instr) (f : Frame), s.OnMains → c.frame? = some f → f.port = .cab → s.Awaits .cab →
    ∃ t, exec c s = .next t ∧ t.cabTimer = .running s.k.cabLinkPeriod ∧ t.isTrue ⟨2, 0⟩ = false ∧
      (t.ports.get .cab).answer.isSome = true) ∧
    ∀ (s : State) (left : Nat), s.OnMains → s.ClassesLegal → s.cabTimer = .running left → s.isTrue ⟨2, 0⟩ = false →
      (∀ m : Dig, s.stopInForce m.motion = false) →
      ∃ t, exec .cabLinkPeriodEnd s = .next t ∧ t.cabTimer = .expired ∧ t.isTrue ⟨2, 0⟩ = true ∧
        (∀ m, (t.motions.get m).state = .tripped ∧ (t.motions.get m).permit = none) ∧ t.chans = s.chans ∧
        t.zones = s.zones ∧ t.ports = s.ports

/-- The lines' own events: UNKNOWN and CHECK are answered with the tag and the code received and nothing else; a frame
that completes while the port's answer is in progress is discarded; a length out of range, a line break and a gap end
the frame without an answer, and after a gap the receiver receives if the byte that ended it was the sync byte
(R161–R164). The check of R162 over the nine bytes of the text 123456789 is 0x29B1, and the frame of an answer carries
the sync byte, its length, the tag, the code, the status and reason bytes and its body before its check (R162, R175).
The lines are modelled frame by frame (log entry 8, the model's choice). -/
def Obligations.LinesCarryFrames : Prop :=
  ((∀ (s : State) (f : Frame) (code : Byte), s.Runs → s.Awaits f.port →
    ∃ t, exec (.unknown f code) s = .next t ∧ t.Answers f.port f.tag code .unknown .none ∧ s.SameButPorts t) ∧
    (∀ (s : State) (p : Port) (tag code : Byte), s.Runs → s.Awaits p →
      ∃ t, exec (.check p tag code) s = .next t ∧ t.Answers p tag code .check .none ∧ s.SameButPorts t ∧
        t.cabTimer = s.cabTimer) ∧
    (∀ (s : State) (c : Instr) (f : Frame), s.Runs → c.frame? = some f → (s.ports.get f.port).answer.isSome = true →
      exec c s = .next { s with ports := s.ports.set f.port { s.ports.get f.port with receiver := .hunting } }) ∧
    (∀ (s : State) (p : Port) (length : Byte), s.Runs →
      exec (.lengthOutOfRange p length) s = .next (State.settle s { s with
        ports := s.ports.set p { s.ports.get p with receiver := .hunting } })) ∧
    (∀ (s : State) (p : Port), s.Runs →
      exec (.lineBreakOrFramingError p) s = .next (State.settle s { s with
        ports := s.ports.set p { s.ports.get p with receiver := .hunting } })) ∧
    (∀ (s : State) (p : Port), s.Runs →
      exec (.frameDiscarded p) s = .next (State.settle s { s with
        ports := s.ports.set p { s.ports.get p with receiver := .hunting } })) ∧
    ∀ (s : State) (p : Port) (byte : Byte), s.Runs →
      exec (.frameGap p byte) s = .next (State.settle s { s with
        ports := s.ports.set p { s.ports.get p with receiver := if byte = 0xB6 then .receiving else .hunting } })) ∧
  (crc [0x31, 0x32, 0x33, 0x34, 0x35, 0x36, 0x37, 0x38, 0x39] = 0x29B1 ∧
    ∀ a : Answer, a.frame =
      [0xB6, u8 (a.body.length + 4), a.tag, a.code, statusByte a.status, reasonByte a.reason] ++ a.body ++
        [u8 ((crc a.covered).toNat / 256), u8 (crc a.covered).toNat] ∧
      a.covered = [u8 (a.body.length + 4), a.tag, a.code, statusByte a.status, reasonByte a.reason] ++ a.body)
end

