-- ==== Sys2Proof/Laws/State.lean ====
section
/-! SUPPORT. One lemma per field of each update of State, and the reads of the small tables after a write, so that no proof
unfolds a record update. -/

namespace Sys2Proof

/-! ### Tables -/

@[simp] theorem PerMotion.get_set_self {α : Type} (p : PerMotion α) (m : Motion) (x : α) : (p.set m x).get m = x := by
  cases m <;> rfl

theorem PerMotion.get_set_ne {α : Type} (p : PerMotion α) {m n : Motion} (x : α) (h : n ≠ m) :
    (p.set m x).get n = p.get n := by
  cases m <;> cases n <;> first | rfl | exact absurd rfl h

@[simp] theorem PerMotion.get_map {α β : Type} (f : α → β) (p : PerMotion α) (m : Motion) :
    (p.map f).get m = f (p.get m) := by
  cases m <;> rfl

@[simp] theorem PerMotion.get_const {α : Type} (x : α) (m : Motion) : (PerMotion.const x).get m = x := by cases m <;> rfl

@[simp] theorem PerDig.get_set_self {α : Type} (p : PerDig α) (m : Dig) (x : α) : (p.set m x).get m = x := by
  cases m <;> rfl

theorem PerDig.get_set_ne {α : Type} (p : PerDig α) {m n : Dig} (x : α) (h : n ≠ m) : (p.set m x).get n = p.get n := by
  cases m <;> cases n <;> first | rfl | exact absurd rfl h

@[simp] theorem PerDig.get_map {α β : Type} (f : α → β) (p : PerDig α) (m : Dig) : (p.map f).get m = f (p.get m) := by
  cases m <;> rfl

@[simp] theorem PerDig.get_const {α : Type} (x : α) (m : Dig) : (PerDig.const x).get m = x := by cases m <;> rfl

@[simp] theorem PerPort.get_set_self {α : Type} (p : PerPort α) (q : Port) (x : α) : (p.set q x).get q = x := by
  cases q <;> rfl

theorem PerPort.get_set_ne {α : Type} (p : PerPort α) {q r : Port} (x : α) (h : r ≠ q) : (p.set q x).get r = p.get r := by
  cases q <;> cases r <;> first | rfl | exact absurd rfl h

@[simp] theorem Table.get_set_self {α : Type} {n : Nat} (t : Table α n) (i : Fin n) (x : α) : (t.set i x).get i = x := by
  simp [Table.get, Table.set, Table.setAt]

theorem Table.get_set_ne {α : Type} {n : Nat} (t : Table α n) {i j : Fin n} (x : α) (h : j ≠ i) :
    (t.set i x).get j = t.get j := by
  have hv : ¬ (i.val = j.val) := fun e => h (Fin.ext e.symm)
  simp [Table.get, Table.set, Table.setAt, hv]

@[simp] theorem Table.get_map {α β : Type} {n : Nat} (f : α → β) (t : Table α n) (i : Fin n) :
    (t.map f).get i = f (t.get i) := by
  simp [Table.get, Table.map]

@[simp] theorem Motion.dig?_motion (m : Dig) : m.motion.dig? = some m := by cases m <;> rfl

end Sys2Proof

namespace Sys2Proof.Machine

/-! ### State.onChan -/

@[simp] theorem State.onChan_pending (s : State) (c : Motion) (f : Chan → Chan) :
    (s.onChan c f).pending = s.pending := rfl
@[simp] theorem State.onChan_power (s : State) (c : Motion) (f : Chan → Chan) : (s.onChan c f).power = s.power := rfl
@[simp] theorem State.onChan_clock (s : State) (c : Motion) (f : Chan → Chan) : (s.onChan c f).clock = s.clock := rfl
@[simp] theorem State.onChan_k (s : State) (c : Motion) (f : Chan → Chan) : (s.onChan c f).k = s.k := rfl
@[simp] theorem State.onChan_fitted (s : State) (c : Motion) (f : Chan → Chan) : (s.onChan c f).fitted = s.fitted := rfl
@[simp] theorem State.onChan_store (s : State) (c : Motion) (f : Chan → Chan) : (s.onChan c f).store = s.store := rfl
@[simp] theorem State.onChan_commit (s : State) (c : Motion) (f : Chan → Chan) : (s.onChan c f).commit = s.commit := rfl
@[simp] theorem State.onChan_inputs (s : State) (c : Motion) (f : Chan → Chan) : (s.onChan c f).inputs = s.inputs := rfl
@[simp] theorem State.onChan_chans (s : State) (c : Motion) (f : Chan → Chan) :
    (s.onChan c f).chans = { s.chans with ch := s.chans.ch.set c (f (s.chans.ch.get c)) } := rfl
@[simp] theorem State.onChan_zones (s : State) (c : Motion) (f : Chan → Chan) : (s.onChan c f).zones = s.zones := rfl
@[simp] theorem State.onChan_res (s : State) (c : Motion) (f : Chan → Chan) : (s.onChan c f).res = s.res := rfl
@[simp] theorem State.onChan_gens (s : State) (c : Motion) (f : Chan → Chan) : (s.onChan c f).gens = s.gens := rfl
@[simp] theorem State.onChan_arb (s : State) (c : Motion) (f : Chan → Chan) : (s.onChan c f).arb = s.arb := rfl
@[simp] theorem State.onChan_motions (s : State) (c : Motion) (f : Chan → Chan) :
    (s.onChan c f).motions = s.motions := rfl
@[simp] theorem State.onChan_walk (s : State) (c : Motion) (f : Chan → Chan) : (s.onChan c f).walk = s.walk := rfl
@[simp] theorem State.onChan_alarms (s : State) (c : Motion) (f : Chan → Chan) : (s.onChan c f).alarms = s.alarms := rfl
@[simp] theorem State.onChan_supply (s : State) (c : Motion) (f : Chan → Chan) : (s.onChan c f).supply = s.supply := rfl
@[simp] theorem State.onChan_ports (s : State) (c : Motion) (f : Chan → Chan) : (s.onChan c f).ports = s.ports := rfl
@[simp] theorem State.onChan_guardLeft (s : State) (c : Motion) (f : Chan → Chan) :
    (s.onChan c f).guardLeft = s.guardLeft := rfl
@[simp] theorem State.onChan_cabTimer (s : State) (c : Motion) (f : Chan → Chan) :
    (s.onChan c f).cabTimer = s.cabTimer := rfl

/-! ### State.onMotion -/

@[simp] theorem State.onMotion_pending (s : State) (m : Dig) (f : MotionRec → MotionRec) :
    (s.onMotion m f).pending = s.pending := rfl
@[simp] theorem State.onMotion_power (s : State) (m : Dig) (f : MotionRec → MotionRec) :
    (s.onMotion m f).power = s.power := rfl
@[simp] theorem State.onMotion_clock (s : State) (m : Dig) (f : MotionRec → MotionRec) :
    (s.onMotion m f).clock = s.clock := rfl
@[simp] theorem State.onMotion_k (s : State) (m : Dig) (f : MotionRec → MotionRec) : (s.onMotion m f).k = s.k := rfl
@[simp] theorem State.onMotion_fitted (s : State) (m : Dig) (f : MotionRec → MotionRec) :
    (s.onMotion m f).fitted = s.fitted := rfl
@[simp] theorem State.onMotion_store (s : State) (m : Dig) (f : MotionRec → MotionRec) :
    (s.onMotion m f).store = s.store := rfl
@[simp] theorem State.onMotion_commit (s : State) (m : Dig) (f : MotionRec → MotionRec) :
    (s.onMotion m f).commit = s.commit := rfl
@[simp] theorem State.onMotion_inputs (s : State) (m : Dig) (f : MotionRec → MotionRec) :
    (s.onMotion m f).inputs = s.inputs := rfl
@[simp] theorem State.onMotion_chans (s : State) (m : Dig) (f : MotionRec → MotionRec) :
    (s.onMotion m f).chans = s.chans := rfl
@[simp] theorem State.onMotion_zones (s : State) (m : Dig) (f : MotionRec → MotionRec) :
    (s.onMotion m f).zones = s.zones := rfl
@[simp] theorem State.onMotion_res (s : State) (m : Dig) (f : MotionRec → MotionRec) :
    (s.onMotion m f).res = s.res := rfl
@[simp] theorem State.onMotion_gens (s : State) (m : Dig) (f : MotionRec → MotionRec) :
    (s.onMotion m f).gens = s.gens := rfl
@[simp] theorem State.onMotion_arb (s : State) (m : Dig) (f : MotionRec → MotionRec) :
    (s.onMotion m f).arb = s.arb := rfl
@[simp] theorem State.onMotion_motions (s : State) (m : Dig) (f : MotionRec → MotionRec) :
    (s.onMotion m f).motions = s.motions.set m (f (s.motions.get m)) := rfl
@[simp] theorem State.onMotion_walk (s : State) (m : Dig) (f : MotionRec → MotionRec) :
    (s.onMotion m f).walk = s.walk := rfl
@[simp] theorem State.onMotion_alarms (s : State) (m : Dig) (f : MotionRec → MotionRec) :
    (s.onMotion m f).alarms = s.alarms := rfl
@[simp] theorem State.onMotion_supply (s : State) (m : Dig) (f : MotionRec → MotionRec) :
    (s.onMotion m f).supply = s.supply := rfl
@[simp] theorem State.onMotion_ports (s : State) (m : Dig) (f : MotionRec → MotionRec) :
    (s.onMotion m f).ports = s.ports := rfl
@[simp] theorem State.onMotion_guardLeft (s : State) (m : Dig) (f : MotionRec → MotionRec) :
    (s.onMotion m f).guardLeft = s.guardLeft := rfl
@[simp] theorem State.onMotion_cabTimer (s : State) (m : Dig) (f : MotionRec → MotionRec) :
    (s.onMotion m f).cabTimer = s.cabTimer := rfl

/-! ### State.onMotions -/

@[simp] theorem State.onMotions_pending (s : State) (f : MotionRec → MotionRec) :
    (s.onMotions f).pending = s.pending := rfl
@[simp] theorem State.onMotions_power (s : State) (f : MotionRec → MotionRec) : (s.onMotions f).power = s.power := rfl
@[simp] theorem State.onMotions_clock (s : State) (f : MotionRec → MotionRec) : (s.onMotions f).clock = s.clock := rfl
@[simp] theorem State.onMotions_k (s : State) (f : MotionRec → MotionRec) : (s.onMotions f).k = s.k := rfl
@[simp] theorem State.onMotions_fitted (s : State) (f : MotionRec → MotionRec) :
    (s.onMotions f).fitted = s.fitted := rfl
@[simp] theorem State.onMotions_store (s : State) (f : MotionRec → MotionRec) : (s.onMotions f).store = s.store := rfl
@[simp] theorem State.onMotions_commit (s : State) (f : MotionRec → MotionRec) :
    (s.onMotions f).commit = s.commit := rfl
@[simp] theorem State.onMotions_inputs (s : State) (f : MotionRec → MotionRec) :
    (s.onMotions f).inputs = s.inputs := rfl
@[simp] theorem State.onMotions_chans (s : State) (f : MotionRec → MotionRec) : (s.onMotions f).chans = s.chans := rfl
@[simp] theorem State.onMotions_zones (s : State) (f : MotionRec → MotionRec) : (s.onMotions f).zones = s.zones := rfl
@[simp] theorem State.onMotions_res (s : State) (f : MotionRec → MotionRec) : (s.onMotions f).res = s.res := rfl
@[simp] theorem State.onMotions_gens (s : State) (f : MotionRec → MotionRec) : (s.onMotions f).gens = s.gens := rfl
@[simp] theorem State.onMotions_arb (s : State) (f : MotionRec → MotionRec) : (s.onMotions f).arb = s.arb := rfl
@[simp] theorem State.onMotions_motions (s : State) (f : MotionRec → MotionRec) :
    (s.onMotions f).motions = s.motions.map f := rfl
@[simp] theorem State.onMotions_walk (s : State) (f : MotionRec → MotionRec) : (s.onMotions f).walk = s.walk := rfl
@[simp] theorem State.onMotions_alarms (s : State) (f : MotionRec → MotionRec) :
    (s.onMotions f).alarms = s.alarms := rfl
@[simp] theorem State.onMotions_supply (s : State) (f : MotionRec → MotionRec) :
    (s.onMotions f).supply = s.supply := rfl
@[simp] theorem State.onMotions_ports (s : State) (f : MotionRec → MotionRec) : (s.onMotions f).ports = s.ports := rfl
@[simp] theorem State.onMotions_guardLeft (s : State) (f : MotionRec → MotionRec) :
    (s.onMotions f).guardLeft = s.guardLeft := rfl
@[simp] theorem State.onMotions_cabTimer (s : State) (f : MotionRec → MotionRec) :
    (s.onMotions f).cabTimer = s.cabTimer := rfl

/-! ### State.onWalk -/

@[simp] theorem State.onWalk_pending (s : State) (f : WalkRec → WalkRec) : (s.onWalk f).pending = s.pending := rfl
@[simp] theorem State.onWalk_power (s : State) (f : WalkRec → WalkRec) : (s.onWalk f).power = s.power := rfl
@[simp] theorem State.onWalk_clock (s : State) (f : WalkRec → WalkRec) : (s.onWalk f).clock = s.clock := rfl
@[simp] theorem State.onWalk_k (s : State) (f : WalkRec → WalkRec) : (s.onWalk f).k = s.k := rfl
@[simp] theorem State.onWalk_fitted (s : State) (f : WalkRec → WalkRec) : (s.onWalk f).fitted = s.fitted := rfl
@[simp] theorem State.onWalk_store (s : State) (f : WalkRec → WalkRec) : (s.onWalk f).store = s.store := rfl
@[simp] theorem State.onWalk_commit (s : State) (f : WalkRec → WalkRec) : (s.onWalk f).commit = s.commit := rfl
@[simp] theorem State.onWalk_inputs (s : State) (f : WalkRec → WalkRec) : (s.onWalk f).inputs = s.inputs := rfl
@[simp] theorem State.onWalk_chans (s : State) (f : WalkRec → WalkRec) : (s.onWalk f).chans = s.chans := rfl
@[simp] theorem State.onWalk_zones (s : State) (f : WalkRec → WalkRec) : (s.onWalk f).zones = s.zones := rfl
@[simp] theorem State.onWalk_res (s : State) (f : WalkRec → WalkRec) : (s.onWalk f).res = s.res := rfl
@[simp] theorem State.onWalk_gens (s : State) (f : WalkRec → WalkRec) : (s.onWalk f).gens = s.gens := rfl
@[simp] theorem State.onWalk_arb (s : State) (f : WalkRec → WalkRec) : (s.onWalk f).arb = s.arb := rfl
@[simp] theorem State.onWalk_motions (s : State) (f : WalkRec → WalkRec) : (s.onWalk f).motions = s.motions := rfl
@[simp] theorem State.onWalk_walk (s : State) (f : WalkRec → WalkRec) : (s.onWalk f).walk = f s.walk := rfl
@[simp] theorem State.onWalk_alarms (s : State) (f : WalkRec → WalkRec) : (s.onWalk f).alarms = s.alarms := rfl
@[simp] theorem State.onWalk_supply (s : State) (f : WalkRec → WalkRec) : (s.onWalk f).supply = s.supply := rfl
@[simp] theorem State.onWalk_ports (s : State) (f : WalkRec → WalkRec) : (s.onWalk f).ports = s.ports := rfl
@[simp] theorem State.onWalk_guardLeft (s : State) (f : WalkRec → WalkRec) : (s.onWalk f).guardLeft = s.guardLeft := rfl
@[simp] theorem State.onWalk_cabTimer (s : State) (f : WalkRec → WalkRec) : (s.onWalk f).cabTimer = s.cabTimer := rfl

/-! ### State.onGen -/

@[simp] theorem State.onGen_pending (s : State) (g : Fin 12) (f : Gen → Gen) : (s.onGen g f).pending = s.pending := rfl
@[simp] theorem State.onGen_power (s : State) (g : Fin 12) (f : Gen → Gen) : (s.onGen g f).power = s.power := rfl
@[simp] theorem State.onGen_clock (s : State) (g : Fin 12) (f : Gen → Gen) : (s.onGen g f).clock = s.clock := rfl
@[simp] theorem State.onGen_k (s : State) (g : Fin 12) (f : Gen → Gen) : (s.onGen g f).k = s.k := rfl
@[simp] theorem State.onGen_fitted (s : State) (g : Fin 12) (f : Gen → Gen) : (s.onGen g f).fitted = s.fitted := rfl
@[simp] theorem State.onGen_store (s : State) (g : Fin 12) (f : Gen → Gen) : (s.onGen g f).store = s.store := rfl
@[simp] theorem State.onGen_commit (s : State) (g : Fin 12) (f : Gen → Gen) : (s.onGen g f).commit = s.commit := rfl
@[simp] theorem State.onGen_inputs (s : State) (g : Fin 12) (f : Gen → Gen) : (s.onGen g f).inputs = s.inputs := rfl
@[simp] theorem State.onGen_chans (s : State) (g : Fin 12) (f : Gen → Gen) : (s.onGen g f).chans = s.chans := rfl
@[simp] theorem State.onGen_zones (s : State) (g : Fin 12) (f : Gen → Gen) : (s.onGen g f).zones = s.zones := rfl
@[simp] theorem State.onGen_res (s : State) (g : Fin 12) (f : Gen → Gen) : (s.onGen g f).res = s.res := rfl
@[simp] theorem State.onGen_gens (s : State) (g : Fin 12) (f : Gen → Gen) :
    (s.onGen g f).gens = s.gens.set g (f (s.gens.get g)) := rfl
@[simp] theorem State.onGen_arb (s : State) (g : Fin 12) (f : Gen → Gen) : (s.onGen g f).arb = s.arb := rfl
@[simp] theorem State.onGen_motions (s : State) (g : Fin 12) (f : Gen → Gen) : (s.onGen g f).motions = s.motions := rfl
@[simp] theorem State.onGen_walk (s : State) (g : Fin 12) (f : Gen → Gen) : (s.onGen g f).walk = s.walk := rfl
@[simp] theorem State.onGen_alarms (s : State) (g : Fin 12) (f : Gen → Gen) : (s.onGen g f).alarms = s.alarms := rfl
@[simp] theorem State.onGen_supply (s : State) (g : Fin 12) (f : Gen → Gen) : (s.onGen g f).supply = s.supply := rfl
@[simp] theorem State.onGen_ports (s : State) (g : Fin 12) (f : Gen → Gen) : (s.onGen g f).ports = s.ports := rfl
@[simp] theorem State.onGen_guardLeft (s : State) (g : Fin 12) (f : Gen → Gen) :
    (s.onGen g f).guardLeft = s.guardLeft := rfl
@[simp] theorem State.onGen_cabTimer (s : State) (g : Fin 12) (f : Gen → Gen) :
    (s.onGen g f).cabTimer = s.cabTimer := rfl

/-! ### State.onGens -/

@[simp] theorem State.onGens_pending (s : State) (f : PerMotion Bool → Gen → Gen) :
    (s.onGens f).pending = s.pending := rfl
@[simp] theorem State.onGens_power (s : State) (f : PerMotion Bool → Gen → Gen) : (s.onGens f).power = s.power := rfl
@[simp] theorem State.onGens_clock (s : State) (f : PerMotion Bool → Gen → Gen) : (s.onGens f).clock = s.clock := rfl
@[simp] theorem State.onGens_k (s : State) (f : PerMotion Bool → Gen → Gen) : (s.onGens f).k = s.k := rfl
@[simp] theorem State.onGens_fitted (s : State) (f : PerMotion Bool → Gen → Gen) : (s.onGens f).fitted = s.fitted := rfl
@[simp] theorem State.onGens_store (s : State) (f : PerMotion Bool → Gen → Gen) : (s.onGens f).store = s.store := rfl
@[simp] theorem State.onGens_commit (s : State) (f : PerMotion Bool → Gen → Gen) : (s.onGens f).commit = s.commit := rfl
@[simp] theorem State.onGens_inputs (s : State) (f : PerMotion Bool → Gen → Gen) : (s.onGens f).inputs = s.inputs := rfl
@[simp] theorem State.onGens_chans (s : State) (f : PerMotion Bool → Gen → Gen) : (s.onGens f).chans = s.chans := rfl
@[simp] theorem State.onGens_zones (s : State) (f : PerMotion Bool → Gen → Gen) : (s.onGens f).zones = s.zones := rfl
@[simp] theorem State.onGens_res (s : State) (f : PerMotion Bool → Gen → Gen) : (s.onGens f).res = s.res := rfl
@[simp] theorem State.onGens_arb (s : State) (f : PerMotion Bool → Gen → Gen) : (s.onGens f).arb = s.arb := rfl
@[simp] theorem State.onGens_motions (s : State) (f : PerMotion Bool → Gen → Gen) :
    (s.onGens f).motions = s.motions := rfl
@[simp] theorem State.onGens_walk (s : State) (f : PerMotion Bool → Gen → Gen) : (s.onGens f).walk = s.walk := rfl
@[simp] theorem State.onGens_alarms (s : State) (f : PerMotion Bool → Gen → Gen) : (s.onGens f).alarms = s.alarms := rfl
@[simp] theorem State.onGens_supply (s : State) (f : PerMotion Bool → Gen → Gen) : (s.onGens f).supply = s.supply := rfl
@[simp] theorem State.onGens_ports (s : State) (f : PerMotion Bool → Gen → Gen) : (s.onGens f).ports = s.ports := rfl
@[simp] theorem State.onGens_guardLeft (s : State) (f : PerMotion Bool → Gen → Gen) :
    (s.onGens f).guardLeft = s.guardLeft := rfl
@[simp] theorem State.onGens_cabTimer (s : State) (f : PerMotion Bool → Gen → Gen) :
    (s.onGens f).cabTimer = s.cabTimer := rfl

/-! ### State.onSlot -/

@[simp] theorem State.onSlot_pending (s : State) (i : Fin 40) (f : ZoneSlot → ZoneSlot) :
    (s.onSlot i f).pending = s.pending := rfl
@[simp] theorem State.onSlot_power (s : State) (i : Fin 40) (f : ZoneSlot → ZoneSlot) :
    (s.onSlot i f).power = s.power := rfl
@[simp] theorem State.onSlot_clock (s : State) (i : Fin 40) (f : ZoneSlot → ZoneSlot) :
    (s.onSlot i f).clock = s.clock := rfl
@[simp] theorem State.onSlot_k (s : State) (i : Fin 40) (f : ZoneSlot → ZoneSlot) : (s.onSlot i f).k = s.k := rfl
@[simp] theorem State.onSlot_fitted (s : State) (i : Fin 40) (f : ZoneSlot → ZoneSlot) :
    (s.onSlot i f).fitted = s.fitted := rfl
@[simp] theorem State.onSlot_store (s : State) (i : Fin 40) (f : ZoneSlot → ZoneSlot) :
    (s.onSlot i f).store = s.store := rfl
@[simp] theorem State.onSlot_commit (s : State) (i : Fin 40) (f : ZoneSlot → ZoneSlot) :
    (s.onSlot i f).commit = s.commit := rfl
@[simp] theorem State.onSlot_inputs (s : State) (i : Fin 40) (f : ZoneSlot → ZoneSlot) :
    (s.onSlot i f).inputs = s.inputs := rfl
@[simp] theorem State.onSlot_chans (s : State) (i : Fin 40) (f : ZoneSlot → ZoneSlot) :
    (s.onSlot i f).chans = s.chans := rfl
@[simp] theorem State.onSlot_zones (s : State) (i : Fin 40) (f : ZoneSlot → ZoneSlot) :
    (s.onSlot i f).zones = { s.zones with slots := s.zones.slots.set i (f (s.zones.slots.get i)) } := rfl
@[simp] theorem State.onSlot_res (s : State) (i : Fin 40) (f : ZoneSlot → ZoneSlot) : (s.onSlot i f).res = s.res := rfl
@[simp] theorem State.onSlot_gens (s : State) (i : Fin 40) (f : ZoneSlot → ZoneSlot) :
    (s.onSlot i f).gens = s.gens := rfl
@[simp] theorem State.onSlot_arb (s : State) (i : Fin 40) (f : ZoneSlot → ZoneSlot) : (s.onSlot i f).arb = s.arb := rfl
@[simp] theorem State.onSlot_motions (s : State) (i : Fin 40) (f : ZoneSlot → ZoneSlot) :
    (s.onSlot i f).motions = s.motions := rfl
@[simp] theorem State.onSlot_walk (s : State) (i : Fin 40) (f : ZoneSlot → ZoneSlot) :
    (s.onSlot i f).walk = s.walk := rfl
@[simp] theorem State.onSlot_alarms (s : State) (i : Fin 40) (f : ZoneSlot → ZoneSlot) :
    (s.onSlot i f).alarms = s.alarms := rfl
@[simp] theorem State.onSlot_supply (s : State) (i : Fin 40) (f : ZoneSlot → ZoneSlot) :
    (s.onSlot i f).supply = s.supply := rfl
@[simp] theorem State.onSlot_ports (s : State) (i : Fin 40) (f : ZoneSlot → ZoneSlot) :
    (s.onSlot i f).ports = s.ports := rfl
@[simp] theorem State.onSlot_guardLeft (s : State) (i : Fin 40) (f : ZoneSlot → ZoneSlot) :
    (s.onSlot i f).guardLeft = s.guardLeft := rfl
@[simp] theorem State.onSlot_cabTimer (s : State) (i : Fin 40) (f : ZoneSlot → ZoneSlot) :
    (s.onSlot i f).cabTimer = s.cabTimer := rfl

/-! ### State.onPort -/

@[simp] theorem State.onPort_pending (s : State) (p : Port) (f : PortState → PortState) :
    (s.onPort p f).pending = s.pending := rfl
@[simp] theorem State.onPort_power (s : State) (p : Port) (f : PortState → PortState) :
    (s.onPort p f).power = s.power := rfl
@[simp] theorem State.onPort_clock (s : State) (p : Port) (f : PortState → PortState) :
    (s.onPort p f).clock = s.clock := rfl
@[simp] theorem State.onPort_k (s : State) (p : Port) (f : PortState → PortState) : (s.onPort p f).k = s.k := rfl
@[simp] theorem State.onPort_fitted (s : State) (p : Port) (f : PortState → PortState) :
    (s.onPort p f).fitted = s.fitted := rfl
@[simp] theorem State.onPort_store (s : State) (p : Port) (f : PortState → PortState) :
    (s.onPort p f).store = s.store := rfl
@[simp] theorem State.onPort_commit (s : State) (p : Port) (f : PortState → PortState) :
    (s.onPort p f).commit = s.commit := rfl
@[simp] theorem State.onPort_inputs (s : State) (p : Port) (f : PortState → PortState) :
    (s.onPort p f).inputs = s.inputs := rfl
@[simp] theorem State.onPort_chans (s : State) (p : Port) (f : PortState → PortState) :
    (s.onPort p f).chans = s.chans := rfl
@[simp] theorem State.onPort_zones (s : State) (p : Port) (f : PortState → PortState) :
    (s.onPort p f).zones = s.zones := rfl
@[simp] theorem State.onPort_res (s : State) (p : Port) (f : PortState → PortState) : (s.onPort p f).res = s.res := rfl
@[simp] theorem State.onPort_gens (s : State) (p : Port) (f : PortState → PortState) :
    (s.onPort p f).gens = s.gens := rfl
@[simp] theorem State.onPort_arb (s : State) (p : Port) (f : PortState → PortState) : (s.onPort p f).arb = s.arb := rfl
@[simp] theorem State.onPort_motions (s : State) (p : Port) (f : PortState → PortState) :
    (s.onPort p f).motions = s.motions := rfl
@[simp] theorem State.onPort_walk (s : State) (p : Port) (f : PortState → PortState) :
    (s.onPort p f).walk = s.walk := rfl
@[simp] theorem State.onPort_alarms (s : State) (p : Port) (f : PortState → PortState) :
    (s.onPort p f).alarms = s.alarms := rfl
@[simp] theorem State.onPort_supply (s : State) (p : Port) (f : PortState → PortState) :
    (s.onPort p f).supply = s.supply := rfl
@[simp] theorem State.onPort_ports (s : State) (p : Port) (f : PortState → PortState) :
    (s.onPort p f).ports = s.ports.set p (f (s.ports.get p)) := rfl
@[simp] theorem State.onPort_guardLeft (s : State) (p : Port) (f : PortState → PortState) :
    (s.onPort p f).guardLeft = s.guardLeft := rfl
@[simp] theorem State.onPort_cabTimer (s : State) (p : Port) (f : PortState → PortState) :
    (s.onPort p f).cabTimer = s.cabTimer := rfl

/-! ### State.answer -/

@[simp] theorem State.answer_pending (s : State) (p : Port) (a : Answer) : (s.answer p a).pending = s.pending := rfl
@[simp] theorem State.answer_power (s : State) (p : Port) (a : Answer) : (s.answer p a).power = s.power := rfl
@[simp] theorem State.answer_clock (s : State) (p : Port) (a : Answer) : (s.answer p a).clock = s.clock := rfl
@[simp] theorem State.answer_k (s : State) (p : Port) (a : Answer) : (s.answer p a).k = s.k := rfl
@[simp] theorem State.answer_fitted (s : State) (p : Port) (a : Answer) : (s.answer p a).fitted = s.fitted := rfl
@[simp] theorem State.answer_store (s : State) (p : Port) (a : Answer) : (s.answer p a).store = s.store := rfl
@[simp] theorem State.answer_commit (s : State) (p : Port) (a : Answer) : (s.answer p a).commit = s.commit := rfl
@[simp] theorem State.answer_inputs (s : State) (p : Port) (a : Answer) : (s.answer p a).inputs = s.inputs := rfl
@[simp] theorem State.answer_chans (s : State) (p : Port) (a : Answer) : (s.answer p a).chans = s.chans := rfl
@[simp] theorem State.answer_zones (s : State) (p : Port) (a : Answer) : (s.answer p a).zones = s.zones := rfl
@[simp] theorem State.answer_res (s : State) (p : Port) (a : Answer) : (s.answer p a).res = s.res := rfl
@[simp] theorem State.answer_gens (s : State) (p : Port) (a : Answer) : (s.answer p a).gens = s.gens := rfl
@[simp] theorem State.answer_arb (s : State) (p : Port) (a : Answer) : (s.answer p a).arb = s.arb := rfl
@[simp] theorem State.answer_motions (s : State) (p : Port) (a : Answer) : (s.answer p a).motions = s.motions := rfl
@[simp] theorem State.answer_walk (s : State) (p : Port) (a : Answer) : (s.answer p a).walk = s.walk := rfl
@[simp] theorem State.answer_alarms (s : State) (p : Port) (a : Answer) : (s.answer p a).alarms = s.alarms := rfl
@[simp] theorem State.answer_supply (s : State) (p : Port) (a : Answer) : (s.answer p a).supply = s.supply := rfl
@[simp] theorem State.answer_ports (s : State) (p : Port) (a : Answer) :
    (s.answer p a).ports = s.ports.set p { s.ports.get p with answer := some a } := rfl
@[simp] theorem State.answer_guardLeft (s : State) (p : Port) (a : Answer) :
    (s.answer p a).guardLeft = s.guardLeft := rfl
@[simp] theorem State.answer_cabTimer (s : State) (p : Port) (a : Answer) : (s.answer p a).cabTimer = s.cabTimer := rfl

/-! ### State.hunt -/

@[simp] theorem State.hunt_pending (s : State) (p : Port) : (s.hunt p).pending = s.pending := rfl
@[simp] theorem State.hunt_power (s : State) (p : Port) : (s.hunt p).power = s.power := rfl
@[simp] theorem State.hunt_clock (s : State) (p : Port) : (s.hunt p).clock = s.clock := rfl
@[simp] theorem State.hunt_k (s : State) (p : Port) : (s.hunt p).k = s.k := rfl
@[simp] theorem State.hunt_fitted (s : State) (p : Port) : (s.hunt p).fitted = s.fitted := rfl
@[simp] theorem State.hunt_store (s : State) (p : Port) : (s.hunt p).store = s.store := rfl
@[simp] theorem State.hunt_commit (s : State) (p : Port) : (s.hunt p).commit = s.commit := rfl
@[simp] theorem State.hunt_inputs (s : State) (p : Port) : (s.hunt p).inputs = s.inputs := rfl
@[simp] theorem State.hunt_chans (s : State) (p : Port) : (s.hunt p).chans = s.chans := rfl
@[simp] theorem State.hunt_zones (s : State) (p : Port) : (s.hunt p).zones = s.zones := rfl
@[simp] theorem State.hunt_res (s : State) (p : Port) : (s.hunt p).res = s.res := rfl
@[simp] theorem State.hunt_gens (s : State) (p : Port) : (s.hunt p).gens = s.gens := rfl
@[simp] theorem State.hunt_arb (s : State) (p : Port) : (s.hunt p).arb = s.arb := rfl
@[simp] theorem State.hunt_motions (s : State) (p : Port) : (s.hunt p).motions = s.motions := rfl
@[simp] theorem State.hunt_walk (s : State) (p : Port) : (s.hunt p).walk = s.walk := rfl
@[simp] theorem State.hunt_alarms (s : State) (p : Port) : (s.hunt p).alarms = s.alarms := rfl
@[simp] theorem State.hunt_supply (s : State) (p : Port) : (s.hunt p).supply = s.supply := rfl
@[simp] theorem State.hunt_ports (s : State) (p : Port) :
    (s.hunt p).ports = s.ports.set p { s.ports.get p with receiver := .hunting } := rfl
@[simp] theorem State.hunt_guardLeft (s : State) (p : Port) : (s.hunt p).guardLeft = s.guardLeft := rfl
@[simp] theorem State.hunt_cabTimer (s : State) (p : Port) : (s.hunt p).cabTimer = s.cabTimer := rfl

/-! ### State.epochUp -/

@[simp] theorem State.epochUp_pending (s : State) : (s.epochUp).pending = s.pending := rfl
@[simp] theorem State.epochUp_power (s : State) : (s.epochUp).power = s.power := rfl
@[simp] theorem State.epochUp_clock (s : State) : (s.epochUp).clock = s.clock := rfl
@[simp] theorem State.epochUp_k (s : State) : (s.epochUp).k = s.k := rfl
@[simp] theorem State.epochUp_fitted (s : State) : (s.epochUp).fitted = s.fitted := rfl
@[simp] theorem State.epochUp_store (s : State) : (s.epochUp).store = s.store := rfl
@[simp] theorem State.epochUp_commit (s : State) : (s.epochUp).commit = s.commit := rfl
@[simp] theorem State.epochUp_inputs (s : State) : (s.epochUp).inputs = s.inputs := rfl
@[simp] theorem State.epochUp_chans (s : State) : (s.epochUp).chans = s.chans := rfl
@[simp] theorem State.epochUp_zones (s : State) : (s.epochUp).zones = { s.zones with epoch := s.zones.epoch + 1 } := rfl
@[simp] theorem State.epochUp_res (s : State) :
    (s.epochUp).res = s.res.epochChanged (!s.inHoldup) (s.zones.epoch + 1) := rfl
@[simp] theorem State.epochUp_gens (s : State) : (s.epochUp).gens = s.gens := rfl
@[simp] theorem State.epochUp_arb (s : State) : (s.epochUp).arb = s.arb := rfl
@[simp] theorem State.epochUp_motions (s : State) : (s.epochUp).motions = s.motions := rfl
@[simp] theorem State.epochUp_walk (s : State) : (s.epochUp).walk = s.walk := rfl
@[simp] theorem State.epochUp_alarms (s : State) : (s.epochUp).alarms = s.alarms := rfl
@[simp] theorem State.epochUp_supply (s : State) : (s.epochUp).supply = s.supply := rfl
@[simp] theorem State.epochUp_ports (s : State) : (s.epochUp).ports = s.ports := rfl
@[simp] theorem State.epochUp_guardLeft (s : State) : (s.epochUp).guardLeft = s.guardLeft := rfl
@[simp] theorem State.epochUp_cabTimer (s : State) : (s.epochUp).cabTimer = s.cabTimer := rfl

/-! ### State.resolverFollow -/

@[simp] theorem State.resolverFollow_pending (s : State) : (s.resolverFollow).pending = s.pending := rfl
@[simp] theorem State.resolverFollow_power (s : State) : (s.resolverFollow).power = s.power := rfl
@[simp] theorem State.resolverFollow_clock (s : State) : (s.resolverFollow).clock = s.clock := rfl
@[simp] theorem State.resolverFollow_k (s : State) : (s.resolverFollow).k = s.k := rfl
@[simp] theorem State.resolverFollow_fitted (s : State) : (s.resolverFollow).fitted = s.fitted := rfl
@[simp] theorem State.resolverFollow_store (s : State) : (s.resolverFollow).store = s.store := rfl
@[simp] theorem State.resolverFollow_commit (s : State) : (s.resolverFollow).commit = s.commit := rfl
@[simp] theorem State.resolverFollow_inputs (s : State) : (s.resolverFollow).inputs = s.inputs := rfl
@[simp] theorem State.resolverFollow_chans (s : State) : (s.resolverFollow).chans = s.chans := rfl
@[simp] theorem State.resolverFollow_zones (s : State) : (s.resolverFollow).zones = s.zones := rfl
@[simp] theorem State.resolverFollow_res (s : State) :
    (s.resolverFollow).res = if s.inHoldup then s.followedInHoldup else s.followedInRun := rfl
@[simp] theorem State.resolverFollow_gens (s : State) : (s.resolverFollow).gens = s.gens := rfl
@[simp] theorem State.resolverFollow_arb (s : State) : (s.resolverFollow).arb = s.arb := rfl
@[simp] theorem State.resolverFollow_motions (s : State) : (s.resolverFollow).motions = s.motions := rfl
@[simp] theorem State.resolverFollow_walk (s : State) : (s.resolverFollow).walk = s.walk := rfl
@[simp] theorem State.resolverFollow_alarms (s : State) : (s.resolverFollow).alarms = s.alarms := rfl
@[simp] theorem State.resolverFollow_supply (s : State) : (s.resolverFollow).supply = s.supply := rfl
@[simp] theorem State.resolverFollow_ports (s : State) : (s.resolverFollow).ports = s.ports := rfl
@[simp] theorem State.resolverFollow_guardLeft (s : State) : (s.resolverFollow).guardLeft = s.guardLeft := rfl
@[simp] theorem State.resolverFollow_cabTimer (s : State) : (s.resolverFollow).cabTimer = s.cabTimer := rfl

end Sys2Proof.Machine
end

