-- ==== Sys2Proof/Laws/Frame.lean ====
section
/-! SUPPORT. What the completion of a change leaves alone: one lemma for each shared operation that says which records it
cannot touch, up to `State.settle`. -/

namespace Sys2Proof.Machine

theorem State.SameRecords.refl (s : State) : s.SameRecords s := by constructor <;> rfl

theorem State.SameRecords.trans {s t u : State} (h : s.SameRecords t) (g : t.SameRecords u) : s.SameRecords u := by
  constructor
  · exact g.pending.trans h.pending
  · exact g.power.trans h.power
  · exact g.clock.trans h.clock
  · exact g.k.trans h.k
  · exact g.fitted.trans h.fitted
  · exact g.store.trans h.store
  · exact g.commit.trans h.commit
  · exact g.inputs.trans h.inputs
  · exact g.chans.trans h.chans
  · exact g.zones.trans h.zones
  · exact g.supply.trans h.supply
  · exact g.ports.trans h.ports
  · exact g.guardLeft.trans h.guardLeft
  · exact g.cabTimer.trans h.cabTimer

/-- A fold of operations that keep the records keeps them. -/
theorem State.SameRecords.foldl {α : Type} {f : State → α → State} (h : ∀ (s : State) (a : α), s.SameRecords (f s a)) (l : List α)
    (s : State) : s.SameRecords (l.foldl f s) := by
  induction l generalizing s with
  | nil => exact State.SameRecords.refl s
  | cons a l ih => exact (h s a).trans (ih (f s a))

theorem State.SameRecords.ite {s t u : State} {p : Prop} [Decidable p] (ht : s.SameRecords t) (hu : s.SameRecords u) :
    s.SameRecords (if p then t else u) := by
  by_cases h : p
  · rw [if_pos h]; exact ht
  · rw [if_neg h]; exact hu

/-! ### Single updates -/

theorem State.onMotion_same (s : State) (m : Dig) (f : MotionRec → MotionRec) : s.SameRecords (s.onMotion m f) := by
  constructor <;> rfl

theorem State.onMotions_same (s : State) (f : MotionRec → MotionRec) : s.SameRecords (s.onMotions f) := by
  constructor <;> rfl

theorem State.onWalk_same (s : State) (f : WalkRec → WalkRec) : s.SameRecords (s.onWalk f) := by constructor <;> rfl

theorem State.onGen_same (s : State) (g : Fin 12) (f : Gen → Gen) : s.SameRecords (s.onGen g f) := by
  constructor <;> rfl

theorem State.onGens_same (s : State) (f : PerMotion Bool → Gen → Gen) : s.SameRecords (s.onGens f) := by
  constructor <;> rfl

theorem State.withGens_same (s : State) (x : Table Gen 12) : s.SameRecords { s with gens := x } := by constructor <;> rfl

theorem State.withArb_same (s : State) (x : Arbiter) : s.SameRecords { s with arb := x } := by constructor <;> rfl

theorem State.withRes_same (s : State) (x : Resolver) : s.SameRecords { s with res := x } := by constructor <;> rfl

theorem State.withAlarms_same (s : State) (x : Alarms) : s.SameRecords { s with alarms := x } := by constructor <;> rfl

theorem State.onBrake_same (s : State) (m : Motion) (f : Brake → Brake) : s.SameRecords (s.onBrake m f) := by
  cases m <;> constructor <;> rfl

/-! ### Raises and clears -/

theorem State.clearCondition_same (s : State) (key : AlarmKey) : s.SameRecords (s.clearCondition key) :=
  (s.withAlarms_same _).ite (State.SameRecords.refl s)

theorem State.tripBegins_same (s : State) (c : Cause) : s.SameRecords (s.tripBegins c) := by constructor <;> rfl

theorem State.stopBegins_same (s : State) (c : Cause) (f : Motion → Bool) : s.SameRecords (s.stopBegins c f) := by
  constructor <;> rfl

theorem State.cabLinkHalts_same (s : State) (key : AlarmKey) : s.SameRecords (s.cabLinkHalts key) :=
  (s.onWalk_same _).ite (State.SameRecords.refl s)

theorem State.conditionActs_same (s : State) (b : Alarms) (key : AlarmKey) : s.SameRecords (s.conditionActs b key) := by
  unfold State.conditionActs
  dsimp only
  split
  · exact (State.SameRecords.refl s).ite (s.tripBegins_same _)
  · exact (s.stopBegins_same _ _).trans (State.cabLinkHalts_same _ _)
  · exact State.SameRecords.refl s
  · exact State.SameRecords.refl s

theorem State.eventActs_same (s : State) (key : AlarmKey) (cls : AlarmClass) : s.SameRecords (s.eventActs key cls) := by
  cases cls
  · exact s.tripBegins_same _
  · exact s.stopBegins_same _ _
  · exact State.SameRecords.refl s
  · exact State.SameRecords.refl s

theorem State.raiseCondition_same (s : State) (key : AlarmKey) : s.SameRecords (s.raiseCondition key) :=
  (State.SameRecords.refl s).ite
    ((s.withAlarms_same _).ite ((s.withAlarms_same _).trans (State.conditionActs_same _ _ _)))

theorem State.raiseEvent_same (s : State) (key : AlarmKey) : s.SameRecords (s.raiseEvent key) :=
  (s.withAlarms_same _).ite ((s.withAlarms_same _).trans (State.eventActs_same _ _ _))

theorem State.lookDropped_same (s : State) : s.SameRecords s.lookDropped := by
  unfold State.lookDropped
  split
  · exact .refl s
  · exact s.withRes_same _

theorem State.putOff_same (s : State) (m : Motion) : s.SameRecords (s.putOff m) := by
  unfold State.putOff
  split
  · exact s.onMotion_same _ _
  · exact s.onWalk_same _

theorem State.setCondition_same (s : State) (key : AlarmKey) (b : Bool) : s.SameRecords (s.setCondition key b) :=
  (s.raiseCondition_same key).ite (s.clearCondition_same key)

theorem State.unreferencedEnds_same (s : State) (c : Motion) : s.SameRecords (s.unreferencedEnds c) :=
  (State.SameRecords.refl s).ite (s.clearCondition_same _)

theorem State.syncChannels_same (s : State) : s.SameRecords s.syncChannels := by
  unfold State.syncChannels
  exact ((State.SameRecords.foldl State.unreferencedEnds_same _ s).trans
    (State.SameRecords.foldl (fun s _ => State.setCondition_same s _ _) _ _)).trans
    (State.SameRecords.foldl (fun s _ => State.setCondition_same s _ _) _ _)

theorem State.gensReport_same (s : State) : s.SameRecords s.gensReport := by
  unfold State.gensReport
  exact ((State.SameRecords.foldl (fun s _ => State.setCondition_same s _ _) _ s).trans
    (State.SameRecords.foldl (fun s _ => State.setCondition_same s _ _) _ _)).trans
    (State.SameRecords.foldl (fun s _ => State.setCondition_same s _ _) _ _)

theorem State.syncGens_same (s : State) : s.SameRecords s.syncGens :=
  (State.SameRecords.refl s).ite s.gensReport_same

theorem State.syncZones_same (s : State) : s.SameRecords s.syncZones := by
  unfold State.syncZones
  exact (State.SameRecords.foldl (fun s _ => State.setCondition_same s _ _) _ s).trans (State.setCondition_same _ _ _)

theorem State.syncConditions_same (s : State) : s.SameRecords s.syncConditions :=
  (s.syncChannels_same.trans (State.syncGens_same _)).trans (State.syncZones_same _)

/-! ### The motions and the walk -/

theorem State.returnAll_same (s : State) (m : Motion) : s.SameRecords (s.returnAll m) := s.onGens_same _

theorem State.endHold_same (s : State) (m : Dig) : s.SameRecords (s.endHold m) :=
  (s.returnAll_same _).trans (State.onMotion_same _ _ _)

theorem State.beginHold_same (s : State) (m : Dig) : s.SameRecords (s.beginHold m) :=
  (s.onMotion_same _ _).ite ((s.endHold_same m).ite (s.onMotion_same _ _))

theorem State.proofPass_same (s : State) (m : Dig) : s.SameRecords (s.proofPass m) := by
  unfold State.proofPass
  dsimp only
  split
  · exact (State.SameRecords.refl s).ite ((s.onMotion_same _ _).trans (State.clearCondition_same _ _))
  · exact (s.onMotion_same _ _).ite (State.SameRecords.refl s)
  · exact State.SameRecords.refl s
  · exact State.SameRecords.refl s

theorem State.restPass_same (s : State) (m : Dig) : s.SameRecords (s.restPass m) :=
  ((s.onMotion_same _ _).ite ((s.beginHold_same m).ite ((s.returnAll_same _).ite (State.SameRecords.refl s)))).ite
    (State.SameRecords.refl s)

theorem State.motionPass_same (s : State) (m : Dig) : s.SameRecords (s.motionPass m) :=
  ((((s.onMotion_same _ _).trans (State.onMotion_same _ _ _)).trans (State.onMotion_same _ _ _)).trans
    (State.proofPass_same _ _)).trans (State.restPass_same _ _)

theorem State.motionsPass_same (s : State) : s.SameRecords s.motionsPass :=
  ((s.motionPass_same _).trans (State.motionPass_same _ _)).trans (State.motionPass_same _ _)

theorem State.walkFinish_same (s : State) (o : WalkOutcome) : s.SameRecords (s.walkFinish o) :=
  ((s.returnAll_same _).trans (State.onWalk_same _ _)).trans (State.onMotions_same _ _)

theorem State.walkProofPass_same (s : State) : s.SameRecords s.walkProofPass := by
  unfold State.walkProofPass
  split
  · exact (State.SameRecords.refl s).ite ((s.onWalk_same _).trans (State.clearCondition_same _ _))
  · exact (s.onWalk_same _).ite (State.SameRecords.refl s)
  · exact State.SameRecords.refl s
  · exact State.SameRecords.refl s

theorem State.walkRestPass_same (s : State) : s.SameRecords s.walkRestPass := by
  unfold State.walkRestPass
  dsimp only
  refine State.SameRecords.ite ?_ (State.SameRecords.refl s)
  split
  · exact s.walkFinish_same _
  · refine (s.returnAll_same _).ite (State.SameRecords.ite ?_ ((s.onWalk_same _).ite (State.SameRecords.refl s)))
    split
    · exact State.SameRecords.refl s
    · exact s.onWalk_same _

theorem State.walkPass_same (s : State) : s.SameRecords s.walkPass :=
  ((s.onWalk_same _).trans (State.walkProofPass_same _)).trans (State.walkRestPass_same _)

theorem State.passes_same (s : State) : s.SameRecords s.passes := s.motionsPass_same.trans (State.walkPass_same _)

theorem State.compose_same (s : State) : s.SameRecords s.compose := by constructor <;> rfl

/-! ### The steps of a holdup return (R158) -/

theorem State.gensReturn_same (s : State) : s.SameRecords s.gensReturn :=
  ((s.withGens_same s.gensAtReturn).trans (State.withArb_same _ _)).trans (State.gensReport_same _)

theorem State.resolverReturns_same (s : State) : s.SameRecords s.resolverReturns := s.withRes_same _

theorem State.brakeReturns_same (s : State) (m : Motion) : s.SameRecords (s.brakeReturns m) := by
  unfold State.brakeReturns
  split
  · exact (s.onBrake_same _ _).ite ((s.onBrake_same _ _).trans (State.clearCondition_same _ _))
  · exact ((s.onBrake_same _ _).trans (State.raiseCondition_same _ _)).ite (.refl s)
  · exact .refl s
  · exact .refl s

/-! ### What a failed close makes of its attempts (R58, R59, R67) -/

theorem afterFailedClose_again {k : Constants} {n : Nat} (h : n < k.transferAttempts) : afterFailedClose k n = .again :=
  if_neg (Nat.not_le.2 h)

theorem afterFailedClose_lockOut {k : Constants} {n : Nat} (h : k.transferAttempts ≤ n) (hp : k.attemptPolicy = .lockOut) :
    afterFailedClose k n = .lockOut := by
  unfold afterFailedClose; rw [if_pos h, hp]

theorem afterFailedClose_keepTrying {k : Constants} {n : Nat} (h : k.transferAttempts ≤ n)
    (hp : k.attemptPolicy = .keepTrying) : afterFailedClose k n = .keepTrying := by
  unfold afterFailedClose; rw [if_pos h, hp]

/-- It is never `no`: the opening after a failed close is always known as one. -/
theorem afterFailedClose_ne_no (k : Constants) (n : Nat) : afterFailedClose k n ≠ .no := by
  unfold afterFailedClose
  split
  · split <;> nofun
  · nofun

/-! ### The arbiter -/

theorem State.claimsFollowOf_same (s : State) (m : Motion) : s.SameRecords (s.claimsFollowOf m) :=
  (s.onGens_same _).ite ((s.onGens_same _).ite (State.SameRecords.refl s))

theorem State.claimsFollow_same (s : State) : s.SameRecords s.claimsFollow := by
  unfold State.claimsFollow
  exact State.SameRecords.foldl State.claimsFollowOf_same _ s

theorem State.prune_same (s : State) : s.SameRecords s.prune := s.claimsFollow_same.trans (State.withArb_same _ _)

theorem State.joinOf_same (s : State) (m : Motion) : s.SameRecords (s.joinOf m) :=
  (s.withArb_same _).ite (State.SameRecords.refl s)

theorem State.joins_same (s : State) : s.SameRecords s.joins := by
  unfold State.joins
  exact State.SameRecords.foldl State.joinOf_same _ s

theorem State.grantTo_same (s : State) (m : Motion) (c : Option Motion) (n : Nat) (i : Fin 12) :
    s.SameRecords (s.grantTo m c n i) :=
  ((s.onGen_same _ _).trans (State.withArb_same _ _)).trans (State.prune_same _)

theorem State.grantOne_same {s t : State} (h : s.grantOne = some t) : s.SameRecords t := by
  unfold State.grantOne at h
  split at h
  · cases h
  · split at h
    · cases h
    · cases h
      exact s.grantTo_same _ _ _ _

theorem State.grantLoop_same (n : Nat) (s : State) : s.SameRecords (State.grantLoop n s) := by
  induction n generalizing s with
  | zero => exact State.SameRecords.refl s
  | succ n ih =>
    unfold State.grantLoop
    split
    · exact State.SameRecords.refl s
    · next t h => exact (State.grantOne_same h).trans (ih t)

theorem State.recallHolds_same (n : Nat) (s : State) : s.SameRecords (State.recallHolds n s) := by
  induction n generalizing s with
  | zero => exact State.SameRecords.refl s
  | succ n ih =>
    unfold State.recallHolds
    split
    · exact State.SameRecords.refl s
    · exact (s.endHold_same _).ite ((s.endHold_same _).trans (ih _))

theorem State.recall_same (s : State) : s.SameRecords s.recall :=
  (State.recallHolds_same 3 s).ite (State.SameRecords.refl s)

theorem State.arbRun_same (n : Nat) (s : State) : s.SameRecords (State.arbRun n s) := by
  induction n generalizing s with
  | zero => exact State.SameRecords.refl s
  | succ n ih =>
    exact ((State.grantLoop_same 12 s).trans ((State.recall_same _).trans (ih _))).ite (State.grantLoop_same 12 s)

theorem State.arbitrate_same (s0 s : State) : s.SameRecords (State.arbitrate s0 s) := by
  have h : s.SameRecords s.prune.joins := s.prune_same.trans (State.joins_same _)
  exact ((h.trans (State.arbRun_same 4 _)).trans (State.prune_same _)).ite h

theorem State.starvedFollows_same (s : State) (m : Motion) : s.SameRecords (s.starvedFollows m) :=
  (State.SameRecords.refl s).ite (s.clearCondition_same _)

theorem State.starvedSync_same (s : State) : s.SameRecords s.starvedSync := by
  unfold State.starvedSync
  exact State.SameRecords.foldl State.starvedFollows_same _ s

/-! ### The end of a change -/

theorem State.resolverFollow_same (s : State) : s.SameRecords s.resolverFollow := s.withRes_same _

theorem State.settleInRun_same (s0 s : State) : s.SameRecords (State.settleInRun s0 s) :=
  (((((s.syncConditions_same.trans (State.resolverFollow_same _)).trans (State.passes_same _)).trans
    (State.arbitrate_same _ _)).trans (State.passes_same _)).trans (State.starvedSync_same _)).trans (State.compose_same _)

/-- The completion of a change leaves the records of `SameRecords` alone. -/
theorem State.settle_same (s0 s : State) : s.SameRecords (State.settle s0 s) := by
  unfold State.settle
  split
  · exact (s.syncConditions_same.trans (State.resolverFollow_same _)).ite (State.settleInRun_same s0 s)
  · exact State.SameRecords.refl s
  · exact State.SameRecords.refl s

/-- An event on a running part completes its own effect. -/
theorem State.event_runs (s : State) (f : State → State) (h : s.power = .running) :
    s.event f = State.settle s (f s) := by
  unfold State.event; rw [h]

/-- A level event on a running part moves the level, acts and completes its own effect. -/
theorem State.levelEvent_runs (s : State) (l : Inputs → Inputs) (f : State → State) (h : s.power = .running) :
    s.levelEvent l f = State.settle s (f { s with inputs := l s.inputs }) := by
  unfold State.levelEvent; simp only [h]

/-- A frame that completes on a running part with no answer in progress is taken, and the change is completed. -/
theorem State.frameTaken_runs (s : State) (p : Port) (take : State → State) (h : s.power = .running)
    (ha : (s.ports.get p).answer = none) :
    s.frameTaken p take = State.settle s (take ((s.hunt p).cabFrame p)) := by
  have hb : s.answering p = false := by unfold State.answering; rw [ha]; rfl
  unfold State.frameTaken; rw [h]; simp only [hb]; rfl

end Sys2Proof.Machine
end

