-- ==== Sys2Proof/WellFormed.lean ====
section
/-! DEFINITION. What a command can be on the lines of the part: a frame carries at most 62 field bytes (R161), an
UNKNOWN frame a code outside the list of R167, an abandoned length byte a length outside 2–64 (R161), a shelf minute an
alarm key of R137. -/

namespace Sys2Proof

/-- The length byte of a frame counts its tag, its code and its fields, and is at most 64 (R161). -/
def Frame.wellFormed (f : Frame) : Bool := decide (f.fields.length ≤ 62)

/-- A command that the lines of the part can deliver. -/
def Instr.wellFormed (i : Instr) : Bool :=
  match i with
  | .unknown f code => f.wellFormed && decide (code.toNat = 0 ∨ 26 < code.toNat)
  | .lengthOutOfRange _ length => decide (length.toNat < 2 ∨ 64 < length.toNat)
  | .shelfMinute key => key.listed
  | .read f | .next f | .status f | .demand f | .arm f | .stopAll f | .parkMachine f | .walk f => f.wellFormed
  | .walkHalt f | .walkResume f | .walkCancel f | .writeZone f | .retireZone f | .confirmZones f => f.wellFormed
  | .flushCache f | .referenceReset f | .acknowledge f | .shelve f | .unshelve f | .setAnnounce f => f.wellFormed
  | .lockOutGenerator f | .returnGenerator f | .openGuard f | .writeConstant f | .commit f | .restart f => f.wellFormed
  | .check _ _ _ | .frameGap _ _ | .lineBreakOrFramingError _ | .frameDiscarded _ | .answerSent _ => true
  | .guardWindowEnd | .cabLinkPeriodEnd => true
  | .quadratureCount _ _ _ | .countDirectionCount _ _ _ | .quadratureError _ | .rateWindowEnd _ => true
  | .referenceSwitchMake _ | .referenceSwitchBreak _ | .encoderIndex _ | .camIndex => true
  | .tubLiftOff | .tubSetDown | .scrubVisit _ | .resolutionEnd => true
  | .closureProof _ _ | .dropOutProof _ _ | .strayOrLostProof _ _ _ | .lockedOutProofChange _ _ _ => true
  | .openingProofTimeEnd _ | .failedClose _ | .releaseHoldExpiry _ | .starveTimeEnd _ => true
  | .brakeReleaseProof _ | .brakeSetProof _ | .releaseProofLost _ | .brakeLiftWithoutCommand _ => true
  | .brakeReleaseTimeEnd _ | .brakeSetTimeEnd _ | .stopTimeout _ => true
  | .prepareTimeout | .phaseTimeout | .dwellEnd => true
  | .emergencyStopInput _ | .mainsLoss | .mainsReturn | .holdupExhausted => true
  | .markerWriteDone | .commitWriteEnd _ | .powerOn | .resetLine | .settingsLoadEnd => true

end Sys2Proof
end

