-- ==== Sys2Proof/Laws/PerInstr.lean ====
section
/-! SUPPORT. The family F of lemmas about a command as syntax, one for each constructor: its request code is the code
that R167 gives it, and a request carries a frame, of at most 62 field bytes when it is well formed. -/

namespace Sys2Proof.Laws.F

open Sys2Proof.Machine

/-- A command is a request of R167 exactly when it has a request code, under that code; a request carries a frame, and
every frame of a well-formed command has at most 62 field bytes (R161, R167). -/
def Statement (i : Instr) : Prop :=
  i.requestCode = (requestSpec? i).map (fun q => q.code.toNat) ∧
    (i.requestCode.isSome = true → i.frame?.isSome = true) ∧
    ∀ f, i.frame? = some f → i.wellFormed = true → f.fields.length ≤ 62

/-- A command without a frame and without a code keeps the statement. -/
theorem of_no_frame (i : Instr) (hc : i.requestCode = none) (hs : requestSpec? i = none) (hf : i.frame? = none) :
    Statement i := by
  refine ⟨by rw [hc, hs]; rfl, fun h => ?_, fun f h => ?_⟩
  · rw [hc] at h; cases h
  · rw [hf] at h; cases h

/-- A request keeps the statement when its code is the one of its row. -/
theorem of_request (i : Instr) (g : Frame) (hc : i.requestCode = (requestSpec? i).map (fun q => q.code.toNat))
    (hf : i.frame? = some g) (hw : i.wellFormed = g.wellFormed) : Statement i := by
  refine ⟨hc, fun _ => by rw [hf]; rfl, fun f h w => ?_⟩
  rw [hf] at h
  cases h
  rw [hw] at w
  exact of_decide_eq_true w

theorem read (f : Frame) : Statement (.read f) := of_request _ f rfl rfl rfl

theorem next (f : Frame) : Statement (.next f) := of_request _ f rfl rfl rfl

theorem status (f : Frame) : Statement (.status f) := of_request _ f rfl rfl rfl

theorem demand (f : Frame) : Statement (.demand f) := of_request _ f rfl rfl rfl

theorem arm (f : Frame) : Statement (.arm f) := of_request _ f rfl rfl rfl

theorem stopAll (f : Frame) : Statement (.stopAll f) := of_request _ f rfl rfl rfl

theorem parkMachine (f : Frame) : Statement (.parkMachine f) := of_request _ f rfl rfl rfl

theorem walk (f : Frame) : Statement (.walk f) := of_request _ f rfl rfl rfl

theorem walkHalt (f : Frame) : Statement (.walkHalt f) := of_request _ f rfl rfl rfl

theorem walkResume (f : Frame) : Statement (.walkResume f) := of_request _ f rfl rfl rfl

theorem walkCancel (f : Frame) : Statement (.walkCancel f) := of_request _ f rfl rfl rfl

theorem writeZone (f : Frame) : Statement (.writeZone f) := of_request _ f rfl rfl rfl

theorem retireZone (f : Frame) : Statement (.retireZone f) := of_request _ f rfl rfl rfl

theorem confirmZones (f : Frame) : Statement (.confirmZones f) := of_request _ f rfl rfl rfl

theorem flushCache (f : Frame) : Statement (.flushCache f) := of_request _ f rfl rfl rfl

theorem referenceReset (f : Frame) : Statement (.referenceReset f) := of_request _ f rfl rfl rfl

theorem acknowledge (f : Frame) : Statement (.acknowledge f) := of_request _ f rfl rfl rfl

theorem shelve (f : Frame) : Statement (.shelve f) := of_request _ f rfl rfl rfl

theorem unshelve (f : Frame) : Statement (.unshelve f) := of_request _ f rfl rfl rfl

theorem setAnnounce (f : Frame) : Statement (.setAnnounce f) := of_request _ f rfl rfl rfl

theorem lockOutGenerator (f : Frame) : Statement (.lockOutGenerator f) := of_request _ f rfl rfl rfl

theorem returnGenerator (f : Frame) : Statement (.returnGenerator f) := of_request _ f rfl rfl rfl

theorem openGuard (f : Frame) : Statement (.openGuard f) := of_request _ f rfl rfl rfl

theorem writeConstant (f : Frame) : Statement (.writeConstant f) := of_request _ f rfl rfl rfl

theorem commit (f : Frame) : Statement (.commit f) := of_request _ f rfl rfl rfl

theorem restart (f : Frame) : Statement (.restart f) := of_request _ f rfl rfl rfl

theorem unknown (f : Frame) (code : Byte) : Statement (.unknown f code) := by
  refine ⟨rfl, fun h => (by cases h), fun g h w => ?_⟩
  cases h
  simp only [Instr.wellFormed, Bool.and_eq_true] at w
  exact of_decide_eq_true w.1

theorem check (p : Port) (tag : Byte) (code : Byte) : Statement (.check p tag code) := of_no_frame _ rfl rfl rfl

theorem lengthOutOfRange (p : Port) (length : Byte) : Statement (.lengthOutOfRange p length) := of_no_frame _ rfl rfl rfl

theorem frameGap (p : Port) (byte : Byte) : Statement (.frameGap p byte) := of_no_frame _ rfl rfl rfl

theorem lineBreakOrFramingError (p : Port) : Statement (.lineBreakOrFramingError p) := of_no_frame _ rfl rfl rfl

theorem frameDiscarded (p : Port) : Statement (.frameDiscarded p) := of_no_frame _ rfl rfl rfl

theorem answerSent (p : Port) : Statement (.answerSent p) := of_no_frame _ rfl rfl rfl

theorem guardWindowEnd : Statement .guardWindowEnd := of_no_frame _ rfl rfl rfl

theorem cabLinkPeriodEnd : Statement .cabLinkPeriodEnd := of_no_frame _ rfl rfl rfl

theorem quadratureCount (c : Motion) (input : EncoderInput) (level : Bool) : Statement (.quadratureCount c input level) := of_no_frame _ rfl rfl rfl

theorem countDirectionCount (c : Motion) (input : EncoderInput) (level : Bool) : Statement (.countDirectionCount c input level) := of_no_frame _ rfl rfl rfl

theorem quadratureError (c : Motion) : Statement (.quadratureError c) := of_no_frame _ rfl rfl rfl

theorem rateWindowEnd (c : Motion) : Statement (.rateWindowEnd c) := of_no_frame _ rfl rfl rfl

theorem referenceSwitchMake (c : Dig) : Statement (.referenceSwitchMake c) := of_no_frame _ rfl rfl rfl

theorem referenceSwitchBreak (c : Dig) : Statement (.referenceSwitchBreak c) := of_no_frame _ rfl rfl rfl

theorem encoderIndex (c : Dig) : Statement (.encoderIndex c) := of_no_frame _ rfl rfl rfl

theorem camIndex : Statement .camIndex := of_no_frame _ rfl rfl rfl

theorem tubLiftOff : Statement .tubLiftOff := of_no_frame _ rfl rfl rfl

theorem tubSetDown : Statement .tubSetDown := of_no_frame _ rfl rfl rfl

theorem scrubVisit (faults : List StorageFault) : Statement (.scrubVisit faults) := of_no_frame _ rfl rfl rfl

theorem resolutionEnd : Statement .resolutionEnd := of_no_frame _ rfl rfl rfl

theorem closureProof (g : Fin 12) (loop : Motion) : Statement (.closureProof g loop) := of_no_frame _ rfl rfl rfl

theorem dropOutProof (g : Fin 12) (loop : Motion) : Statement (.dropOutProof g loop) := of_no_frame _ rfl rfl rfl

theorem strayOrLostProof (g : Fin 12) (loop : Motion) (present : Bool) : Statement (.strayOrLostProof g loop present) := of_no_frame _ rfl rfl rfl

theorem lockedOutProofChange (g : Fin 12) (loop : Motion) (present : Bool) : Statement (.lockedOutProofChange g loop present) := of_no_frame _ rfl rfl rfl

theorem openingProofTimeEnd (g : Fin 12) : Statement (.openingProofTimeEnd g) := of_no_frame _ rfl rfl rfl

theorem failedClose (g : Fin 12) : Statement (.failedClose g) := of_no_frame _ rfl rfl rfl

theorem releaseHoldExpiry (m : Dig) : Statement (.releaseHoldExpiry m) := of_no_frame _ rfl rfl rfl

theorem starveTimeEnd (m : Motion) : Statement (.starveTimeEnd m) := of_no_frame _ rfl rfl rfl

theorem brakeReleaseProof (m : Motion) : Statement (.brakeReleaseProof m) := of_no_frame _ rfl rfl rfl

theorem brakeSetProof (m : Motion) : Statement (.brakeSetProof m) := of_no_frame _ rfl rfl rfl

theorem releaseProofLost (m : Motion) : Statement (.releaseProofLost m) := of_no_frame _ rfl rfl rfl

theorem brakeLiftWithoutCommand (m : Motion) : Statement (.brakeLiftWithoutCommand m) := of_no_frame _ rfl rfl rfl

theorem brakeReleaseTimeEnd (m : Motion) : Statement (.brakeReleaseTimeEnd m) := of_no_frame _ rfl rfl rfl

theorem brakeSetTimeEnd (m : Motion) : Statement (.brakeSetTimeEnd m) := of_no_frame _ rfl rfl rfl

theorem stopTimeout (m : Motion) : Statement (.stopTimeout m) := of_no_frame _ rfl rfl rfl

theorem prepareTimeout : Statement .prepareTimeout := of_no_frame _ rfl rfl rfl

theorem phaseTimeout : Statement .phaseTimeout := of_no_frame _ rfl rfl rfl

theorem dwellEnd : Statement .dwellEnd := of_no_frame _ rfl rfl rfl

theorem emergencyStopInput (stop : Bool) : Statement (.emergencyStopInput stop) := of_no_frame _ rfl rfl rfl

theorem shelfMinute (key : AlarmKey) : Statement (.shelfMinute key) := of_no_frame _ rfl rfl rfl

theorem mainsLoss : Statement .mainsLoss := of_no_frame _ rfl rfl rfl

theorem mainsReturn : Statement .mainsReturn := of_no_frame _ rfl rfl rfl

theorem holdupExhausted : Statement .holdupExhausted := of_no_frame _ rfl rfl rfl

theorem markerWriteDone : Statement .markerWriteDone := of_no_frame _ rfl rfl rfl

theorem commitWriteEnd (left : Option Image) : Statement (.commitWriteEnd left) := of_no_frame _ rfl rfl rfl

theorem powerOn : Statement .powerOn := of_no_frame _ rfl rfl rfl

theorem resetLine : Statement .resetLine := of_no_frame _ rfl rfl rfl

theorem settingsLoadEnd : Statement .settingsLoadEnd := of_no_frame _ rfl rfl rfl

end Sys2Proof.Laws.F
end

