-- ==== Sys2Proof/Tests/Slice0.lean ====
section
/-! SUPPORT. The model's own tests: what the well-formedness check refuses, the cold start, single steps of the manual's
examples, and for every statement of Certificates/Slice0/Obligations.lean that has hypotheses a concrete state and
operands that meet them. -/

namespace Sys2Proof.Tests

-- One theorem at a time: a thread for each kernel evaluation would not fit in memory beside the package's one text.
set_option Elab.async false

open Sys2Proof Sys2Proof.Machine

/-! ### Helpers -/

/-- A frame with tag 7. -/
def frame (p : Port) (fields : List Byte) : Frame := ⟨p, 7, fields⟩

/-- The next state of an outcome. -/
def nextOf (o : Host.Outcome State Fault Refusal) : Option State :=
  match o with
  | .next t => some t
  | .fault _ => none
  | .refused _ => none

/-- What a command makes of a state. -/
def after (c : Instr) (s : State) : State := (nextOf (exec c s)).getD s

/-- The status and the reason a port is answering with. -/
def answerOf (s : State) (p : Port) : Option (Status × Reason) := (s.ports.get p).answer.map fun a => (a.status, a.reason)

theorem forall_motion {p : Motion → Prop} : (∀ m, p m) ↔ p .hoist ∧ p .drag ∧ p .swing ∧ p .walk :=
  ⟨fun h => ⟨h _, h _, h _, h _⟩, fun h m => by cases m; exacts [h.1, h.2.1, h.2.2.1, h.2.2.2]⟩

theorem forall_dig {p : Dig → Prop} : (∀ m, p m) ↔ p .hoist ∧ p .drag ∧ p .swing :=
  ⟨fun h => ⟨h _, h _, h _⟩, fun h m => by cases m; exacts [h.1, h.2.1, h.2.2]⟩

/-- Every alarm record of a state has a class its code can have, as a check. -/
def classesOk (s : State) : Bool :=
  s.alarms.slots.cells.all fun o =>
    match o with
    | some r =>
      decide (r.cls = baseClass r.key.code ∨ ((threshold r.key.code).isSome = true ∧ r.cls ≠ .trip ∧
        r.cls.rank ≤ (baseClass r.key.code).rank))
    | none => true

theorem classesLegal_of (s : State) (h : classesOk s = true) : s.ClassesLegal := by
  intro r hr
  have := List.all_eq_true.1 h _ hr
  have law := of_decide_eq_true this
  exact law

/-- Every condition that follows a record is at the truth of its cause, as a check. -/
def conditionsOk (s : State) : Bool :=
  (Motion.all.all fun c => (s.isTrue ⟨6, c.number⟩ == decide ((s.chans.ch.get c).refState = .suspect)) &&
      (s.isTrue ⟨7, c.number⟩ == decide ((s.chans.ch.get c).refState = .unreferenced))) &&
    (decide (∀ i : Fin 40, s.isTrue ⟨15, i.val⟩ = true ↔ (s.zones.slots.get i).state = .defective) &&
      decide (s.isTrue ⟨16, 0⟩ = true ↔ ∃ i : Fin 40, (s.zones.slots.get i).state = .stale)) &&
    decide (∀ g : Fin 12, (s.isTrue ⟨10, g.val + 1⟩ = true ↔ (s.gens.get g).keepsTrying = true) ∧
      (s.isTrue ⟨11, g.val + 1⟩ = true ↔ (s.gens.get g).showsWeld (s.proofs g) = true) ∧
      (s.isTrue ⟨12, g.val + 1⟩ = true ↔ (s.gens.get g).isLockedOut = true))

theorem conditionsFollow_of (s : State) (h : conditionsOk s = true) : s.ConditionsFollow := by
  simp only [conditionsOk, Bool.and_eq_true] at h
  have zones := of_decide_eq_true h.1.2.1
  have stale := of_decide_eq_true h.1.2.2
  have gens := of_decide_eq_true h.2
  refine ⟨fun c => ?_, ⟨zones, stale⟩, gens⟩
  have := List.all_eq_true.1 h.1.1 c (by cases c <;> decide)
  simp only [Bool.and_eq_true, beq_iff_eq] at this
  rw [this.1, this.2]
  exact ⟨decide_eq_true_iff, decide_eq_true_iff⟩

/-- The dig motion records are lawful, as a check. -/
def motionsOk (s : State) : Bool :=
  Dig.all.all fun m =>
    let r := s.motions.get m
    decide ((r.state ≠ .acquiring → r.state ≠ .ready → r.demand = none ∧ r.permit = none ∧ r.holdReason = none) ∧
      (r.state = .acquiring ∨ r.state = .ready → r.demand.isSome = true) ∧
      (r.holdStart.isSome = true → r.state = .releasing) ∧ (r.tripCause.isSome = true ↔ r.state = .tripped))

theorem motionsLawful_of (s : State) (h : motionsOk s = true) : s.MotionsLawful := by
  intro m
  have := List.all_eq_true.1 h m (by cases m <;> decide)
  have law := of_decide_eq_true this
  exact law

/-! ### The states of the tests -/

/-- A channel that is REFERENCED and stopped. -/
def quietChan (position : Int) : Chan :=
  { Chan.cold 100 with position := position, refState := .referenced, quietWindows := 3 }

/-- Reset with every channel REFERENCED and stopped, HOIST at the grounded payout. -/
def quiet : State :=
  { State.reset with
    chans := { State.reset.chans with ch := ⟨quietChan 600000, quietChan 0, quietChan 0, quietChan 0⟩ }
    alarms := Alarms.cold }

/-- Generator number `i + 1` in a state, with its closed-on-loop proofs. -/
def withGen (i : Fin 12) (st : GenState) (proofs : PerMotion Bool) (s : State) : State :=
  { s with gens := s.gens.set i ⟨st, 0⟩, inputs := { s.inputs with proof := s.inputs.proof.set i proofs } }

/-- The proof of the loop of one motion. -/
def only (m : Motion) : PerMotion Bool := (PerMotion.const false).set m true

/-- Two generators GRANTED to a motion. -/
def leased (m : Motion) (s : State) : State := withGen 0 (.granted m) (only m) (withGen 1 (.granted m) (only m) s)

/-- A brake in a sub-state, its proof showing released or not. -/
def withBrake (m : Motion) (st : BrakeState) (released : Bool) (s : State) : State :=
  { s.onBrake m fun b => { b with state := st } with
    inputs := { s.inputs with brakeProof := s.inputs.brakeProof.set m released } }

/-- HOIST in READY with a PLUS demand on its minimum complement, from the unreferenced channels of reset; its brake in a
sub-state. -/
def hoistReady (b : BrakeState) (permit : Option Dir) (s : State) : State :=
  withBrake .hoist b (decide (b = .released))
    ((leased .hoist s).onMotion .hoist fun r => { r with state := .ready, demand := some .plus, permit := permit })

/-- A dig motion TRIPPED by the emergency stop. -/
def tripped (m : Dig) (s : State) : State :=
  s.onMotion m fun r => { r with state := .tripped, tripCause := some ⟨⟨1, 0⟩, .trip⟩ }

/-- Every dig motion in a state. -/
def digsIn (st : MotionState) (s : State) : State := { s with motions := s.motions.map fun r => { r with state := st } }

/-- A walk of three steps toward PLUS in a state, LOCKED dig motions beside it. -/
def walking (st : WalkState) (phase : Option Phase) (s : State) : State :=
  digsIn .locked (s.onWalk fun w =>
    { w with state := st, phase := phase, heading := some 0, stepsRequested := some 3 })

/-- The part in HOLDUP. -/
def onBackup (s : State) : State :=
  { s with supply := { s.supply with state := .holdup }, inputs := { s.inputs with mains := false } }

/-- The part loading from the factory image. -/
def loading : State := State.dark .loading [] ⟨some Image.factory, .clear, none⟩ Inputs.atRest

/-- The guard open. -/
def guarded (s : State) : State := { s with guardLeft := some 30000 }

/-- An answer in progress on a port. -/
def answering (p : Port) (a : AfterSent) (s : State) : State :=
  { s with ports := s.ports.set p { s.ports.get p with answer := some ⟨7, 23, .done, .none, [], a⟩ } }

/-- A SITE zone over the whole swing, IN FORCE or STALE. -/
def siteSlot (st : ZoneState) (revision : BitVec 16) : ZoneSlot :=
  ⟨st, revision, some ⟨0, 4096⟩, ⟨.site, false, 0, 31, 0, 31, .const .both, []⟩, .sound⟩

/-- A slot of the zone table replaced. -/
def withSlot (i : Fin 40) (z : ZoneSlot) (s : State) : State :=
  { s with zones := { s.zones with slots := s.zones.slots.set i z } }

/-- An alarm record in slot 0. -/
def withRecord (r : AlarmRec) (s : State) : State := { s with alarms := s.alarms.setSlot 0 (some r) }

/-! ### What the well-formedness check refuses -/

theorem test_wf_refuses_long_request : (Instr.read (frame .cab (List.replicate 63 0))).wellFormed = false := by decide
theorem test_wf_accepts_longest_request : (Instr.read (frame .cab (List.replicate 62 0))).wellFormed = true := by decide
theorem test_wf_refuses_long_restart : (Instr.restart (frame .service (List.replicate 63 0))).wellFormed = false := by decide
theorem test_wf_refuses_long_unknown : (Instr.unknown (frame .cab (List.replicate 63 0)) 99).wellFormed = false := by decide
theorem test_wf_refuses_listed_code : (Instr.unknown (frame .cab []) 26).wellFormed = false := by decide
theorem test_wf_accepts_unlisted_codes :
    (Instr.unknown (frame .cab []) 0).wellFormed = true ∧ (Instr.unknown (frame .cab []) 27).wellFormed = true := by decide
theorem test_wf_refuses_length_in_range :
    (Instr.lengthOutOfRange .cab 2).wellFormed = false ∧ (Instr.lengthOutOfRange .cab 64).wellFormed = false := by decide
theorem test_wf_accepts_length_out_of_range :
    (Instr.lengthOutOfRange .cab 1).wellFormed = true ∧ (Instr.lengthOutOfRange .cab 65).wellFormed = true := by decide
theorem test_wf_refuses_unlisted_key : (Instr.shelfMinute ⟨22, 0⟩).wellFormed = false := by decide
theorem test_no_word_is_a_command : decodeTableWord 8 1 = none := rfl

/-! ### Single steps -/

set_option maxRecDepth 20000

theorem test_load_end_is_reset : nextOf (exec .settingsLoadEnd loading) = some State.reset := by decide +kernel

theorem test_factory_image_passes : constantsPass Constants.defaults = true := by decide +kernel

theorem test_check_of_text : crc [0x31, 0x32, 0x33, 0x34, 0x35, 0x36, 0x37, 0x38, 0x39] = 0x29B1 := by decide +kernel

theorem test_hoist_plus_goes_down :
    (after (.quadratureCount .hoist .a true) State.reset).chans.ch.hoist.position = -1 ∧
      (after (.quadratureCount .hoist .b true) State.reset).chans.ch.hoist.position = 1 := by decide +kernel

theorem test_swing_wraps :
    (after (.quadratureCount .swing .b true) State.reset).chans.ch.swing.position = 65535 ∧
      (after (.quadratureCount .swing .b true) State.reset).chans.turns = 65535 := by decide +kernel

theorem test_demand_acquires :
    let t := after (.demand (frame .cab [1, 1, 0])) State.reset
    (t.motions.hoist.state, t.held .hoist, t.proven .hoist) = (.acquiring, 2, 0) ∧ answerOf t .cab = some (.done, .none) := by
  decide +kernel

theorem test_closure_proofs_make_ready :
    let t := after (.closureProof 1 .hoist) (after (.closureProof 0 .hoist) (after (.demand (frame .cab [1, 1, 0]))
      State.reset))
    (t.motions.hoist.state, t.motions.hoist.brake.state, t.proven .hoist) = (.ready, .releasing, 2) := by decide +kernel

theorem test_release_proof_asserts_permit :
    (after (.brakeReleaseProof .hoist) (hoistReady .releasing none State.reset)).permitLine .hoist .plus = true := by
  decide +kernel

theorem test_late_release_proof_is_no_lift :
    let t := after (.demand (frame .cab [1, 0, 0])) (hoistReady .releasing none State.reset)
    let u := after (.brakeReleaseProof .hoist) t
    ((t.brake .hoist).state, (t.brake .hoist).late) = (.set, some t.k.brakeProofTime) ∧
      ((u.brake .hoist).state, (u.brake .hoist).proofTimer, u.isTrue ⟨9, 1⟩) =
        (.setting, some t.k.brakeProofTime, false) := by decide +kernel

theorem test_lift_at_return_keeps_cause :
    let t := after .mainsReturn (withBrake .drag .set true
      (onBackup ((tripped .drag quiet).onMotion .drag fun r => { r with tripCause := some ⟨⟨5, 2⟩, .stop⟩ })))
    (t.motions.drag.tripCause, t.motions.drag.brake.state, t.isTrue ⟨9, 2⟩) =
      (some ⟨⟨5, 2⟩, .stop⟩, .setting, true) := by decide +kernel

/-- The key looked up at a return is in flight under the epoch before the return's staleness marking (R158). -/
theorem test_return_looks_up_before_marking :
    let t := after .mainsReturn (onBackup (withSlot 3 (siteSlot .inForce 1)
      { quiet with res := quiet.res.atEntry, walk := { quiet.walk with lifted := true } }))
    (t.res.inFlight.map InFlight.epoch, t.zones.epoch) = (some 1, 2) := by decide +kernel

/-- A brake SETTING whose proof shows set is SET at step 3 of a return (R158). -/
theorem test_return_sets_brake_that_shows_set :
    let s := withBrake .walk .setting false (onBackup quiet)
    ((s.brakeReturns .walk).brake .walk).state = .set := by decide +kernel

/-- UNREFERENCED ends before COUNT JUMP begins, so its record makes room in a full table (R17, R145). -/
theorem test_suspect_makes_room :
    let fill := fun (a : Alarms) (i : Nat) => if i < 4 then a else a.setSlot i (some (AlarmRec.fresh ⟨14, 5⟩ 0))
    let full := (List.range 47).foldl fill State.reset.alarms
    let t := after (.quadratureError .hoist) { State.reset with alarms := full }
    (t.isTrue ⟨6, 1⟩, t.isTrue ⟨7, 1⟩, (t.alarms.slotOf ⟨6, 1⟩).isSome, t.alarms.anyUnrecorded) =
      (true, false, true, false) := by decide +kernel

/-- A late release proof in DWELL: the dwell time waits for the set proof again (R124). -/
theorem test_late_release_puts_off_dwell :
    let w : WalkRec := { quiet.walk with
      state := .stepping, phase := some .dwell, dwellTimer := some 900, stepsRequested := some 3
      brake := { Brake.cold with late := some 300 } }
    let s := { quiet with walk := w }
    let t := after (.brakeReleaseProof .walk) s
    (t.walk.dwellTimer, t.walk.brake.state, (after (.brakeSetProof .walk) t).walk.dwellTimer) =
      (none, .setting, some (s.k.dwellTenths * 100)) := by decide +kernel

theorem test_scan_raises_in_index_order :
    let t := after .resolutionEnd (withSlot 2 { siteSlot .inForce 1 with fault := .uncorrectable }
      (withSlot 5 { siteSlot .inForce 1 with fault := .single }
        { quiet with res := { quiet.res with inFlight := some ⟨quiet.presentKey, 1⟩ } }))
    (t.alarms.slotOf ⟨15, 2⟩, t.alarms.slotOf ⟨14, 5⟩) = (some 0, some 1) := by decide +kernel

theorem test_mains_loss_trips :
    (after .mainsLoss (hoistReady .released (some .plus) State.reset)).motions.hoist.tripCause = some ⟨⟨3, 0⟩, .warn⟩ := by
  decide +kernel

theorem test_wrong_port : answerOf (after (.demand (frame .service [1, 1, 0])) State.reset) .service =
    some (.wrongPort, .none) := by decide +kernel

theorem test_guarded : answerOf (after (.commit (frame .service [])) State.reset) .service = some (.guarded, .none) := by
  decide +kernel

theorem test_status_names_part :
    (after (.status (frame .service [])) State.reset).ports.service.answer.map (fun a => a.body.take 5) =
      some [0x53, 0x44, 0x34, 0x31, 0x30] := by decide +kernel

/-! ### Witnesses: the hypotheses of each statement are met

The state and the operands of each are concrete; where a statement has several clauses each has its own. -/

/-- A closing move without a proof yet, for a holder or for none. -/
def closing (holder : Option Motion) (pend : Option PendingCause) : GenState :=
  .moving { holder := holder, step := .closing, on := .hoist, loop := none, target := some .hoist, afterFail := .no,
            lockPending := pend, keepTrying := false, seq := 0, timer := some 400 }

/-- An opening move from the HOIST loop. -/
def opening (holder target : Option Motion) (pend : Option PendingCause) : GenState :=
  .moving { holder := holder, step := .opening, on := .hoist, loop := some .hoist, target := target, afterFail := .no,
            lockPending := pend, keepTrying := false, seq := 0, timer := some 400 }

/-- A state of the invariants' witnesses: HOIST running PLUS, with a command waiting. -/
def running : State := { hoistReady .released (some .plus) State.reset with pending := [.brakeSetTimeEnd .drag] }

theorem running_steps : ∃ t, step running = .next t := ⟨_, rfl⟩

theorem witness_StepRunsFrontCommand : running.pending = .brakeSetTimeEnd .drag :: [] := rfl

theorem witness_IdleStepIsOneMillisecond : State.reset.pending = [] ∧ State.reset.OnMains := ⟨rfl, rfl, rfl⟩

theorem running_channels : running.ChannelsInRange ∧ running.SuspectHasCause := by
  refine ⟨⟨by decide +kernel, ⟨by decide, by decide⟩, ⟨by decide, by decide⟩, ⟨by decide, by decide⟩, by decide, by decide,
    forall_motion.2 ⟨?_, ?_, ?_, ?_⟩⟩, forall_motion.2 ⟨by decide, by decide, by decide, by decide⟩⟩ <;>
  exact ⟨⟨by decide, by decide⟩, ⟨by decide, by decide⟩, by decide⟩

theorem witness_ChannelsStayInRange :
    running.ChannelsInRange ∧ running.SuspectHasCause ∧ ∃ t, step running = .next t :=
  ⟨running_channels.1, running_channels.2, running_steps⟩

/-- A lawful slot in each of its states, and a store whose image has one zone. -/
def zoned : State :=
  { withSlot 0 (siteSlot .stale 65535) (withSlot 1 (siteSlot .inForce 1) (withSlot 2
      { siteSlot .defective 7 with body := ZoneBody.cleared } running)) with
    store := ⟨some ⟨Constants.defaults, (Table.const 40 .empty).setAt 0 (.zone 3 ⟨0, 4096⟩ (siteSlot .stale 3).body)⟩,
      .clear, none⟩ }

theorem witness_ZonesStayLawful : zoned.ZonesLawful ∧ ∃ t, step zoned = .next t := by
  have slots : ∀ z ∈ zoned.zones.slots.cells, (z.state = .empty → z.revision = 0 ∧ z.window = none) ∧
      (z.state ≠ .empty → z.revision ≠ 0 ∧ z.window.isSome = true) ∧ (z.state = .stale → z.body.kind = .site) := by
    decide +kernel
  refine ⟨⟨slots, fun i h => ?_, fun c h => (by cases h), fun c h => ?_⟩, _, rfl⟩
  · cases h
    intro z hz
    have : z = .empty ∨ z = .zone 3 ⟨0, 4096⟩ (siteSlot .stale 3).body := by
      revert z
      decide +kernel
    rcases this with rfl | rfl
    · trivial
    · show (3 : BitVec 16) ≠ 0
      decide
  · have : c = .brakeSetTimeEnd .drag := by simpa [zoned, withSlot, running] using h
    subst this
    trivial

theorem running_conditions : running.ConditionsFollow := conditionsFollow_of _ (by decide +kernel)

theorem witness_ChannelAndZoneConditionsFollow :
    (running.Runs → running.ChannelConditions ∧ running.ZoneConditions) ∧
      ∃ t, step running = .next t ∧ t.Runs :=
  ⟨fun _ => ⟨running_conditions.1, running_conditions.2.1⟩, _, rfl, rfl⟩

theorem witness_GeneratorConditionsFollow :
    running.ClassesLegal ∧ (running.OnMains → running.GeneratorConditions) ∧ ∃ t, step running = .next t :=
  ⟨classesLegal_of _ (by decide +kernel), fun _ => running_conditions.2.2, running_steps⟩

theorem witness_MotionsStayLawful : running.MotionsLawful ∧ ∃ t, step running = .next t :=
  ⟨motionsLawful_of _ (by decide +kernel), running_steps⟩

theorem witness_PermitsStayLawful :
    running.PermitsLawful ∧ running.NoPermitOffMains ∧ running.ReadyLaw ∧ running.motions.hoist.permit = some .plus ∧
      ∃ t, step running = .next t := by
  refine ⟨⟨forall_dig.2 ⟨fun d h => ?_, fun d h => ?_, fun d h => ?_⟩, fun d h => ?_⟩, fun h => absurd ⟨rfl, rfl⟩ h,
    fun _ => forall_dig.2 ⟨?_, ?_, ?_⟩, rfl, running_steps⟩
  all_goals first
    | (cases d <;> revert h <;> decide +kernel)
    | decide +kernel

theorem witness_ListAndConditionsStayDistinct :
    running.ListDistinct ∧ running.ConditionsDistinct ∧ ∃ t, step running = .next t := by
  have list : (running.arb.list.map Entry.motion).Nodup := by decide +kernel
  have conditions : (running.alarms.conditions.map Condition.key).Nodup := by decide +kernel
  exact ⟨list, conditions, running_steps⟩

/-! #### Count channels -/

/-- Every channel in a count mode with a multiplier. -/
def counting (mode : CountMode) (x : Multiplier) : State :=
  { State.reset with
    k := { State.reset.k with
      channel := PerMotion.const { State.reset.k.channel.hoist with mode := mode, multiplier := x } } }

theorem witness_EncoderChangesCount :
    (∀ input level, (counting .quadrature .x4).Runs ∧
      (level = true → (counting .quadrature .x4).inputs.encoder .hoist input ≠ level)) ∧
    (counting .quadrature .x2).inputs.encoder .swing .a ≠ true ∧ (counting .quadrature .x1).inputs.encoder .walk .a ≠ true ∧
    ((counting .countDirection .x2).Runs ∧ (counting .countDirection .x2).inputs.encB.get .walk ≠ true) ∧
    (counting .countDirection .x1).inputs.encB.get .drag ≠ true ∧
    (counting .quadrature .x1).Runs ∧ ((counting .quadrature .x1).k.channel.get .swing).mode = .quadrature := by
  refine ⟨fun input level => ⟨rfl, fun h => ?_⟩, by decide, by decide, ⟨rfl, by decide⟩, by decide, rfl, rfl⟩
  subst h
  cases input <;> decide

/-- A channel's rate counter at a value. -/
def rated (n : Int) : State := State.reset.onChan .hoist fun ch => { ch with rateCounter := n }

theorem witness_WindowEndMeasuresRate :
    (rated 40000).Runs ∧ ((rated 40001).k.channel.get .hoist).plausibilityLimit <
      ((rated 40001).chans.ch.get .hoist).rateCounter.natAbs ∧
    ((rated 40000).chans.ch.get .hoist).rateCounter.natAbs ≤ ((rated 40000).k.channel.get .hoist).plausibilityLimit := by
  refine ⟨rfl, by decide, by decide⟩

theorem witness_StoppedAfterThreeQuietWindows :
    (rated 4).Runs ∧ ((after (.rateWindowEnd .hoist) (rated 4)).chans.ch.get .hoist).rate.natAbs ≤
      ((rated 4).k.channel.get .hoist).stoppedThreshold ∧
    ((rated 5).k.channel.get .hoist).stoppedThreshold <
      ((after (.rateWindowEnd .hoist) (rated 5)).chans.ch.get .hoist).rate.natAbs := by
  refine ⟨rfl, by decide +kernel, by decide +kernel⟩

/-- The drag channel last counted in a direction, its switch made and armed, with a qualifier. -/
def referencing (q : Qualifier) (d : Option Dir) : State :=
  { State.reset.onChan .drag fun ch => { ch with lastDirection := d, armed := true } with
    inputs := { State.reset.inputs with refSwitch := ⟨true, true, true⟩ }
    k := { State.reset.k with reference := PerDig.const { State.reset.k.reference.drag with qualifier := q } } }

theorem witness_SwitchAndIndexEdges :
    (referencing .switch (some .plus)).Runs ∧
    ((referencing .switch (some .plus)).chans.ch.get .drag).lastDirection =
      some ((referencing .switch (some .plus)).k.reference.get .drag).direction ∧
    (referencing .switchThenIndex (some .plus)).Runs ∧
    ((referencing .switchThenIndex (some .plus)).chans.ch.get .drag).lastDirection =
      some ((referencing .switchThenIndex (some .plus)).k.reference.get .drag).direction ∧
    ((referencing .switchThenIndex none).chans.ch.get .drag).lastDirection ≠
      some ((referencing .switchThenIndex none).k.reference.get .drag).direction ∧
    ((referencing .switchThenIndex (some .plus)).chans.ch.get .drag).armed = true ∧
    (referencing .switchThenIndex (some .plus)).inputs.refSwitch.get .drag = true := by
  refine ⟨rfl, rfl, rfl, rfl, by decide, rfl, rfl⟩

/-- The cam channel last counted in a direction, in a walk or without one. -/
def camming (d : Option Dir) : State := quiet.onChan .walk fun ch => { ch with lastDirection := d }

/-- A walk in SET DOWN whose cam channel last counted in a direction. -/
def inSetDown (d : Option Dir) : State := walking .stepping (some .setDown) (camming d)

/-- A walk whose tub has lifted in its step, at the stride position that ends the stride. -/
def atStrideEnd : State :=
  ((inSetDown (some .plus)).onWalk fun w => { w with lifted := true }).onChan .walk fun ch =>
    { ch with position := 16 * (inSetDown none).k.strideEnd }

theorem witness_CamAndTubEdgesMoveTheWalk :
    ((camming none).Runs ∧ (camming (some .plus)).chans.ch.walk.lastDirection = some (camming (some .plus)).walk.direction ∧
      (camming (some .minus)).chans.ch.walk.lastDirection = some (camming (some .minus)).walk.direction.opposite ∧
      (camming none).chans.ch.walk.lastDirection = none ∧ (camming none).walk.state = .idle) ∧
    ((inSetDown none).Runs ∧ (inSetDown none).OnMains ∧ (inSetDown none).walk.state = .stepping ∧
      (inSetDown none).walk.ending = none ∧ (inSetDown none).walk.phase ≠ some .dwell ∧
      (inSetDown (some .plus)).chans.ch.walk.lastDirection = some (inSetDown (some .plus)).walk.direction ∧
      (inSetDown (some .minus)).chans.ch.walk.lastDirection = some (inSetDown (some .minus)).walk.direction.opposite) ∧
    ((inSetDown none).walk.siteMarked = false ∧
      ((withSlot 39 (siteSlot .inForce 1) (inSetDown none)).zones.slots.get 39).state = .inForce ∧
      ((withSlot 39 (siteSlot .inForce 1) (inSetDown none)).zones.slots.get 39).body.kind = .site ∧
      ∀ i : Fin 40, ((inSetDown none).zones.slots.get i).state ≠ .inForce) ∧
    ((inSetDown none).onWalk fun w => { w with siteMarked := true }).walk.siteMarked = true ∧
    (onBackup (inSetDown none)).OnBackup ∧
    (atStrideEnd.Runs ∧ atStrideEnd.walk.state = .stepping ∧ atStrideEnd.walk.lifted = true ∧
      atStrideEnd.stride = atStrideEnd.k.strideEnd ∧ atStrideEnd.stride < atStrideEnd.k.setDownEnd) := by
  refine ⟨⟨rfl, rfl, rfl, rfl, rfl⟩, ⟨rfl, ⟨rfl, rfl⟩, rfl, rfl, by decide, rfl, rfl⟩,
    ⟨rfl, by decide +kernel, by decide +kernel, by decide +kernel⟩, rfl, ⟨rfl, rfl⟩,
    ⟨rfl, rfl, rfl, by decide +kernel, by decide +kernel⟩⟩

theorem witness_TubEdgesAreCaptured : quiet.Runs ∧ (walking .stepping (some .setDown) quiet).Runs := ⟨rfl, rfl⟩

theorem witness_ReferenceResetUnreferences :
    (quiet.Takes (frame .service [1]) .service ∧ parseChannel quiet [1] = .ok .hoist) ∧
    (parseChannel quiet [4] = .ok .walk ∧ quiet.walk.state = .idle) ∧
    (walking .interrupted (some .setDown) quiet).Takes (frame .service [4]) .service ∧
    (walking .interrupted (some .setDown) quiet).walk.state ≠ .idle := by
  refine ⟨⟨⟨⟨rfl, rfl⟩, rfl, rfl⟩, rfl⟩, ⟨rfl, rfl⟩, ⟨⟨rfl, rfl⟩, rfl, rfl⟩, by decide⟩

/-! #### Zone table and resolver -/

theorem witness_ZonesResolveKeys :
    ((siteSlot .empty 0).window = some ⟨0, 4096⟩ ∧ (siteSlot .empty 0).state = .empty) ∧
    (siteSlot .defective 1).state = .defective ∧ (siteSlot .inForce 1).state = .inForce ∧
    (siteSlot .stale 1).state = .stale ∧
    ((siteSlot .defective 1).covers ⟨63, 31, 31⟩ = true ∧ (siteSlot .defective 1).exclusionLike = true) ∧
    ((siteSlot .inForce 1).covers ⟨0, 0, 0⟩ = true ∧ (siteSlot .inForce 1).ordinary = true) ∧
    ∀ z ∈ [ZoneSlot.empty], ¬ (z.covers ⟨0, 0, 0⟩ = true ∧ z.ordinary = true) := by
  refine ⟨⟨rfl, rfl⟩, rfl, rfl, rfl, ⟨rfl, rfl⟩, ⟨rfl, rfl⟩, by decide⟩

/-- The field bytes of a WRITE ZONE of slot 39 over the whole swing, of a kind and an expected revision. -/
def zoneBytes (r1 r0 kind : Byte) : List Byte := [39, r1, r0, 0, 0, 16, 0, kind, 0, 0, 31, 0, 31, 3, 3, 3, 0]

theorem witness_WriteZoneReplacesSlot :
    (∃ w, State.reset.TakesEdit (frame .service (zoneBytes 0 0 1)) ∧
      parseWriteZone State.reset (zoneBytes 0 0 1) = .ok w ∧ w.window.base % w.window.span = 0 ∧
      w.body.dragMin ≤ w.body.dragMax ∧ w.body.hoistMin ≤ w.body.hoistMax ∧
      w.expected = (State.reset.zones.slots.get w.slot).revision ∧ State.reset.walk.state = .idle) ∧
    ∃ w, parseWriteZone (withSlot 39 (siteSlot .inForce 65535) quiet) (zoneBytes 255 255 0) = .ok w ∧
      w.expected = ((withSlot 39 (siteSlot .inForce 65535) quiet).zones.slots.get w.slot).revision ∧
      w.body.kind = .machine := by
  refine ⟨⟨_, ⟨⟨rfl, rfl⟩, rfl, rfl, rfl⟩, rfl, rfl, by decide, by decide, rfl, rfl⟩, _, rfl, rfl, rfl⟩

theorem witness_RetireAndConfirmZones :
    ((zoned.TakesEdit (frame .service [0, 255, 255]) ∧ parseRetireZone zoned [0, 255, 255] = .ok (0, 65535)) ∧
      (zoned.zones.slots.get 0).state ≠ .empty ∧ 65535 = (zoned.zones.slots.get 0).revision) ∧
    (parseRetireZone zoned [39, 0, 0] = .ok (39, 0) ∧ (zoned.zones.slots.get 39).state = .empty) ∧
    (parseRetireZone zoned [1, 0, 2] = .ok (1, 2) ∧ 2 ≠ (zoned.zones.slots.get 1).revision) ∧
    zoned.walk.state = .idle ∧
    (parseConfirmZones zoned [0] = .ok (some (0, none)) ∧ (zoned.zones.slots.get 0).state = .stale) ∧
    parseConfirmZones zoned [0, 255, 255] = .ok (some (0, some 65535)) ∧ parseConfirmZones zoned [64] = .ok none ∧
    ∃ i : Fin 40, (zoned.zones.slots.get i).state = .stale := by
  refine ⟨⟨⟨⟨⟨rfl, rfl⟩, rfl, rfl, rfl⟩, rfl⟩, by decide, by decide⟩, ⟨rfl, by decide⟩, ⟨rfl, by decide⟩, rfl,
    ⟨rfl, by decide⟩, rfl, rfl, 0, by decide⟩

/-- The slot at the scrub position. -/
def scrubbed (z : ZoneSlot) : State :=
  { withSlot 39 z quiet with zones := { (withSlot 39 z quiet).zones with scrub := 39 } }

theorem witness_ScrubChecksOneBody :
    (scrubbed (siteSlot .inForce 1)).Runs ∧
    ((scrubbed (siteSlot .inForce 1)).zones.slots.get 39).fault = .sound ∧
    ((scrubbed { siteSlot .stale 1 with fault := .single }).zones.slots.get 39).fault = .single ∧
    ((scrubbed { siteSlot .stale 1 with fault := .uncorrectable }).zones.slots.get 39).fault = .uncorrectable ∧
    ((scrubbed (siteSlot .defective 1)).zones.slots.get 39).state = .defective ∧
    ((scrubbed ZoneSlot.empty).zones.slots.get 39).state = .empty := by
  refine ⟨rfl, by decide, by decide, by decide, by decide, by decide⟩

/-- A resolution of the present key in flight, begun under an epoch. -/
def resolving (epoch : BitVec 16) : State :=
  { quiet with res := { quiet.res with currentKey := some quiet.presentKey, inFlight := some ⟨quiet.presentKey, epoch⟩ } }

theorem sound_of_resolving (e : BitVec 16) : (resolving e).BodiesSound := by
  have sound : ∀ i : Fin 40, (quiet.zones.slots.get i).fault = .sound ∧
      ((quiet.zones.slots.get i).state = .empty → (quiet.zones.slots.get i).body = ZoneBody.cleared) := by decide +kernel
  exact sound

theorem witness_ResolutionEndPutsInForce :
    (resolving 1).OnMains ∧ (resolving 1).BodiesSound ∧ (resolving 1).res.inFlight = some ⟨quiet.presentKey, 1⟩ ∧
    (resolving 1).onCellPath = true ∧ (resolving 1).res.currentKey = some quiet.presentKey ∧
    (resolving 1).presentKey = quiet.presentKey ∧ (resolving 1).zones.epoch = 1 ∧ (resolving 65535).zones.epoch ≠ 65535 := by
  refine ⟨⟨rfl, rfl⟩, sound_of_resolving 1, rfl, by decide +kernel, rfl, rfl, rfl, by decide⟩

theorem witness_FlushCacheInvalidates : quiet.TakesEdit (frame .service []) := ⟨⟨rfl, rfl⟩, rfl, rfl, rfl⟩

/-! #### Generators -/

/-- The opening after a failed close of generator 1, by what that close made of its two attempts. -/
def reopening (a : AfterFail) (holder : Option Motion) (pend : Option PendingCause) : State :=
  let v : Move :=
    { holder := holder, step := .opening, on := .hoist, loop := none, target := some .hoist, afterFail := a,
      lockPending := pend, keepTrying := false, seq := 0, timer := some 400 }
  let s := withGen 0 (.moving v) (only .hoist) quiet
  { s with gens := s.gens.set 0 ⟨.moving v, 2⟩ }

/-- The constants of a failed close stand for its reopening, whatever is written meanwhile (R67). -/
theorem test_reopening_keeps_its_constants :
    let t := after (.dropOutProof 0 .hoist)
      { reopening .again none none with k := { quiet.k with transferAttempts := 1, attemptPolicy := .lockOut } }
    ((t.gens.get 0).st, t.alarms.held) = (.free, 0) := by decide +kernel

theorem witness_ProofsEndMoveSteps :
    (withGen 11 (closing (some .hoist) none) (PerMotion.const false) quiet).OnMains ∧
    (∃ v, (withGen 11 (closing (some .hoist) none) (PerMotion.const false) quiet).gens.get 11 = ⟨.moving v, 0⟩ ∧
      v.step = .closing ∧ v.on = .hoist ∧ v.lockPending = none ∧ v.holder = some .hoist) ∧
    (∃ v, (withGen 0 (closing none none) (PerMotion.const false) quiet).gens.get 0 = ⟨.moving v, 0⟩ ∧
      v.lockPending = none ∧ v.holder = none ∧ quiet.k.parkPolicy = .parkLast) ∧
    (∃ v, (withGen 0 (closing (some .hoist) (some .service)) (PerMotion.const false) quiet).gens.get 0 = ⟨.moving v, 0⟩ ∧
      v.lockPending ≠ none) ∧
    (∃ v, (withGen 0 (opening (some .drag) (some .drag) none) (only .hoist) quiet).gens.get 0 = ⟨.moving v, 0⟩ ∧
      v.step = .opening ∧ v.on = .hoist ∧ v.afterFail = .no ∧ v.lockPending = none ∧ v.holder = some .drag ∧
      v.target = some .drag ∧
      ((withGen 0 (opening (some .drag) (some .drag) none) (only .hoist) quiet).proofs 0).get .drag = false) ∧
    (∃ v, (withGen 0 (opening none none none) (only .hoist) quiet).gens.get 0 = ⟨.moving v, 0⟩ ∧ v.holder = none) ∧
    (∃ v, (withGen 0 (opening none none (some .withdrawn)) (only .hoist) quiet).gens.get 0 = ⟨.moving v, 0⟩ ∧
      v.lockPending = some .withdrawn) ∧
    (reopening .lockOut none none).OnMains ∧
    (∃ v, (reopening .lockOut none none).gens.get 0 = ⟨.moving v, 2⟩ ∧ v.step = .opening ∧ v.on = .hoist ∧
      v.afterFail = .lockOut) ∧
    (∃ v, (reopening .keepTrying (some .drag) none).gens.get 0 = ⟨.moving v, 2⟩ ∧ v.afterFail = .keepTrying ∧
      v.lockPending = none ∧ v.holder = some .drag) ∧
    (∃ v, (reopening .again none none).gens.get 0 = ⟨.moving v, 2⟩ ∧ v.afterFail = .again ∧ v.lockPending = none ∧
      v.holder = none) ∧
    ∃ v, (reopening .again none (some .service)).gens.get 0 = ⟨.moving v, 2⟩ ∧ v.afterFail = .again ∧
      v.lockPending = some .service := by
  refine ⟨⟨rfl, rfl⟩, ⟨_, rfl, rfl, rfl, rfl, rfl⟩, ⟨_, rfl, rfl, rfl, rfl⟩, ⟨_, rfl, by decide⟩,
    ⟨_, rfl, rfl, rfl, rfl, rfl, rfl, rfl, by decide⟩, ⟨_, rfl, rfl⟩, ⟨_, rfl, rfl⟩, ⟨rfl, rfl⟩,
    ⟨_, rfl, rfl, rfl, rfl⟩, ⟨_, rfl, rfl, rfl, rfl⟩, ⟨_, rfl, rfl, rfl, rfl⟩, _, rfl, rfl, rfl⟩

theorem witness_StrayAndLostProofs :
    quiet.OnMains ∧ quiet.gens.get 0 = ⟨.free, 0⟩ ∧
    (withGen 0 (.parked .drag 0) (only .drag) quiet).gens.get 0 = ⟨.parked .drag 0, 0⟩ ∧
    (withGen 0 (.granted .walk) (only .walk) quiet).gens.get 0 = ⟨.granted .walk, 0⟩ := ⟨⟨rfl, rfl⟩, rfl, rfl, rfl⟩

theorem witness_LockedOutProofSetsWelded :
    (withGen 11 (.lockedOut .noProof none) (only .drag) quiet).OnMains ∧
    (withGen 11 (.lockedOut .noProof none) (only .drag) quiet).gens.get 11 = ⟨.lockedOut .noProof none, 0⟩ :=
  ⟨⟨rfl, rfl⟩, rfl⟩

/-- A closing move with so many attempts made, under an attempt policy, for a holder and with a lock-out pending or none. -/
def failingFor (holder : Option Motion) (pend : Option PendingCause) (n : Nat) (p : AttemptPolicy) : State :=
  { quiet with gens := quiet.gens.set 0 ⟨closing holder pend, n⟩, k := { quiet.k with attemptPolicy := p } }

/-- The same for the HOIST motion. -/
def failing (n : Nat) (p : AttemptPolicy) : State := failingFor (some .hoist) none n p

theorem witness_ProofTimesEndMoveSteps :
    (∃ v, (withGen 0 (opening none none none) (only .hoist) quiet).gens.get 0 = ⟨.moving v, 0⟩ ∧ v.step = .opening) ∧
    (failing 0 .lockOut).OnMains ∧
    (∃ v, (failing 0 .lockOut).gens.get 0 = ⟨.moving v, 0⟩ ∧ v.step = .closing ∧ v.holder = some .hoist ∧
      v.lockPending = none ∧ ((failing 0 .lockOut).proofs 0).get v.on = false) ∧
    0 + 1 < (failing 0 .lockOut).k.transferAttempts ∧
    ((failing 1 .lockOut).k.transferAttempts ≤ 1 + 1 ∧ (failing 1 .lockOut).k.attemptPolicy = .lockOut) ∧
    ((failing 1 .keepTrying).k.transferAttempts ≤ 1 + 1 ∧ (failing 1 .keepTrying).k.attemptPolicy = .keepTrying) ∧
    ((∃ v, (failingFor none none 1 .lockOut).gens.get 0 = ⟨.moving v, 1⟩ ∧ v.step = .closing ∧ v.holder = none ∧
        ((failingFor none none 1 .lockOut).proofs 0).get v.on = false) ∧
      (failingFor none none 1 .lockOut).OnMains ∧ (failingFor none none 1 .lockOut).k.transferAttempts ≤ 1 + 1 ∧
      (failingFor none none 1 .lockOut).k.attemptPolicy = .lockOut) ∧
    ((∃ v, (failingFor none (some .service) 0 .lockOut).gens.get 0 = ⟨.moving v, 0⟩ ∧ v.step = .closing ∧
        v.lockPending = some .service ∧ ((failingFor none (some .service) 0 .lockOut).proofs 0).get v.on = false) ∧
      (failingFor none (some .service) 0 .lockOut).OnMains ∧
      0 + 1 < (failingFor none (some .service) 0 .lockOut).k.transferAttempts) ∧
    (failingFor none none 1 .keepTrying).k.attemptPolicy = .keepTrying ∧
    (withGen 0 (closing none none) (only .hoist) quiet).OnMains ∧
    ∃ v, (withGen 0 (closing none none) (only .hoist) quiet).gens.get 0 = ⟨.moving v, 0⟩ ∧ v.step = .closing ∧
      ((withGen 0 (closing none none) (only .hoist) quiet).proofs 0).get v.on = true := by
  refine ⟨⟨_, rfl, rfl⟩, ⟨rfl, rfl⟩, ⟨_, rfl, rfl, rfl, rfl, by decide⟩, by decide, ⟨by decide, rfl⟩, ⟨by decide, rfl⟩,
    ⟨⟨_, rfl, rfl, rfl, by decide⟩, ⟨rfl, rfl⟩, by decide, rfl⟩,
    ⟨⟨_, rfl, rfl, rfl, by decide⟩, ⟨rfl, rfl⟩, by decide⟩, rfl, ⟨rfl, rfl⟩, _, rfl, rfl, by decide⟩

theorem witness_ServiceRequestsOnGenerators :
    (quiet.Takes (frame .service [8]) .service ∧ parseGenerator quiet [8] = .ok 7 ∧ (quiet.gens.get 7).st = .free) ∧
    (((withGen 7 (.parked .drag 0) (only .drag) quiet).gens.get 7).st = .parked .drag 0 ∧
      ((withGen 7 (.parked .drag 0) (only .drag) quiet).proofs 7).get .drag = true ∧
      ((withGen 7 (.parked .drag 0) (PerMotion.const false) quiet).proofs 7).get .drag = false) ∧
    ((∃ v, ((withGen 7 (opening none none none) (only .hoist) quiet).gens.get 7).st = .moving v ∧ v.lockPending = none) ∧
      ∃ v, ((withGen 7 (opening none none (some .withdrawn)) (only .hoist) quiet).gens.get 7).st = .moving v ∧
        v.lockPending ≠ none) ∧
    ((withGen 7 (.granted .drag) (only .drag) quiet).gens.get 7).st = .granted .drag ∧
    ((withGen 7 (.lockedOut .welded (some .drag)) (only .drag) quiet).gens.get 7).st = .lockedOut .welded (some .drag) ∧
    ((guarded quiet).Takes (frame .service [1]) .service ∧ parseGenerator (guarded quiet) [1] = .ok 0 ∧
      (guarded quiet).guardLeft ≠ none) ∧
    ((withGen 0 (.lockedOut .noProof none) (PerMotion.const false) (guarded quiet)).gens.get 0).st =
      .lockedOut .noProof none ∧
    (∀ m, ((withGen 0 (.lockedOut .noProof none) (PerMotion.const false) (guarded quiet)).proofs 0).get m = false) ∧
    ((withGen 0 (.lockedOut .welded (some .drag)) (only .drag) (guarded quiet)).proofs 0).get .drag = true ∧
    ((guarded quiet).gens.get 0).isLockedOut = false := by
  refine ⟨⟨⟨⟨rfl, rfl⟩, rfl, rfl⟩, rfl, rfl⟩, ⟨rfl, rfl, rfl⟩, ⟨⟨_, rfl, rfl⟩, _, rfl, by decide⟩, rfl, rfl,
    ⟨⟨⟨rfl, rfl⟩, rfl, rfl⟩, rfl, by decide⟩, rfl, ?_, rfl, rfl⟩
  exact forall_motion.2 ⟨rfl, rfl, rfl, rfl⟩

theorem witness_ParkMachineOpensParked :
    (quiet.OnMains ∧ quiet.Awaits .cab) ∧ (∀ m, (quiet.motions.get m).state = .idle) ∧ quiet.walk.state = .idle ∧
    (withGen 0 (.parked .drag 0) (only .drag) quiet).OnMains ∧
    ((withGen 0 (.parked .drag 0) (only .drag) quiet).proofs 0).get .drag = true ∧
    ((withGen 0 (.parked .drag 0) (PerMotion.const false) quiet).proofs 0).get .drag = false ∧
    ((walking .preparing none quiet).OnMains ∧ (walking .preparing none quiet).walk.state ≠ .idle) := by
  refine ⟨⟨⟨rfl, rfl⟩, rfl⟩, forall_dig.2 ⟨rfl, rfl, rfl⟩, rfl, ⟨rfl, rfl⟩, rfl, rfl, ⟨rfl, rfl⟩, by decide⟩

/-! #### Arbiter -/

/-- A waiting list of HOIST and SWING with the rotation counter. -/
def waitingList (l : List Motion) (m : Option Motion) (n : Nat) : Arbiter := ⟨l.map fun x => ⟨x, 0, none⟩, m, n, 0⟩

theorem witness_GrantsGoByPriorityAndRotation :
    highest (waitingList [.swing, .hoist] (some .hoist) 3).list = some .hoist ∧
    below (waitingList [.swing, .hoist] (some .hoist) 3).list .hoist = [⟨.swing, 0, none⟩] ∧
    (waitingList [.swing, .hoist] (some .hoist) 3).count ≤ 3 ∧ (waitingList [.swing, .hoist] (some .hoist) 2).count < 3 ∧
    (waitingList [.swing, .hoist] (some .drag) 3).countedMotion ≠ some .hoist ∧
    below (waitingList [.hoist] none 0).list .hoist = [] ∧ (waitingList [] none 0).list = [] := by
  refine ⟨by decide, by decide, by decide, by decide, by decide, by decide, rfl⟩

theorem witness_GrantsTakeNearestGenerator :
    (quiet.gens.get 0).isAvailable = true ∧
    chooseGen (withGen 5 (.parked .drag 9) (only .drag) quiet).gens .drag = some 5 ∧
    chooseGen (withGen 5 (.parked .drag 9) (only .drag) quiet).gens .hoist = some 0 ∧
    chooseGen ((Table.const 12 ⟨.noRecord, 0⟩).set 3 ⟨.parked .drag 9, 0⟩) .hoist = some 3 := by
  refine ⟨by decide +kernel, by decide +kernel, by decide +kernel, by decide +kernel⟩

/-- HOIST RELEASING with its hold begun and two generators. -/
def releasing : State :=
  leased .hoist (State.reset.onMotion .hoist fun r => { r with state := .releasing, holdStart := some 0, holdTimer := some 0 })

/-- HOIST waiting, short since the cold start, so many milliseconds after it. -/
def starving (now : Nat) : State :=
  { State.reset with clock := now, arb := { State.reset.arb with list := [⟨.hoist, 0, some 0⟩] } }

theorem witness_LeaseTimersEnd :
    (releasing.OnMains ∧ releasing.ConditionsFollow ∧ releasing.ClassesLegal ∧ (releasing.motions.get .hoist).state = .releasing ∧
      (releasing.motions.get .hoist).demand = none ∧ (releasing.motions.get .hoist).holdStart.isSome = true) ∧
    (starving 11000).OnMains ∧
    (∃ e ∈ (starving 11000).arb.list, e.motion = .hoist ∧
      ∃ since, e.shortSince = some since ∧ (starving 11000).k.starveTime < (starving 11000).now - since) ∧
    ∀ e ∈ (starving 10999).arb.list, ∀ since, e.motion = .hoist → e.shortSince = some since →
      (starving 10999).now - since ≤ (starving 10999).k.starveTime := by
  refine ⟨⟨⟨rfl, rfl⟩, conditionsFollow_of _ (by decide +kernel), classesLegal_of _ (by decide +kernel), rfl, rfl, rfl⟩,
    ⟨rfl, rfl⟩, ⟨_, List.mem_cons_self, rfl, 0, rfl, by decide +kernel⟩, fun e he since _ h => ?_⟩
  cases List.mem_singleton.1 he
  cases h
  decide +kernel

/-! #### Dig motions and brakes -/

theorem readyLaw_of (s : State) (h : (Dig.all.all fun m => decide ((s.motions.get m).state = .acquiring ∨
    (s.motions.get m).state = .ready → ((s.motions.get m).state = .ready ↔
      s.k.minimumComplement.get m.motion ≤ s.proven m.motion))) = true) : s.ReadyLaw := fun _ m => by
  have := List.all_eq_true.1 h m (by cases m <;> decide)
  have law := of_decide_eq_true this
  exact law

theorem witness_DemandIsTaken :
    State.reset.Takes (frame .cab [3, 2, 1]) .cab ∧ State.reset.ConditionsFollow ∧ State.reset.ClassesLegal ∧
    State.reset.MotionsLawful ∧ State.reset.ReadyLaw ∧
    parseDemand State.reset [3, 2, 1] = .ok (.swing, some .minus, .full) ∧
    (State.reset.motions.get .swing).state ≠ .tripped ∧ (State.reset.motions.get .swing).state ≠ .locked :=
  ⟨⟨⟨rfl, rfl⟩, rfl, rfl⟩, conditionsFollow_of _ (by decide +kernel), classesLegal_of _ (by decide +kernel),
    motionsLawful_of _ (by decide +kernel), readyLaw_of _ (by decide +kernel), rfl, by decide, by decide⟩

theorem witness_DemandNoneAndStopAllRelease :
    (running.Takes (frame .cab [1, 0, 0]) .cab ∧ running.ConditionsFollow ∧ running.ClassesLegal ∧
      parseDemand running [1, 0, 0] = .ok (.hoist, none, .minimum) ∧ (running.motions.get .hoist).state = .ready ∧
      (running.motions.get .hoist).demand.isSome = true) ∧
    running.OnMains ∧ running.Awaits .service ∧ running.MotionsLawful :=
  ⟨⟨⟨⟨rfl, rfl⟩, rfl, rfl⟩, running_conditions, classesLegal_of _ (by decide +kernel), rfl, rfl, rfl⟩, ⟨rfl, rfl⟩, rfl,
    motionsLawful_of _ (by decide +kernel)⟩

theorem witness_TrippedMotionsWaitForArm :
    ((tripped .hoist quiet).Takes (frame .cab [1, 1, 0]) .cab ∧
      parseDemand (tripped .hoist quiet) [1, 1, 0] = .ok (.hoist, some .plus, .minimum) ∧
      ((tripped .hoist quiet).motions.get .hoist).state = .tripped) ∧
    ((walking .preparing none quiet).motions.get .hoist).state = .locked ∧
    (parseArm (tripped .hoist quiet) [1] = .ok (some .hoist) ∧ (tripped .hoist quiet).ConditionsFollow ∧
      (tripped .hoist quiet).ClassesLegal ∧ (tripped .hoist quiet).walk.state = .idle ∧
      ((tripped .hoist quiet).atRequest .cab).tripInForce = false ∧
      ((tripped .hoist quiet).atRequest .cab).stopInForce .hoist = false ∧
      ((tripped .hoist quiet).motions.get .hoist).brake.state = .set ∧
      (tripped .hoist quiet).showsReleased .hoist = false ∧ (tripped .hoist quiet).held .hoist = 0) ∧
    (quiet.motions.get .hoist).state ≠ .tripped ∧
    ((tripped .hoist (walking .interrupted (some .setDown) quiet)).walk.state ≠ .idle) ∧
    ((tripped .hoist ((quiet.setCondition ⟨1, 0⟩ true))).atRequest .cab).tripInForce = true := by
  refine ⟨⟨⟨⟨rfl, rfl⟩, rfl, rfl⟩, rfl, rfl⟩, rfl, ⟨rfl, conditionsFollow_of _ (by decide +kernel),
    classesLegal_of _ (by decide +kernel), rfl, by decide +kernel, by decide +kernel, rfl, by decide +kernel,
    by decide +kernel⟩, by decide, by decide, by decide +kernel⟩

theorem witness_EmergencyStopTripsEverything :
    (running.OnMains ∧ running.ClassesLegal ∧ running.isTrue ⟨1, 0⟩ = false ∧ running.tripInForce = false ∧ running.Runs) ∧
    ((walking .stepping (some .dwell) quiet).OnMains ∧ (walking .stepping (some .dwell) quiet).ClassesLegal ∧
      (walking .stepping (some .dwell) quiet).isTrue ⟨1, 0⟩ = false ∧
      (walking .stepping (some .dwell) quiet).tripInForce = false ∧
      (walking .stepping (some .dwell) quiet).walk.state = .stepping ∧
      (walking .stepping (some .dwell) quiet).walk.ending = none) ∧
    ((walking .preparing none quiet).OnMains ∧ (walking .preparing none quiet).ClassesLegal ∧
      (walking .preparing none quiet).isTrue ⟨1, 0⟩ = false ∧ (walking .preparing none quiet).tripInForce = false ∧
      (walking .preparing none quiet).walk.state = .preparing ∧ (walking .preparing none quiet).walk.ending = none) :=
  ⟨⟨⟨rfl, rfl⟩, classesLegal_of _ (by decide +kernel), by decide +kernel, by decide +kernel, rfl⟩,
    ⟨⟨rfl, rfl⟩, classesLegal_of _ (by decide +kernel), by decide +kernel, by decide +kernel, rfl, rfl⟩,
    ⟨rfl, rfl⟩, classesLegal_of _ (by decide +kernel), by decide +kernel, by decide +kernel, rfl, rfl⟩

/-- A walk PREPARING with four generators granted and its brake RELEASING. -/
def preparing : State :=
  withBrake .walk .releasing false (withGen 2 (.granted .walk) (only .walk) (withGen 3 (.granted .walk) (only .walk)
    (leased .walk (walking .preparing none quiet))))

theorem witness_ReleaseProofAssertsPermit :
    ((hoistReady .releasing none State.reset).OnMains ∧ (hoistReady .releasing none State.reset).ConditionsFollow ∧
      (hoistReady .releasing none State.reset).ClassesLegal ∧ (hoistReady .releasing none State.reset).ResolverFollows ∧
      (hoistReady .releasing none State.reset).MotionsLawful ∧ (hoistReady .releasing none State.reset).ReadyLaw ∧
      (hoistReady .releasing none State.reset).tripInForce = false ∧
      ((hoistReady .releasing none State.reset).motions.get .hoist).brake.state = .releasing ∧
      ((hoistReady .releasing none State.reset).motions.get .hoist).demand = some .plus ∧
      (hoistReady .releasing none State.reset).runs .hoist = true) ∧
    preparing.OnMains ∧ preparing.ConditionsFollow ∧ preparing.ClassesLegal ∧ preparing.tripInForce = false ∧
    preparing.walk.state = .preparing ∧ preparing.walk.ending = none ∧ preparing.walk.brake.state = .releasing ∧
    preparing.leased .walk = true := by
  have follows : (hoistReady .releasing none State.reset).resolverFollow = hoistReady .releasing none State.reset := by
    decide +kernel
  refine ⟨⟨⟨rfl, rfl⟩, conditionsFollow_of _ (by decide +kernel), classesLegal_of _ (by decide +kernel), follows,
    motionsLawful_of _ (by decide +kernel), readyLaw_of _ (by decide +kernel), by decide +kernel, rfl, rfl,
    by decide +kernel⟩, ⟨rfl, rfl⟩, conditionsFollow_of _ (by decide +kernel), classesLegal_of _ (by decide +kernel),
    by decide +kernel, rfl, rfl, rfl, by decide +kernel⟩

/-- A walk that is ending HALTED with its brake SETTING. -/
def ending : State :=
  withBrake .walk .setting true ((walking .stepping (some .dwell) quiet).onWalk fun w => { w with ending := some .halted })

theorem witness_SetProofSetsBrake :
    ((withBrake .drag .setting true (tripped .drag quiet)).OnMains ∧
      ((withBrake .drag .setting true (tripped .drag quiet)).motions.get .drag).brake.state = .setting ∧
      ((withBrake .drag .setting true (tripped .drag quiet)).motions.get .drag).state = .tripped) ∧
    ending.OnMains ∧ ending.walk.brake.state = .setting ∧ ending.walk.ending = some .halted :=
  ⟨⟨⟨rfl, rfl⟩, rfl, rfl⟩, ⟨rfl, rfl⟩, rfl, rfl⟩

theorem witness_BrakeFaultsAndTimes :
    (running.OnMains ∧ running.ClassesLegal ∧ (running.brake .hoist).state = .released) ∧
    ((hoistReady .releasing none State.reset).brake .hoist).state = .releasing ∧ (running.brake .walk).state = .set ∧
    (((withBrake .walk .setting true running).brake .walk).state = .setting ∧
      (withBrake .walk .setting true running).showsReleased .walk = true) ∧
    ((running.onBrake .hoist fun b => { b with stopWait := some 0 }).brake .hoist).stopWait.isSome = true ∧
    ((quiet.onBrake .walk fun b => { b with late := some 0 }).OnMains ∧
      ((quiet.onBrake .walk fun b => { b with late := some 0 }).brake .walk).state = .set ∧
      ((quiet.onBrake .walk fun b => { b with late := some 0 }).brake .walk).late = some 0) :=
  ⟨⟨⟨rfl, rfl⟩, classesLegal_of _ (by decide +kernel), rfl⟩, rfl, rfl, ⟨rfl, by decide +kernel⟩, rfl, ⟨rfl, rfl⟩, rfl, rfl⟩

/-! #### The walk -/

theorem witness_WalkOrders :
    (∃ o, quiet.Takes (frame .cab [2, 0, 32, 99]) .cab ∧ quiet.ConditionsFollow ∧ quiet.ClassesLegal ∧
      parseWalk quiet [2, 0, 32, 99] = .ok o ∧ quiet.walk.state = .idle ∧ quiet.walk.ending = none ∧
      (∀ m, (quiet.motions.get m).state = .idle) ∧ (quiet.atRequest .cab).tripInForce = false ∧
      (quiet.atRequest .cab).stopInForce .walk = false ∧ (∀ c, (quiet.chans.ch.get c).quietWindows = 3) ∧
      quiet.motions.swing.brake.state = .set ∧ quiet.walk.brake.state = .set ∧ quiet.showsReleased .walk = false ∧
      quiet.chans.ch.swing.refState = .referenced ∧ quiet.chans.ch.walk.refState = .referenced ∧
      min ((quiet.swingAngle + 4096 - o.heading) % 4096) ((o.heading + 4096 - quiet.swingAngle) % 4096) ≤
        quiet.k.headingTolerance ∧ (quiet.k.groundedPayout : Int) ≤ quiet.chans.ch.hoist.position) ∧
    (walking .interrupted (some .setDown) quiet).walk.state ≠ .idle ∧
    ((tripped .drag quiet).walk.state = .idle ∧ ((tripped .drag quiet).motions.get .drag).state = .tripped) ∧
    ((digsIn .ready quiet).walk.state = .idle ∧ ∀ m, ((digsIn .ready quiet).motions.get m).state = .ready) ∧
    (((quiet.setCondition ⟨1, 0⟩ true).atRequest .cab).tripInForce = true ∧
      ((quiet.setCondition ⟨6, 4⟩ true).atRequest .cab).stopInForce .walk = true ∧
      (State.reset.chans.ch.get .drag).quietWindows ≠ 3 ∧
      (withBrake .swing .setting true quiet).motions.swing.brake.state ≠ .set ∧
      (withBrake .walk .setting true quiet).walk.brake.state ≠ .set ∧
      State.reset.chans.ch.swing.refState ≠ .referenced ∧ State.reset.chans.ch.walk.refState ≠ .referenced ∧
      (∃ o, parseWalk quiet [1, 0, 33, 1] = .ok o ∧ quiet.k.headingTolerance <
        min ((quiet.swingAngle + 4096 - o.heading) % 4096) ((o.heading + 4096 - quiet.swingAngle) % 4096)) ∧
      (quiet.onChan .hoist fun ch => { ch with position := 599999 }).chans.ch.hoist.position <
        (quiet.k.groundedPayout : Int)) := by
  refine ⟨⟨_, ⟨⟨rfl, rfl⟩, rfl, rfl⟩, conditionsFollow_of _ (by decide +kernel), classesLegal_of _ (by decide +kernel), rfl, rfl,
    rfl, forall_dig.2 ⟨rfl, rfl, rfl⟩, by decide +kernel, by decide +kernel, forall_motion.2 ⟨rfl, rfl, rfl, rfl⟩, rfl, rfl,
    by decide +kernel, rfl, rfl, by decide +kernel, by decide⟩, by decide, ⟨rfl, rfl⟩,
    ⟨rfl, forall_dig.2 ⟨rfl, rfl, rfl⟩⟩, by decide +kernel, by decide +kernel, by decide, by decide, by decide, by decide,
    by decide, ⟨_, rfl, by decide +kernel⟩, by decide⟩

theorem witness_WalkHaltActs :
    (preparing.OnMains ∧ preparing.Awaits .service ∧ preparing.ConditionsFollow ∧ preparing.ClassesLegal ∧
      preparing.walk.state = .preparing ∧ preparing.walk.ending = none) ∧
    ((walking .stepping (some .lowerShoes) quiet).walk.phase = some .lowerShoes ∧
      (walking .stepping (some .lowerShoes) quiet).walk.lifted = false ∧
      (walking .stepping (some .lowerShoes) quiet).inputs.tub = true) ∧
    (walking .interrupted (some .setDown) quiet).walk.state = .interrupted ∧
    (walking .stepping (some .setDown) quiet).walk.phase ≠ some .lowerShoes :=
  ⟨⟨⟨rfl, rfl⟩, rfl, conditionsFollow_of _ (by decide +kernel), classesLegal_of _ (by decide +kernel), rfl, rfl⟩,
    ⟨rfl, rfl, rfl⟩, rfl, by decide⟩

/-- An INTERRUPTED walk whose cause, a phase timeout, is no condition. -/
def interrupted : State :=
  (walking .interrupted (some .setDown) quiet).onWalk fun w => { w with interruptCause := some ⟨⟨18, 3⟩, .trip⟩ }

theorem witness_WalkResumesOrIsCancelled :
    (interrupted.Takes (frame .cab []) .cab ∧ interrupted.ConditionsFollow ∧ interrupted.ClassesLegal ∧
      interrupted.walk.state = .interrupted ∧ interrupted.walk.ending = none ∧ interrupted.walk.haltRequested = false ∧
      (interrupted.atRequest .cab).tripInForce = false ∧ (interrupted.atRequest .cab).stopInForce .walk = false ∧
      interrupted.walk.interruptCause = some ⟨⟨18, 3⟩, .trip⟩ ∧ (interrupted.atRequest .cab).isTrue ⟨18, 3⟩ = false ∧
      interrupted.chans.ch.walk.refState = .referenced ∧ interrupted.walk.brake.state = .set ∧
      interrupted.showsReleased .walk = false ∧ interrupted.held .walk = 0) ∧
    (interrupted.inputs.tub = true ∧ interrupted.Awaits .service) ∧
    { interrupted with inputs := { interrupted.inputs with tub := false } }.Runs :=
  ⟨⟨⟨⟨rfl, rfl⟩, rfl, rfl⟩, conditionsFollow_of _ (by decide +kernel), classesLegal_of _ (by decide +kernel), rfl, rfl, rfl,
    by decide +kernel, by decide +kernel, rfl, by decide +kernel, rfl, rfl, by decide +kernel, by decide +kernel⟩,
    ⟨rfl, rfl⟩, rfl⟩

/-- A walk in DWELL with so many of its three steps done, a halt requested or not. -/
def dwelling (n : Nat) (halt : Bool) : State :=
  (walking .stepping (some .dwell) quiet).onWalk fun w =>
    { w with stepsDone := n, haltRequested := halt, dwellTimer := some 0 }

/-- A walk in a timed phase. -/
def timed : State := (walking .stepping (some .raiseShoes) quiet).onWalk fun w => { w with phaseTimer := some 0 }

theorem witness_WalkTimersEnd :
    ((walking .preparing none quiet).OnMains ∧ (walking .preparing none quiet).walk.state = .preparing ∧
      (walking .preparing none quiet).walk.brake.state = .set ∧
      (walking .preparing none quiet).showsReleased .walk = false) ∧
    (timed.OnMains ∧ timed.ClassesLegal ∧ timed.walk.state = .stepping ∧ timed.walk.ending = none ∧
      timed.walk.phase = some .raiseShoes ∧ timed.walk.phaseTimer = some 0) ∧
    ((dwelling 3 false).OnMains ∧ (dwelling 3 false).ConditionsFollow ∧ (dwelling 3 false).ClassesLegal ∧
      (dwelling 3 false).walk.dwellTimer = some 0 ∧ (dwelling 3 false).walk.phase = some .dwell ∧
      (dwelling 3 false).walk.stepsRequested = some (dwelling 3 false).walk.stepsDone) ∧
    (dwelling 2 true).walk.stepsRequested ≠ some (dwelling 2 true).walk.stepsDone ∧
    (dwelling 0 false).walk.stepsRequested ≠ some (dwelling 0 false).walk.stepsDone :=
  ⟨⟨⟨rfl, rfl⟩, rfl, rfl, by decide +kernel⟩, ⟨⟨rfl, rfl⟩, classesLegal_of _ (by decide +kernel), rfl, rfl, rfl, rfl⟩,
    ⟨⟨rfl, rfl⟩, conditionsFollow_of _ (by decide +kernel), classesLegal_of _ (by decide +kernel), rfl, rfl, rfl⟩,
    by decide, by decide⟩

/-! #### Alarms -/

/-- A record of a correction in slot 5 of the zone table, in an alarm state, shelved or not, of a class. -/
def recordOf (st : AlarmState) (cls : AlarmClass) (shelf : Option Shelf) : AlarmRec :=
  { AlarmRec.fresh ⟨14, 5⟩ 0 with state := st, cls := cls, shelf := shelf, lastCleared := some 10, repeatRun := 2 }

theorem witness_AlarmRequests :
    ((withRecord (recordOf .activeUnack .notice none) quiet).Runs ∧
      parseAlarmKey (withRecord (recordOf .activeUnack .notice none) quiet) [14, 5] = .ok ⟨14, 5⟩ ∧
      ((withRecord (recordOf .activeUnack .notice none) quiet).atRequest .service).alarms.slotOf ⟨14, 5⟩ = some 0 ∧
      ((withRecord (recordOf .activeUnack .notice none) quiet).atRequest .service).alarms.slots.cells[0]? =
        some (some (recordOf .activeUnack .notice none)) ∧
      ((withRecord (recordOf .activeUnack .notice none) quiet).atRequest .service).alarms.anyUnrecorded = false) ∧
    ((withRecord (recordOf .activeAck .notice none) quiet).atRequest .cab).alarms.slotOf ⟨14, 5⟩ = some 0 ∧
    ((withRecord (recordOf .clearedUnack .notice none) quiet).atRequest .cab).alarms.slotOf ⟨14, 5⟩ = some 0 ∧
    (quiet.atRequest .cab).alarms.record ⟨14, 5⟩ = none ∧
    ((onBackup quiet).Runs ∧ (onBackup quiet).Awaits .cab ∧ parseAnnounce (onBackup quiet) [1, 15] = .ok ⟨true, 15⟩) := by
  refine ⟨⟨rfl, rfl, by decide +kernel, by decide +kernel, by decide +kernel⟩, by decide +kernel, by decide +kernel,
    by decide +kernel, rfl, rfl, rfl⟩

theorem witness_ShelvesAreKept :
    ((withRecord (recordOf .activeUnack .warn none) quiet).Takes (frame .service [14, 5, 1, 224]) .service ∧
      parseShelve (withRecord (recordOf .activeUnack .warn none) quiet) [14, 5, 1, 224] = .ok (⟨14, 5⟩, 480) ∧
      (withRecord (recordOf .activeUnack .warn none) quiet).alarms.slotOf ⟨14, 5⟩ = some 0 ∧
      (withRecord (recordOf .activeUnack .warn none) quiet).alarms.record ⟨14, 5⟩ =
        some (recordOf .activeUnack .warn none)) ∧
    (withRecord (recordOf .activeUnack .stop none) quiet).alarms.record ⟨14, 5⟩ = some (recordOf .activeUnack .stop none) ∧
    (parseAlarmKey (withRecord (recordOf .activeAck .warn (some ⟨1, 9⟩)) quiet) [14, 5] = .ok ⟨14, 5⟩ ∧
      (withRecord (recordOf .activeAck .warn (some ⟨1, 9⟩)) quiet).alarms.record ⟨14, 5⟩ =
        some (recordOf .activeAck .warn (some ⟨1, 9⟩))) := by
  refine ⟨⟨⟨⟨rfl, rfl⟩, rfl, rfl⟩, rfl, by decide +kernel, by decide +kernel⟩, by decide +kernel, rfl, by decide +kernel⟩

theorem witness_RepeatedRaisesEscalate :
    (recordOf .activeUnack .notice none).state ≠ .clearedUnack ∧ (recordOf .activeAck .notice none).state = .activeAck ∧
    ((recordOf .clearedUnack .notice none).state = .clearedUnack ∧ (recordOf .clearedUnack .notice none).lastCleared = some 10 ∧
      threshold 14 = some 3 ∧ ((recordOf .clearedUnack .notice none).raised 130 120).repeatRun % 3 = 0 ∧
      ((recordOf .clearedUnack .warn none).raised 130 120).repeatRun ≠ (recordOf .clearedUnack .warn none).repeatRun) ∧
    ((recordOf .clearedUnack .notice none).raised 131 120).repeatRun = 1 ∧ threshold 7 = none ∧
    ((recordOf .clearedUnack .notice (some ⟨1, 9⟩)).raised 131 120).repeatRun % 3 ≠ 0 ∧
    ({ recordOf .clearedUnack .notice none with repeatRun := 15 }.raised 130 120).repeatRun =
      { recordOf .clearedUnack .notice none with repeatRun := 15 }.repeatRun := by
  refine ⟨by decide, by decide, ⟨by decide, by decide, by decide, by decide, by decide⟩, by decide, by decide, by decide,
    by decide⟩

/-! #### Supply, settings and start-up -/

theorem witness_MainsLossEntersHoldup :
    running.OnMains ∧ (running.motions.get .hoist).state ≠ .tripped ∧
      (tripped .hoist quiet).OnMains ∧ ((tripped .hoist quiet).motions.get .hoist).state = .tripped :=
  ⟨⟨rfl, rfl⟩, by decide, ⟨rfl, rfl⟩, rfl⟩

/-- A part in HOLDUP whose generator 12 is fitted, in a state with its proofs, in a withdrawn set. -/
def returning (st : GenState) (proofs : PerMotion Bool) (withdrawn : BitVec 12) : State :=
  onBackup (withGen 11 st proofs { quiet with k := { quiet.k with withdrawn := withdrawn } })

/-- A part in HOLDUP on the cell path, as its entry left it. -/
def cellReturn : State := onBackup { quiet with res := { quiet.res with force := InForce.noneHeld } }

theorem witness_HoldupEnds :
    ((onBackup (tripped .hoist quiet)).OnBackup ∧ ((onBackup (tripped .hoist quiet)).motions.get .hoist).state = .tripped) ∧
    ((returning .free (only .walk) 0x800).OnBackup ∧ (returning .free (only .walk) 0x800).k.withdrawn.getLsbD 11 = true ∧
      ((returning .free (only .walk) 0x800).gens.get 11).st ≠ .noRecord ∧
      ((returning .free (only .walk) 0x800).gens.get 11).isLockedOut = false) ∧
    ((returning (closing none (some .service)) (PerMotion.const false) 0).k.withdrawn.getLsbD 11 = false ∧
      (∀ l, ((returning (closing none (some .service)) (PerMotion.const false) 0).proofs 11).get l = false)) ∧
    (((returning .free (only .walk) 0).proofs 11).get .walk = true ∧
      ∀ l, l ≠ .walk → ((returning .free (only .walk) 0).proofs 11).get l = false) ∧
    (((returning .free (PerMotion.const true) 0).proofs 11).get .hoist = true ∧
      ((returning .free (PerMotion.const true) 0).proofs 11).get .walk = true) ∧
    ((returning (.lockedOut .service none) (only .walk) 0x800).gens.get 11).isLockedOut = true ∧
    (cellReturn.OnBackup ∧ cellReturn.onCellPath = true ∧ cellReturn.res.force = InForce.noneHeld ∧
      cellReturn.res.queue = [] ∧ cellReturn.res.inFlight = none) ∧
    (((withBrake .hoist .setting true (onBackup quiet)).brake .hoist).state = .setting ∧
      (withBrake .hoist .setting true (onBackup quiet)).showsReleased .hoist = true) ∧
    (((withBrake .walk .setting false (onBackup quiet)).brake .walk).state = .setting ∧
      (withBrake .walk .setting false (onBackup quiet)).showsReleased .walk = false) ∧
    (((onBackup quiet).brake .walk).state = .set ∧ (onBackup quiet).showsReleased .walk = false) ∧
    (((withBrake .walk .set true (onBackup quiet)).brake .walk).state = .set ∧
      (withBrake .walk .set true (onBackup quiet)).showsReleased .walk = true) ∧
    (onBackup quiet).commit = none ∧
    ({ onBackup quiet with commit := some ⟨Image.factory, 400⟩ } : State).OnBackup :=
  ⟨⟨⟨rfl, rfl⟩, rfl⟩, ⟨⟨rfl, rfl⟩, rfl, by decide, by decide⟩, ⟨rfl, forall_motion.2 ⟨rfl, rfl, rfl, rfl⟩⟩,
    ⟨rfl, fun l h => by cases l <;> first | exact absurd rfl h | rfl⟩, ⟨rfl, rfl⟩, rfl,
    ⟨⟨rfl, rfl⟩, by decide +kernel, rfl, rfl, rfl⟩, ⟨rfl, by decide +kernel⟩, ⟨rfl, by decide +kernel⟩,
    ⟨rfl, by decide +kernel⟩, ⟨rfl, by decide +kernel⟩, rfl, rfl, rfl⟩

theorem witness_WriteConstantActs :
    ((guarded quiet).TakesEdit (frame .service [31, 255, 0, 0, 15, 255]) ∧ (guarded quiet).guardLeft.isSome = true ∧
      parseWriteConstant (guarded quiet) [31, 255, 0, 0, 15, 255] = .ok (⟨31, none⟩, 4095) ∧
      (∀ m, ((guarded quiet).motions.get m).state = .idle) ∧ (guarded quiet).walk.state = .idle ∧
      constantsAgree (setConst (guarded quiet).k ⟨31, none⟩ 4095) = true) ∧
    parseWriteConstant (guarded quiet) [22, 255, 0, 0, 0, 3] = .ok (⟨22, none⟩, 3) ∧
    parseWriteConstant (guarded quiet) [4, 3, 0, 0, 16, 0] = .ok (⟨4, some .swing⟩, 4096) ∧
    ((guarded (tripped .hoist quiet)).motions.get .hoist).state ≠ .idle ∧
    (parseWriteConstant (guarded quiet) [50, 255, 0, 0, 0, 4] = .ok (⟨50, none⟩, 4) ∧
      constantsAgree (setConst (guarded quiet).k ⟨50, none⟩ 4) = false) := by
  refine ⟨⟨⟨⟨rfl, rfl⟩, rfl, rfl, rfl⟩, rfl, by rfl, forall_dig.2 ⟨rfl, rfl, rfl⟩, rfl, by decide +kernel⟩, by rfl, by rfl,
    by decide, by rfl, by decide +kernel⟩

theorem witness_StoreWrites :
    ((guarded (resolving 1)).TakesEdit (frame .service []) ∧ (guarded (resolving 1)).BodiesSound ∧
      (guarded (resolving 1)).guardLeft.isSome = true) ∧
    (({ quiet with commit := some ⟨Image.factory, 0⟩ } : State).Runs ∧
      ({ quiet with commit := some ⟨Image.factory, 0⟩ } : State).commit = some ⟨Image.factory, 0⟩) ∧
    (onBackup { quiet with store := ⟨none, .set, some true⟩ }).Runs ∧
    (onBackup { quiet with store := ⟨none, .set, some true⟩ }).store.markerWrite = some true :=
  ⟨⟨⟨⟨rfl, rfl⟩, rfl, rfl, rfl⟩, sound_of_resolving 1, rfl⟩, ⟨rfl, rfl⟩, rfl, rfl⟩

theorem witness_ColdStartBegins :
    (¬ running.OnBackup ∧ ¬ loading.OnBackup) ∧ running.commit = none ∧ running.store.markerWrite = none ∧
      running.power ≠ .stopped ∧ loading.power ≠ .stopped := by
  refine ⟨⟨fun h => ?_, fun h => ?_⟩, rfl, rfl, by decide, by decide⟩
  · have := h.2
    revert this
    decide
  · have := h.1
    revert this
    decide

theorem witness_LoadEndStartsPart :
    (loading.power = .loading ∧ loading.inputs.mains = true ∧ loading.store.image = some Image.factory ∧
      constantsPass Image.factory.constants = true ∧ loading.inputs.estop = false) ∧
    ({ loading with store := ⟨none, .unreadable, none⟩ } : State).store.image = none := by
  refine ⟨⟨rfl, rfl, rfl, by decide +kernel, rfl⟩, rfl⟩

theorem witness_GuardAndRestart :
    quiet.Takes (frame .service []) .service ∧ quiet.Runs ∧
    ((guarded quiet).TakesEdit (frame .service []) ∧ (guarded quiet).guardLeft.isSome = true) ∧
    (∃ a, (((answering .service .nothing quiet).ports.get .service).answer = some a) ∧ a.after = .nothing) ∧
    (∃ a, (((answering .service .closeGuard quiet).ports.get .service).answer = some a) ∧ a.after = .closeGuard) ∧
    ∃ a, (((answering .service .closeGuardAndRestart quiet).ports.get .service).answer = some a) ∧
      a.after = .closeGuardAndRestart :=
  ⟨⟨⟨rfl, rfl⟩, rfl, rfl⟩, rfl, ⟨⟨⟨rfl, rfl⟩, rfl, rfl, rfl⟩, rfl⟩, ⟨_, rfl, rfl⟩, ⟨_, rfl, rfl⟩, _, rfl, rfl⟩

/-! #### Request ports -/

theorem witness_RequestsAreTestedInOrder :
    (quiet.Runs ∧ quiet.Awaits .service ∧ (Instr.commit (frame .service [])).frame? = some (frame .service []) ∧
      ∃ q, requestSpec? (.commit (frame .service [])) = some q ∧ q.allows .cab = false ∧ q.allows .service = true ∧
        q.store = true ∧ q.guarded = true ∧ q.inHoldup = false ∧ quiet.guardLeft = none) ∧
    requestFieldFails quiet (.commit (frame .service [0])) = some .badField ∧
    requestFieldFails quiet (.lockOutGenerator (frame .service [9])) = some .notFitted ∧
    requestFieldFails quiet (.commit (frame .service [])) = none ∧ (onBackup quiet).supply.state = .holdup ∧
    ({ quiet with commit := some ⟨Image.factory, 0⟩ } : State).commit.isSome = true :=
  ⟨⟨rfl, rfl, rfl, _, rfl, rfl, rfl, rfl, rfl, rfl, rfl⟩, rfl, rfl, rfl, rfl, rfl⟩

theorem witness_ReadingAnswersWithRecords :
    (quiet.Runs ∧ quiet.Awaits .cab ∧ parseRead quiet [4] = .ok .walk ∧
      (((quiet.atRequest .cab).checkedFor .walk).recordOf .walk).isSome = true) ∧
    (parseRead quiet [11, 1, 0] = .ok (.alarm ⟨1, 0⟩) ∧
      ((quiet.atRequest .cab).checkedFor (.alarm ⟨1, 0⟩)).recordOf (.alarm ⟨1, 0⟩) = none) ∧
    (∃ start key, parseNext State.reset [11] = .ok start ∧ (State.reset.atRequest .cab).nextOf start = some key ∧
      (((State.reset.atRequest .cab).checkedFor key).recordOf key).isSome = true) ∧
    ∃ start, parseNext quiet [11] = .ok start ∧ (quiet.atRequest .cab).nextOf start = none := by
  refine ⟨⟨rfl, rfl, rfl, by decide +kernel⟩, ⟨rfl, by decide +kernel⟩,
    ⟨_, .alarm ⟨7, 1⟩, rfl, by decide +kernel, by decide +kernel⟩, _, rfl, by decide +kernel⟩

theorem witness_CabLinkIsWatched :
    (running.OnMains ∧ (Instr.unknown (frame .cab []) 99).frame? = some (frame .cab []) ∧ running.Awaits .cab) ∧
    ({ running with cabTimer := .running 0 } : State).cabTimer = .running 0 ∧ running.ClassesLegal ∧
    running.isTrue ⟨2, 0⟩ = false ∧ ∀ m : Dig, running.stopInForce m.motion = false := by
  refine ⟨⟨⟨rfl, rfl⟩, rfl, rfl⟩, rfl, classesLegal_of _ (by decide +kernel), by decide +kernel, forall_dig.2 ⟨?_, ?_, ?_⟩⟩ <;>
    decide +kernel

theorem witness_LinesCarryFrames :
    quiet.Runs ∧ quiet.Awaits .cab ∧ (Instr.read (frame .service [4])).frame? = some (frame .service [4]) ∧
      ((answering .service .nothing quiet).ports.get .service).answer.isSome = true := ⟨rfl, rfl, rfl, rfl⟩

end Sys2Proof.Tests
end

section
/-! SUPPORT. The count channels as every step leaves them (01): the law of one channel record, what each operation on it
does to that law, and the operations that touch neither a channel record nor a constant. -/

namespace Sys2Proof.Machine

/-! ### The law of one channel record -/

/-- A position a channel can have: SWING within one revolution, the others within the range limits (R3, R4, R5). -/
def PositionLawful (cpr : Nat) (c : Motion) (p : Int) : Prop :=
  match c with
  | .swing => 0 ≤ p ∧ p < (cpr : Int)
  | .hoist => InLimits p
  | .drag => InLimits p
  | .walk => InLimits p

/-- A channel record within its ranges, with a suspect cause exactly in SUSPECT. -/
def Chan.Lawful (ch : Chan) (cpr : Nat) (c : Motion) : Prop :=
  PositionLawful cpr c ch.position ∧ ch.InRange ∧ (ch.refState = .suspect ↔ ch.suspectCause.isSome = true)

/-- The constants pass their tests and every channel record is lawful under them. -/
def State.CountsLawful (s : State) : Prop :=
  constantsPass s.k = true ∧ ∀ c, (s.chans.ch.get c).Lawful s.k.cprSwing c

theorem State.countsLawful_iff (s : State) : s.CountsLawful ↔ s.ChannelsInRange ∧ s.SuspectHasCause := by
  constructor
  · rintro ⟨pass, law⟩
    obtain ⟨⟨hoist, -⟩, ⟨drag, -⟩, ⟨swing, -⟩, ⟨walk, -⟩⟩ :=
      And.intro (law .hoist) (And.intro (law .drag) (And.intro (law .swing) (law .walk)))
    exact ⟨⟨pass, hoist, drag, walk, swing.1, swing.2, fun c => (law c).2.1⟩, fun c => (law c).2.2⟩
  · rintro ⟨⟨pass, hoist, drag, walk, swing, swing', ranges⟩, cause⟩
    refine ⟨pass, fun c => ⟨?_, ranges c, cause c⟩⟩
    cases c
    exacts [hoist, drag, ⟨swing, swing'⟩, walk]

theorem inRateRange_zero : InRateRange 0 := ⟨by decide, by decide⟩

theorem positionLawful_zero {cpr : Nat} (h : 0 < cpr) (c : Motion) : PositionLawful cpr c 0 := by
  have zero : InLimits 0 := ⟨by decide, by decide⟩
  cases c
  exacts [zero, zero, ⟨Int.le_refl 0, Int.ofNat_lt.2 h⟩, zero]

/-- The rate counter keeps its saturation (R7). -/
theorem rateCounted_inRange (n : Int) (d : Dir) : InRateRange (rateCounted n d) := by
  unfold rateCounted rateLimit InRateRange
  omega

theorem quietAfter_le (q threshold : Nat) (rate : Int) : quietAfter q threshold rate ≤ 3 := by
  unfold quietAfter
  split <;> omega

theorem Chan.Lawful.suspected {ch : Chan} {cpr : Nat} {c : Motion} (h : ch.Lawful cpr c) (cause : SuspectCause) :
    (ch.suspected cause).Lawful cpr c :=
  ⟨h.1, h.2.1, by simp [Chan.suspected]⟩

theorem Chan.Lawful.unreferenced {ch : Chan} {cpr : Nat} {c : Motion} (h : ch.Lawful cpr c) :
    ch.unreferenced.Lawful cpr c :=
  ⟨h.1, h.2.1, by simp [Chan.unreferenced]⟩

theorem Chan.Lawful.armed {ch : Chan} {cpr : Nat} {c : Motion} (h : ch.Lawful cpr c) (b : Bool) :
    Chan.Lawful { ch with armed := b } cpr c := h

theorem Chan.Lawful.tick {ch : Chan} {cpr : Nat} {c : Motion} (h : ch.Lawful cpr c) : ch.tick.Lawful cpr c := h

theorem Chan.Lawful.at {ch : Chan} {cpr : Nat} {c : Motion} (h : ch.Lawful cpr c) {cpr' : Nat} {p : Int}
    (hp : PositionLawful cpr' c p) : Chan.Lawful { ch with position := p } cpr' c := ⟨hp, h.2⟩

theorem Chan.Lawful.counted {ch : Chan} {cpr : Nat} {c : Motion} (h : ch.Lawful cpr c) (d : Dir) {p : Int} (off : Bool)
    (hp : PositionLawful cpr c p) : (ch.counted d p off).Lawful cpr c := by
  obtain ⟨-, ⟨-, rate, quiet⟩, cause⟩ := h
  exact ⟨hp, ⟨rateCounted_inRange _ _, rate, quiet⟩, cause⟩

/-- A position that is not beyond a range limit is within the limits. -/
theorem inLimits_of_not_beyond {p : Int} (h : ¬ (p < positionMin ∨ positionMax < p)) : InLimits p := by
  unfold positionMin positionMax at h
  unfold InLimits
  omega

theorem Chan.Lawful.countedInRange {ch : Chan} {cpr : Nat} {c : Motion} (h : ch.Lawful cpr c) (hc : c ≠ .swing) (d : Dir)
    (p : Int) (off : Bool) : (ch.countedInRange d p off).Lawful cpr c := by
  unfold Chan.countedInRange
  split
  · exact h.suspected .limit
  · next inside =>
    refine h.counted d off ?_
    have := inLimits_of_not_beyond inside
    cases c
    exacts [this, this, absurd rfl hc, this]

theorem Chan.Lawful.walkCounted {ch : Chan} {cpr : Nat} (h : ch.Lawful cpr .walk) (cprWalk : Nat) (d : Dir) :
    (ch.walkCounted cprWalk d).Lawful cpr .walk := by
  unfold Chan.walkCounted
  dsimp only
  split
  · exact h.suspected .limit
  · next inside =>
    have counted := h.counted d (p := ch.position + Dir.sign d) false (inLimits_of_not_beyond inside)
    split
    · exact counted.suspected .missedIndex
    · exact counted

/-- A SWING count stays within one revolution (R4). -/
theorem swingCounted_lawful {p : Int} {cpr : Nat} (h : PositionLawful cpr .swing p) (d : Dir) :
    PositionLawful cpr .swing (swingCounted p cpr d).1 := by
  obtain ⟨low, high⟩ := h
  unfold swingCounted
  cases d <;> dsimp only <;> split <;> constructor <;> dsimp only <;> omega

theorem Chan.Lawful.windowEnded {ch : Chan} {cpr : Nat} {c : Motion} (h : ch.Lawful cpr c) (x : ChannelConstants) :
    (ch.windowEnded x).Lawful cpr c := by
  obtain ⟨position, ⟨counter, -, -⟩, cause⟩ := h
  have ended : Chan.Lawful
      { ch with
        rate := ch.rateCounter
        rateCounter := 0
        quietWindows := quietAfter ch.quietWindows x.stoppedThreshold ch.rateCounter
        windowLeft := x.rateWindow } cpr c :=
    ⟨position, ⟨inRateRange_zero, counter, quietAfter_le _ _ _⟩, cause⟩
  unfold Chan.windowEnded
  dsimp only
  split
  · exact ended.suspected .jump
  · exact ended

theorem Chan.Lawful.atEdge {ch : Chan} {cpr : Nat} {c : Motion} (h : ch.Lawful cpr c) (k : Constants) (now : Nat)
    (hv : PositionLawful cpr c (refValueOf k c)) : (ch.atEdge k c now).Lawful cpr c := by
  obtain ⟨position, ranges, cause⟩ := h
  unfold Chan.atEdge
  split
  · refine ⟨?_, ranges, cause⟩
    dsimp only
    split
    · exact hv
    · exact position
  · exact ⟨hv, ranges, by simp⟩

theorem Chan.cold_lawful (window : Nat) {cpr : Nat} (hcpr : 0 < cpr) (c : Motion) : (Chan.cold window).Lawful cpr c :=
  ⟨positionLawful_zero hcpr c, ⟨inRateRange_zero, inRateRange_zero, Nat.zero_le 3⟩, by simp [Chan.cold]⟩

/-! ### What the load check of the constants says of the channels (R176) -/

theorem within_iff {lo hi v : Int} : within lo hi v = true ↔ lo ≤ v ∧ v ≤ hi := decide_eq_true_iff

theorem constantsPass_inRange {k : Constants} (h : constantsPass k = true) {key : ConstKey} (hk : key ∈ constantKeys) :
    constInRange key.no (constValue k key) = true := by
  unfold constantsPass constantsInRange at h
  rw [Bool.and_eq_true, List.all_eq_true] at h
  exact h.1 key hk

theorem cprSwing_pos {k : Constants} (h : constantsPass k = true) : 0 < k.cprSwing := by
  have range : within 4096 1048576 (k.cprSwing : Int) = true :=
    constantsPass_inRange h (key := ⟨4, some .swing⟩) (by decide)
  have := within_iff.1 range
  omega

/-- The reference value of a channel is a position of it (R12, R176). -/
theorem refValue_lawful {k : Constants} (h : constantsPass k = true) (c : Motion) :
    PositionLawful k.cprSwing c (refValueOf k c) := by
  cases c
  · have range : within (-134217728) 134217727 k.refValueHoist = true :=
      constantsPass_inRange h (key := ⟨5, some .hoist⟩) (by decide)
    exact within_iff.1 range
  · have range : within (-134217728) 134217727 k.refValueDrag = true :=
      constantsPass_inRange h (key := ⟨5, some .drag⟩) (by decide)
    exact within_iff.1 range
  · exact positionLawful_zero (cprSwing_pos h) .swing
  · exact positionLawful_zero (cprSwing_pos h) .walk

/-! ### Operations on a channel of the state -/

theorem State.CountsLawful.onChan {s : State} (h : s.CountsLawful) (c : Motion) {f : Chan → Chan}
    (hf : ∀ ch, ch.Lawful s.k.cprSwing c → (f ch).Lawful s.k.cprSwing c) : (s.onChan c f).CountsLawful := by
  refine ⟨h.1, fun d => ?_⟩
  by_cases hd : d = c
  · subst hd
    simpa using hf _ (h.2 d)
  · simpa [PerMotion.get_set_ne _ _ hd] using h.2 d

end Sys2Proof.Machine
end

section
/-! SUPPORT. A write of a constant, read back: the key written reads as the value sent, every other key as before, and the
load check of the ranges is kept (R175, R176, R177). -/

namespace Sys2Proof.Machine

/-! ### A constant written and read back (R175, R176) -/

/-- Two functions whose values on a list differ in the place of one key at most agree on every other key. -/
theorem eq_of_map_eq_set {α : Type} [DecidableEq α] {keys : List α} {f g : α → Int} {a b : α} {x : Int}
    (h : keys.map g = (keys.map f).set (keys.idxOf a) x) (hb : b ∈ keys) (ne : b ≠ a) : g b = f b := by
  obtain ⟨i, hi, rfl⟩ := List.getElem_of_mem hb
  have apart : keys.idxOf a ≠ i := fun e => ne (by subst e; exact List.getElem_idxOf _)
  have place := congrArg (·[i]?) h
  simpa [hi, List.getElem_set_ne apart] using place

/-- The values of the constants that are not kept per channel, in the order of NEXT. -/
def machineValues (k : Constants) : List Int :=
  [(k.hoistBand : Int), (k.dragBand : Int), permissionValue k.defaultPermission.hoist,
    permissionValue k.defaultPermission.drag, permissionValue k.defaultPermission.swing, (k.swingLookahead : Int),
    permissionValue k.unreferencedPermission.hoist, permissionValue k.unreferencedPermission.drag,
    permissionValue k.unreferencedPermission.swing, (k.fittedCount : Int), (k.withdrawn.toNat : Int),
    (k.contactorProofTime : Int), (k.transferAttempts : Int), attemptPolicyValue k.attemptPolicy,
    parkPolicyValue k.parkPolicy, (k.releaseHold : Int), (k.recallLimit : Int), (k.recallBase : Int),
    (k.rotationCount : Int), (k.starveTime : Int), (k.minimumComplement.hoist : Int), (k.fullComplement.hoist : Int),
    (k.minimumComplement.drag : Int), (k.fullComplement.drag : Int), (k.minimumComplement.swing : Int),
    (k.fullComplement.swing : Int), (k.brakeProofTime : Int), (k.stopTimeout : Int), (k.shoeEnd : Int),
    (k.strideEnd : Int), (k.setDownEnd : Int), (k.dwellTenths : Int), (k.phaseTimeout : Int), (k.prepareTimeout : Int),
    (k.minimumComplement.walk : Int), (k.fullComplement.walk : Int), (k.headingTolerance : Int),
    (k.groundedPayout : Int), (k.escalationWindow : Int), (k.cabLinkPeriod : Int)]

theorem map_machineConst (k : Constants) : machineConstants.map (machineConst k) = machineValues k := rfl

/-- A write of one constant changes one place of the list. -/
theorem machineValues_setMachineConst (k : Constants) {n : Nat} (hn : n ∈ machineConstants) (v : Int) :
    ∃ x, machineValues (setMachineConst k n v) = (machineValues k).set (machineConstants.idxOf n) x := by
  simp only [machineConstants, List.mem_cons, List.not_mem_nil, or_false] at hn
  rcases hn with rfl | rfl | rfl | rfl | rfl | rfl | rfl | rfl | rfl | rfl | rfl | rfl | rfl | rfl | rfl | rfl | rfl | rfl |
    rfl | rfl | rfl | rfl | rfl | rfl | rfl | rfl | rfl | rfl | rfl | rfl | rfl | rfl | rfl | rfl | rfl | rfl | rfl | rfl |
    rfl | rfl <;>
  dsimp only [setMachineConst] <;> exact ⟨_, rfl⟩

theorem machineConst_setMachineConst_ne (k : Constants) {n m : Nat} (hn : n ∈ machineConstants)
    (hm : m ∈ machineConstants) (h : m ≠ n) (v : Int) : machineConst (setMachineConst k n v) m = machineConst k m := by
  obtain ⟨x, hx⟩ := machineValues_setMachineConst k hn v
  rw [← map_machineConst, ← map_machineConst] at hx
  exact eq_of_map_eq_set hx hm h

theorem toNat_of_within {lo hi v : Int} (hlo : 0 ≤ lo) (h : within lo hi v = true) : (v.toNat : Int) = v :=
  Int.toNat_of_nonneg (hlo.trans (within_iff.1 h).1)

theorem permissionValue_permissionAt {v : Int} (h : within 0 3 v = true) : permissionValue (permissionAt v) = v := by
  obtain ⟨low, high⟩ := within_iff.1 h
  interval_cases v <;> rfl

/-- An enumerated constant with two values, written by its position, reads as that position. -/
theorem value_ite_eq {α : Type} {value : α → Int} {a b : α} {v : Int} (ha : value a = 0) (hb : value b = 1)
    (h : within 0 1 v = true) : value (if v = 0 then a else b) = v := by
  obtain ⟨low, high⟩ := within_iff.1 h
  split <;> omega

theorem toNat_ofNat_twelve {v : Int} (h : within 0 4095 v = true) : ((BitVec.ofNat 12 v.toNat).toNat : Int) = v := by
  obtain ⟨low, high⟩ := within_iff.1 h
  rw [BitVec.toNat_ofNat]
  omega

theorem toNat_of_proofTime {v : Int} (h : (within 100 2000 v && decide (v % 50 = 0)) = true) : (v.toNat : Int) = v :=
  toNat_of_within (by decide) (Bool.and_eq_true_iff.1 h).1

theorem toNat_of_linkPeriod {v : Int} (h : decide (v = 250 ∨ v = 500 ∨ v = 1000 ∨ v = 2000) = true) :
    (v.toNat : Int) = v := by
  have := of_decide_eq_true h
  omega

/-- A constant in its range, written, reads as the value sent. -/
theorem machineConst_setMachineConst_self (k : Constants) (v : Int) :
    ∀ n ∈ machineConstants, constInRange n v = true → machineConst (setMachineConst k n v) n = v := by
  simp only [machineConstants, List.forall_mem_cons]
  have nat : ∀ {lo hi : Int}, 0 ≤ lo → within lo hi v = true → (v.toNat : Int) = v := toNat_of_within
  have perm := permissionValue_permissionAt (v := v)
  have attempt := value_ite_eq (value := attemptPolicyValue) (v := v) (a := .lockOut) (b := .keepTrying) rfl rfl
  have park := value_ite_eq (value := parkPolicyValue) (v := v) (a := .parkLast) (b := .openContactor) rfl rfl
  exact ⟨nat (by decide), nat (by decide), perm, perm, perm, nat (by decide), perm, perm, perm, nat (by decide),
    toNat_ofNat_twelve, toNat_of_proofTime, nat (by decide), attempt, park,
    nat (by decide), nat (by decide), nat (by decide), nat (by decide), nat (by decide), nat (by decide),
    nat (by decide), nat (by decide), nat (by decide), nat (by decide), nat (by decide), nat (by decide),
    nat (by decide), nat (by decide), nat (by decide), nat (by decide), nat (by decide), nat (by decide),
    nat (by decide), nat (by decide), nat (by decide), nat (by decide), nat (by decide), nat (by decide),
    toNat_of_linkPeriod, by simp⟩

theorem channelConst_setMachineConst (k : Constants) (n : Nat) (v : Int) (m : Nat) (c : Motion) :
    channelConst (setMachineConst k n v) m c = channelConst k m c := by
  unfold setMachineConst
  split <;> rfl

theorem machineConst_setChannelConst (k : Constants) (n : Nat) (c : Motion) (v : Int) (m : Nat) :
    machineConst (setChannelConst k n c v) m = machineConst k m := by
  unfold setChannelConst
  split
  all_goals cases c <;> rfl

/-- The keys of the constants kept per channel, in the order of NEXT. -/
def channelKeys : List ConstKey := channelConstants.flatMap fun n => (channelsOf n).map fun c => ⟨n, some c⟩

/-- The values of the constants kept per channel, in the order of NEXT. -/
def channelValues (k : Constants) : List Int :=
  [multiplierValue k.channel.hoist.multiplier, multiplierValue k.channel.drag.multiplier,
    multiplierValue k.channel.swing.multiplier, multiplierValue k.channel.walk.multiplier,
    modeValue k.channel.hoist.mode, modeValue k.channel.drag.mode, modeValue k.channel.swing.mode,
    modeValue k.channel.walk.mode,
    senseValue k.channel.hoist.sense, senseValue k.channel.drag.sense, senseValue k.channel.swing.sense,
    senseValue k.channel.walk.sense,
    (k.cprSwing : Int), (k.cprWalk : Int), k.refValueHoist, k.refValueDrag,
    dirValue k.reference.hoist.direction, dirValue k.reference.drag.direction, dirValue k.reference.swing.direction,
    qualifierValue k.reference.hoist.qualifier, qualifierValue k.reference.drag.qualifier,
    qualifierValue k.reference.swing.qualifier,
    refModeValue k.reference.hoist.mode, refModeValue k.reference.drag.mode, refModeValue k.reference.swing.mode,
    (k.channel.hoist.rateWindow : Int), (k.channel.drag.rateWindow : Int), (k.channel.swing.rateWindow : Int),
    (k.channel.walk.rateWindow : Int),
    (k.channel.hoist.stoppedThreshold : Int), (k.channel.drag.stoppedThreshold : Int),
    (k.channel.swing.stoppedThreshold : Int), (k.channel.walk.stoppedThreshold : Int),
    (k.channel.hoist.overspeedLimit : Int), (k.channel.drag.overspeedLimit : Int),
    (k.channel.swing.overspeedLimit : Int), (k.channel.walk.overspeedLimit : Int),
    (k.channel.hoist.plausibilityLimit : Int), (k.channel.drag.plausibilityLimit : Int),
    (k.channel.swing.plausibilityLimit : Int), (k.channel.walk.plausibilityLimit : Int)]

theorem map_constValue_channelKeys (k : Constants) : channelKeys.map (constValue k) = channelValues k := rfl

theorem channelKeys_eq : channelKeys =
    [⟨1, some .hoist⟩, ⟨1, some .drag⟩, ⟨1, some .swing⟩, ⟨1, some .walk⟩,
      ⟨2, some .hoist⟩, ⟨2, some .drag⟩, ⟨2, some .swing⟩, ⟨2, some .walk⟩,
      ⟨3, some .hoist⟩, ⟨3, some .drag⟩, ⟨3, some .swing⟩, ⟨3, some .walk⟩,
      ⟨4, some .swing⟩, ⟨4, some .walk⟩, ⟨5, some .hoist⟩, ⟨5, some .drag⟩,
      ⟨6, some .hoist⟩, ⟨6, some .drag⟩, ⟨6, some .swing⟩,
      ⟨7, some .hoist⟩, ⟨7, some .drag⟩, ⟨7, some .swing⟩,
      ⟨8, some .hoist⟩, ⟨8, some .drag⟩, ⟨8, some .swing⟩,
      ⟨9, some .hoist⟩, ⟨9, some .drag⟩, ⟨9, some .swing⟩, ⟨9, some .walk⟩,
      ⟨10, some .hoist⟩, ⟨10, some .drag⟩, ⟨10, some .swing⟩, ⟨10, some .walk⟩,
      ⟨11, some .hoist⟩, ⟨11, some .drag⟩, ⟨11, some .swing⟩, ⟨11, some .walk⟩,
      ⟨12, some .hoist⟩, ⟨12, some .drag⟩, ⟨12, some .swing⟩, ⟨12, some .walk⟩] := by decide

/-- A write of one constant changes one place of the list. -/
theorem channelValues_setConst (k : Constants) {key : ConstKey} (h : key ∈ channelKeys) (v : Int) :
    ∃ x, channelValues (setConst k key v) = (channelValues k).set (channelKeys.idxOf key) x := by
  simp only [channelKeys_eq, List.mem_cons, List.not_mem_nil, or_false] at h
  rcases h with rfl | rfl | rfl | rfl | rfl | rfl | rfl | rfl | rfl | rfl | rfl | rfl | rfl | rfl | rfl | rfl | rfl | rfl |
    rfl | rfl | rfl | rfl | rfl | rfl | rfl | rfl | rfl | rfl | rfl | rfl | rfl | rfl | rfl | rfl | rfl | rfl | rfl | rfl |
    rfl | rfl | rfl <;>
  exact ⟨_, rfl⟩

theorem multiplierValue_multiplierOf {v : Int} (h : decide (v = 1 ∨ v = 2 ∨ v = 4) = true) :
    multiplierValue (multiplierOf v) = v := by
  rcases of_decide_eq_true h with rfl | rfl | rfl <;> rfl

theorem toNat_of_rateWindow {v : Int} (h : decide (v = 25 ∨ v = 50 ∨ v = 100 ∨ v = 200) = true) : (v.toNat : Int) = v := by
  have := of_decide_eq_true h
  omega

theorem channelConst_setConst_self (k : Constants) (v : Int) :
    ∀ key ∈ channelKeys, constInRange key.no v = true → constValue (setConst k key v) key = v := by
  simp only [channelKeys_eq, List.forall_mem_cons]
  have nat : ∀ {lo hi : Int}, 0 ≤ lo → within lo hi v = true → (v.toNat : Int) = v := toNat_of_within
  have mult := multiplierValue_multiplierOf (v := v)
  have mode := value_ite_eq (value := modeValue) (v := v) (a := .quadrature) (b := .countDirection) rfl rfl
  have sense := value_ite_eq (value := senseValue) (v := v) (a := .normal) (b := .inverted) rfl rfl
  have dir := value_ite_eq (value := dirValue) (v := v) (a := .plus) (b := .minus) rfl rfl
  have qual := value_ite_eq (value := qualifierValue) (v := v) (a := .switch) (b := .switchThenIndex) rfl rfl
  have ref := value_ite_eq (value := refModeValue) (v := v) (a := .once) (b := .everyEdge) rfl rfl
  have window := toNat_of_rateWindow (v := v)
  exact ⟨mult, mult, mult, mult, mode, mode, mode, mode, sense, sense, sense, sense, nat (by decide), nat (by decide),
    fun _ => rfl, fun _ => rfl, dir, dir, dir, qual, qual, qual, ref, ref, ref, window, window, window, window,
    nat (by decide), nat (by decide), nat (by decide), nat (by decide), nat (by decide), nat (by decide),
    nat (by decide), nat (by decide), nat (by decide), nat (by decide), nat (by decide), nat (by decide), by simp⟩

theorem mem_constantKeys {key : ConstKey} :
    key ∈ constantKeys ↔ key ∈ channelKeys ∨ ∃ n ∈ machineConstants, key = ⟨n, none⟩ := by
  unfold constantKeys
  rw [List.mem_append, List.mem_map]
  exact or_congr Iff.rfl ⟨fun ⟨n, hn, e⟩ => ⟨n, hn, e.symm⟩, fun ⟨n, hn, e⟩ => ⟨n, hn, e.symm⟩⟩

theorem mem_channelKeys {key : ConstKey} :
    key ∈ channelKeys ↔ ∃ n ∈ channelConstants, ∃ c ∈ channelsOf n, key = ⟨n, some c⟩ := by
  simp only [channelKeys, List.mem_flatMap, List.mem_map, eq_comm]

/-- A constant in its range, written, reads as the value sent (R175, R177). -/
theorem constValue_setConst_self (k : Constants) {key : ConstKey} {v : Int} (h : key ∈ constantKeys)
    (hv : constInRange key.no v = true) : constValue (setConst k key v) key = v := by
  rcases mem_constantKeys.1 h with channel | ⟨n, hn, rfl⟩
  · exact channelConst_setConst_self k v key channel hv
  · exact machineConst_setMachineConst_self k v n hn hv

/-- A write changes no constant of another key (R177). -/
theorem constValue_setConst_ne (k : Constants) {key other : ConstKey} (h : key ∈ constantKeys)
    (ho : other ∈ constantKeys) (ne : other ≠ key) (v : Int) : constValue (setConst k key v) other = constValue k other := by
  rcases mem_constantKeys.1 h with channel | ⟨n, hn, rfl⟩ <;> rcases mem_constantKeys.1 ho with channel' | ⟨m, hm, rfl⟩
  · obtain ⟨x, hx⟩ := channelValues_setConst k channel v
    rw [← map_constValue_channelKeys, ← map_constValue_channelKeys] at hx
    exact eq_of_map_eq_set hx channel' ne
  · obtain ⟨n, -, c, -, rfl⟩ := mem_channelKeys.1 channel
    exact machineConst_setChannelConst k _ c v m
  · obtain ⟨m, -, c, -, rfl⟩ := mem_channelKeys.1 channel'
    exact channelConst_setMachineConst k _ v m c
  · exact machineConst_setMachineConst_ne k hn hm (fun e => ne (by rw [e])) v

theorem constantsInRange_setConst {k : Constants} {key : ConstKey} {v : Int} (hk : constantsInRange k = true)
    (h : key ∈ constantKeys) (hv : constInRange key.no v = true) : constantsInRange (setConst k key v) = true := by
  unfold constantsInRange at hk ⊢
  rw [List.all_eq_true] at hk ⊢
  intro other ho
  by_cases e : other = key
  · subst e
    rwa [constValue_setConst_self k h hv]
  · rw [constValue_setConst_ne k h ho e]
    exact hk other ho

/-- A write of another constant leaves counts per revolution of SWING. -/
theorem cprSwing_setConst (k : Constants) {key : ConstKey} (h : key ∈ constantKeys) (ne : key ≠ ⟨4, some .swing⟩) (v : Int) :
    (setConst k key v).cprSwing = k.cprSwing :=
  Int.ofNat_inj.1 (constValue_setConst_ne k h (other := ⟨4, some .swing⟩) (by decide) ne.symm v)

theorem mem_constantKeys_of_constKeyOf {no channel : Nat} {key : ConstKey} (h : constKeyOf no channel = .ok key) :
    key ∈ constantKeys := by
  unfold constKeyOf at h
  split at h
  · next number =>
    split at h
    · next c _ =>
      split at h
      · next has =>
        cases h
        exact mem_constantKeys.2 (.inl (mem_channelKeys.2
          ⟨no, List.contains_iff_mem.1 number, c, List.contains_iff_mem.1 has, rfl⟩))
      · cases h
    · cases h
  · split at h
    · next number =>
      split at h
      · cases h
        exact mem_constantKeys.2 (.inr ⟨no, List.contains_iff_mem.1 number, rfl⟩)
      · cases h
    · cases h

/-- A parsed WRITE CONSTANT names a listed constant, with a value in its range (R166). -/
theorem parseWriteConstant_ok {s : State} {fs : List Byte} {key : ConstKey} {v : Int}
    (h : parseWriteConstant s fs = .ok (key, v)) : key ∈ constantKeys ∧ constInRange key.no v = true := by
  unfold parseWriteConstant at h
  split at h
  · next no channel v3 v2 v1 v0 =>
    cases hkey : constKeyOf no.toNat channel.toNat with
    | error st => simp [hkey, bind, Except.bind] at h
    | ok found =>
      cases hrange : constInRange found.no (beInt32 [v3, v2, v1, v0]) with
      | false => simp [hkey, hrange, require, bind, Except.bind] at h
      | true =>
        simp only [hkey, hrange, require, bind, Except.bind, pure, Except.pure, if_true, Except.ok.injEq,
          Prod.mk.injEq] at h
        obtain ⟨rfl, rfl⟩ := h
        exact ⟨mem_constantKeys_of_constKeyOf hkey, hrange⟩
  · cases h

end Sys2Proof.Machine
end

section
/-! SUPPORT. The operations that touch neither a channel record nor a constant: the zone table and the resolver, the
generators, the brakes and the walk, the supply and the store, and what the ports read. -/

namespace Sys2Proof.Machine

/-! ### What touches no constant and no channel record -/

/-- The constants and the four channel records are the same. -/
structure State.SameCounts (s t : State) : Prop where
  k : t.k = s.k
  ch : t.chans.ch = s.chans.ch

theorem State.SameCounts.refl (s : State) : s.SameCounts s := ⟨rfl, rfl⟩

theorem State.SameCounts.trans {s t u : State} (h : s.SameCounts t) (g : t.SameCounts u) : s.SameCounts u :=
  ⟨g.k.trans h.k, g.ch.trans h.ch⟩

theorem State.SameRecords.counts {s t : State} (h : s.SameRecords t) : s.SameCounts t :=
  ⟨h.k, congrArg Channels.ch h.chans⟩

/-- Records kept from a state with the same counts on. -/
theorem State.SameRecords.countsFrom {s t u : State} (h : t.SameRecords u) (k : t.k = s.k) (ch : t.chans.ch = s.chans.ch) :
    s.SameCounts u :=
  .trans ⟨k, ch⟩ h.counts

theorem State.SameCounts.ite {s t u : State} {p : Prop} [Decidable p] (ht : s.SameCounts t) (hu : s.SameCounts u) :
    s.SameCounts (if p then t else u) := by
  split
  exacts [ht, hu]

theorem State.SameCounts.foldl {α : Type} {f : State → α → State} (h : ∀ (s : State) (a : α), s.SameCounts (f s a))
    (l : List α) (s : State) : s.SameCounts (l.foldl f s) := by
  induction l generalizing s with
  | nil => exact .refl s
  | cons a l ih => exact (h s a).trans (ih (f s a))

theorem State.CountsLawful.same {s t : State} (h : s.CountsLawful) (same : s.SameCounts t) : t.CountsLawful := by
  unfold State.CountsLawful
  rw [same.k, same.ch]
  exact h

/-! #### Zone table and resolver -/

theorem State.onSlot_counts (s : State) (i : Fin 40) (f : ZoneSlot → ZoneSlot) : s.SameCounts (s.onSlot i f) := ⟨rfl, rfl⟩

theorem State.markDefective_counts (s : State) (i : Fin 40) : s.SameCounts (s.markDefective i) :=
  ((State.setCondition_same _ _ _).trans (State.setCondition_same _ _ _)).countsFrom rfl rfl

theorem State.checkHeld_counts (s : State) (i : Fin 40) : s.SameCounts (s.checkHeld i) := by
  unfold State.checkHeld
  split
  · exact .refl s
  · exact (s.onSlot_counts i _).trans ((State.raiseEvent_same _ _).trans (State.lookDropped_same _)).counts
  · exact s.markDefective_counts i

theorem State.checkBody_counts (s : State) (i : Fin 40) : s.SameCounts (s.checkBody i) := by
  unfold State.checkBody
  split
  exacts [s.onSlot_counts i _, .refl s, s.checkHeld_counts i, s.checkHeld_counts i]

theorem State.checkAll_counts (s : State) : s.SameCounts s.checkAll := .foldl State.checkBody_counts _ s

theorem State.markSites_counts (s : State) : s.SameCounts s.markSites := by
  refine State.SameCounts.trans ?_ (State.onWalk_same _ _).counts
  unfold State.markStale
  refine State.SameCounts.ite ?_ (.refl s)
  exact (State.setCondition_same _ _ _).countsFrom rfl rfl

theorem State.bodiesFault_counts (s : State) (faults : List StorageFault) : s.SameCounts (s.bodiesFault faults) :=
  .foldl (fun s _ => s.onSlot_counts _ _) faults s

theorem State.compareEpoch_counts (s : State) (f : InFlight) : s.SameCounts (s.compareEpoch f) := ⟨rfl, rfl⟩

theorem State.resolutionEnds_counts (s : State) : s.SameCounts s.resolutionEnds := by
  unfold State.resolutionEnds
  split
  · exact .refl s
  · exact s.checkAll_counts.trans (State.compareEpoch_counts _ _)

/-! #### Generators, brakes and the walk -/

theorem State.inRun_same (s : State) {f : State → State} (hf : s.SameRecords (f s)) : s.SameRecords (s.inRun f) :=
  (State.SameRecords.refl s).ite hf

theorem State.genTakes_same (s : State) (g : Fin 12) (f : Gen → GenResult) : s.SameRecords (s.genTakes g f) :=
  ((s.onGen_same g _).trans (State.raiseEvent_same _ _)).ite (s.onGen_same g _)

theorem State.holdExpires_same (s : State) (m : Dig) : s.SameRecords (s.holdExpires m) :=
  (s.endHold_same m).ite (.refl s)

theorem State.starves_same (s : State) (m : Motion) : s.SameRecords (s.starves m) :=
  (s.raiseCondition_same _).ite (.refl s)

theorem State.brakeShowsReleased_same (s : State) (m : Motion) : s.SameRecords (s.brakeShowsReleased m) :=
  s.inRun_same (((s.onBrake_same m _).trans (State.raiseCondition_same _ _)).ite (.refl s))

theorem State.brakeShowsSet_same (s : State) (m : Motion) : s.SameRecords (s.brakeShowsSet m) :=
  s.inRun_same (((s.onBrake_same m _).trans (State.raiseEvent_same _ _)).ite (.refl s))

theorem State.releaseProofComes_same (s : State) (m : Motion) : s.SameRecords (s.releaseProofComes m) :=
  s.inRun_same (((s.onBrake_same m _).trans (State.putOff_same _ _)).ite (s.brakeShowsReleased_same m))

theorem State.releaseTimeEnds_same (s : State) (m : Motion) : s.SameRecords (s.releaseTimeEnds m) :=
  ((s.onBrake_same m _).trans (State.raiseEvent_same _ _)).ite (.refl s)

theorem State.setTimeEnds_same (s : State) (m : Motion) : s.SameRecords (s.setTimeEnds m) :=
  (((s.onBrake_same m _).trans (State.onBrake_same _ m _)).trans (State.raiseCondition_same _ _)).ite (s.onBrake_same m _)

theorem State.prepareTimesOut_same (s : State) : s.SameRecords s.prepareTimesOut :=
  ((s.onWalk_same _).trans (State.raiseEvent_same _ _)).ite (.refl s)

theorem State.phaseTimesOut_same (s : State) : s.SameRecords s.phaseTimesOut := by
  unfold State.phaseTimesOut
  split
  · exact (s.raiseEvent_same _).ite (.refl s)
  · exact .refl s

theorem State.dwellEnds_same (s : State) : s.SameRecords s.dwellEnds := (s.onWalk_same _).ite (.refl s)

theorem State.haltWalk_same (s : State) : s.SameRecords s.haltWalk := s.onWalk_same _

theorem State.walkPhaseFollows_same (s : State) : s.SameRecords s.walkPhaseFollows := by
  unfold State.walkPhaseFollows
  dsimp only
  exact State.SameRecords.ite (((s.onWalk_same _).trans (State.raiseEvent_same _ _)).ite (s.onWalk_same _)) (.refl s)

theorem State.walkAtIndex_same (s : State) : s.SameRecords s.walkAtIndex := by
  unfold State.walkAtIndex
  dsimp only
  refine State.SameRecords.ite (.refl s) (State.SameRecords.ite (State.SameRecords.ite ?_ ?_) (s.onWalk_same _))
  · exact (s.onWalk_same _).trans (State.onWalk_same _ _)
  · exact (s.onWalk_same _).trans (State.walkPhaseFollows_same _)

/-! #### Supply and the settings store -/

theorem State.starvedCleared_same (s : State) : s.SameRecords s.starvedCleared :=
  .foldl (fun s _ => s.clearCondition_same _) _ s

theorem State.holdupEntry_counts (s : State) : s.SameCounts s.holdupEntry :=
  ((State.raiseCondition_same _ _).trans (State.starvedCleared_same _)).countsFrom rfl rfl

theorem State.markAtReturn_counts (s : State) : s.SameCounts s.markAtReturn := s.markSites_counts.ite (.refl s)

theorem State.portsReturn_counts (s : State) : s.SameCounts s.portsReturn := ⟨rfl, rfl⟩

theorem State.backInRun_counts (s : State) : s.SameCounts s.backInRun := ⟨rfl, rfl⟩

theorem State.holdupReturn_counts (s : State) : s.SameCounts s.holdupReturn := by
  have records := (s.gensReturn_same.trans (State.resolverReturns_same _)).trans
    (State.SameRecords.foldl State.brakeReturns_same Motion.all _)
  refine (records.counts.trans (State.markAtReturn_counts _)).trans ?_
  exact ((State.portsReturn_counts _).trans (State.clearCondition_same _ _).counts).trans (State.backInRun_counts _)

theorem State.commitEnds_counts (s : State) (left : Option Image) : s.SameCounts (s.commitEnds left) := by
  unfold State.commitEnds
  split
  · exact .refl s
  · exact (State.setCondition_same _ _ _).countsFrom rfl rfl

/-! #### Requests -/

theorem State.cabFrame_counts (s : State) (p : Port) : s.SameCounts (s.cabFrame p) := by
  cases p
  · exact (State.SameCounts.refl s).ite ((State.clearCondition_same _ _).countsFrom rfl rfl)
  · exact .refl s

theorem State.checkedFor_counts (s : State) (key : RecordKey) : s.SameCounts (s.checkedFor key) := by
  cases key with
  | zone i => exact s.checkBody_counts i
  | _ => exact .refl s

theorem State.readTaken_counts (s : State) (key : RecordKey) : s.SameCounts (s.readTaken key).state := by
  have checked := s.checkedFor_counts key
  unfold State.readTaken
  dsimp only
  split
  exacts [checked, checked]

theorem State.nextTaken_counts (s : State) (start : NextKey) : s.SameCounts (s.nextTaken start).state := by
  unfold State.nextTaken
  split
  · exact s.readTaken_counts _
  · exact .refl s

theorem State.giveBackOne_same (s : State) (m : Motion) : s.SameRecords (s.giveBackOne m) := by
  unfold State.giveBackOne
  split
  · exact s.onGen_same _ _
  · split
    exacts [s.onGen_same _ _, .refl s]

theorem State.giveBackLoop_same (n : Nat) (m : Motion) (s : State) : s.SameRecords (State.giveBackLoop n m s) := by
  induction n generalizing s with
  | zero => exact .refl s
  | succ n ih => exact ((s.giveBackOne_same m).trans (ih _)).ite (.refl s)

theorem State.giveBack_same (s : State) (m : Motion) : s.SameRecords (s.giveBack m) :=
  ((s.onGens_same _).trans (State.giveBackLoop_same 12 m _)).ite (.refl s)

theorem State.demandActs_same (s : State) (m : Dig) (d : Option Dir) (c : Complement) :
    s.SameRecords (s.demandActs m d c) := by
  cases d
  · exact s.onMotion_same m fun r => r.demandNone c
  · exact State.SameRecords.trans (s.onMotion_same m _) (State.giveBack_same _ _)

end Sys2Proof.Machine
end

section
/-! SUPPORT. The requests that touch no count, the operations on the channels with what they do to the channel law, a write of
a constant, and the cold start. -/

namespace Sys2Proof.Machine

/-! #### Requests that touch no count -/

theorem State.demandTaken_same (s : State) (x : Dig × Option Dir × Complement) : s.SameRecords (s.demandTaken x).state := by
  unfold State.demandTaken
  dsimp only
  split
  · exact .refl s
  split
  · exact .refl s
  split
  · exact .refl s
  · exact s.demandActs_same _ _ _

theorem State.armAll_same (s : State) : s.SameRecords s.armAll := by constructor <;> rfl

theorem State.armTaken_same (s : State) (x : Option Dig) : s.SameRecords (s.armTaken x).state := by
  unfold State.armTaken
  split
  · split
    exacts [.refl s, s.onMotion_same _ _]
  · split
    exacts [s.armAll_same, .refl s]

theorem State.parkTaken_same (s : State) : s.SameRecords s.parkTaken.state := by
  unfold State.parkTaken
  split
  · split
    exacts [s.onGens_same _, .refl s]
  · exact .refl s

theorem State.lockDigs_same (s : State) : s.SameRecords s.lockDigs :=
  (((s.returnAll_same _).trans (State.returnAll_same _ _)).trans (State.returnAll_same _ _)).trans (State.onMotions_same _ _)

theorem State.walkTaken_counts (s : State) (o : WalkOrder) : s.SameCounts (s.walkTaken o).state := by
  unfold State.walkTaken
  split
  · exact .refl s
  · exact .trans s.lockDigs_same.counts ⟨rfl, rfl⟩

theorem State.resumeTaken_same (s : State) : s.SameRecords s.resumeTaken.state := by
  unfold State.resumeTaken
  split
  · exact .refl s
  · constructor <;> rfl

theorem State.cancelled_same (s : State) : s.SameRecords s.cancelled :=
  ((s.onWalk_same _).trans (State.onMotions_same _ _)).ite ((s.onWalk_same _).trans (State.walkPass_same _))

theorem State.cancelReply_state (s : State) : s.cancelReply.state = s := by
  unfold State.cancelReply
  split <;> rfl

theorem State.cancelTaken_same (s : State) : s.SameRecords s.cancelTaken.state := by
  have cancelled : s.SameRecords s.cancelled.cancelReply.state := by
    rw [State.cancelReply_state]
    exact s.cancelled_same
  unfold State.cancelTaken
  split
  · exact .refl s
  split
  · exact cancelled
  · split
    exacts [cancelled, .refl s]
  · exact .refl s
  · exact .refl s

theorem State.writeZoneTaken_counts (s : State) (w : ZoneWrite) : s.SameCounts (s.writeZoneTaken w).state := by
  unfold State.writeZoneTaken
  dsimp only
  split
  · exact .refl s
  split
  · exact .refl s
  split
  · exact .refl s
  · exact ⟨rfl, rfl⟩

theorem State.retireZoneTaken_counts (s : State) (x : Fin 40 × BitVec 16) :
    s.SameCounts (s.retireZoneTaken x).state := by
  unfold State.retireZoneTaken
  dsimp only
  split
  · exact .refl s
  split
  · exact .refl s
  · exact ⟨rfl, rfl⟩

theorem State.confirmOne_counts (s : State) (i : Fin 40) (e : Option (BitVec 16)) :
    s.SameCounts (s.confirmOne i e).state := by
  unfold State.confirmOne
  dsimp only
  split
  · exact .refl s
  split
  · exact .refl s
  · exact ⟨rfl, rfl⟩

theorem State.confirmAll_counts (s : State) : s.SameCounts s.confirmAll.state := by
  unfold State.confirmAll
  split
  · exact ⟨rfl, rfl⟩
  · exact .refl s

theorem State.confirmTaken_counts (s : State) (x : Option (Fin 40 × Option (BitVec 16))) :
    s.SameCounts (s.confirmTaken x).state := by
  unfold State.confirmTaken
  split
  · exact .refl s
  split
  exacts [s.confirmOne_counts _ _, s.confirmAll_counts]

theorem State.acknowledgeTaken_same (s : State) (p : Port) (key : AlarmKey) :
    s.SameRecords (s.acknowledgeTaken p key).state := by
  unfold State.acknowledgeTaken
  split
  exacts [.refl s, s.withAlarms_same _]

theorem State.setShelf_same (s : State) (key : AlarmKey) (h : Option Shelf) : s.SameRecords (s.setShelf key h) :=
  s.withAlarms_same _

theorem State.shelveTaken_same (s : State) (x : AlarmKey × Nat) : s.SameRecords (s.shelveTaken x).state := by
  unfold State.shelveTaken
  split
  · exact .refl s
  · split
    exacts [.refl s, .refl s, s.setShelf_same _ _, s.setShelf_same _ _]

theorem State.unshelveTaken_same (s : State) (key : AlarmKey) : s.SameRecords (s.unshelveTaken key).state := by
  unfold State.unshelveTaken
  split
  · exact .refl s
  · split
    exacts [.refl s, s.setShelf_same _ _]

theorem State.genReplies_same (s : State) (g : Fin 12) (r : Gen × Status × Reason) :
    s.SameRecords (s.genReplies g r).state := by
  constructor <;> rfl

theorem State.withCommit_counts (s : State) (x : Option CommitRun) : s.SameCounts { s with commit := x } := ⟨rfl, rfl⟩

theorem State.commitBegun_counts (s : State) : s.SameCounts s.commitBegun :=
  s.checkAll_counts.trans (State.withCommit_counts _ _)

/-! ### Operations on the channels keep the law -/

theorem State.CountsLawful.countSwing {s : State} (h : s.CountsLawful) (d : Dir) : (s.countSwing d).CountsLawful := by
  have counted : (s.chans.ch.swing.counted d (swingCounted s.chans.ch.swing.position s.k.cprSwing d).1
      (disarms s.k .swing d)).Lawful s.k.cprSwing .swing :=
    Chan.Lawful.counted (h.2 .swing) d _ (swingCounted_lawful (h.2 .swing).1 d)
  refine ⟨h.1, fun c => ?_⟩
  cases c
  exacts [h.2 .hoist, h.2 .drag, counted, h.2 .walk]

theorem State.CountsLawful.countChan {s : State} (h : s.CountsLawful) (c : Motion) (d : Dir) :
    (s.countChan c d).CountsLawful := by
  cases c with
  | hoist => exact h.onChan .hoist fun _ law => law.countedInRange (by decide) d _ _
  | drag => exact h.onChan .drag fun _ law => law.countedInRange (by decide) d _ _
  | swing => exact h.countSwing d
  | walk => exact h.onChan .walk fun _ law => law.walkCounted _ d

theorem State.CountsLawful.count {s : State} (h : s.CountsLawful) (c : Motion) (d : Dir) : (s.count c d).CountsLawful := by
  unfold State.count
  split
  · unfold State.walkStrides
    split
    · exact h.countChan .walk d
    · exact (h.countChan .walk d).same (State.walkPhaseFollows_same _).counts
  · exact h.countChan c d

theorem State.CountsLawful.count? {s : State} (h : s.CountsLawful) (c : Motion) (d : Option Dir) :
    (s.count? c d).CountsLawful := by
  cases d
  exacts [h, h.count c _]

theorem State.CountsLawful.quadratureFault {s : State} (h : s.CountsLawful) (c : Motion) :
    (s.quadratureFault c).CountsLawful := by
  unfold State.quadratureFault
  split
  · exact h.onChan c fun _ law => law.suspected _
  · exact h

theorem State.CountsLawful.windowEnd {s : State} (h : s.CountsLawful) (c : Motion) : (s.windowEnd c).CountsLawful :=
  (h.onChan c fun _ law => law.windowEnded (s.k.channel.get c)).same
    ((State.unreferencedEnds_same _ c).trans (State.setCondition_same _ _ _)).counts

theorem State.CountsLawful.referenceEdge {s : State} (h : s.CountsLawful) (c : Motion) :
    (s.referenceEdge c).CountsLawful := by
  have edge : (s.onChan c fun ch => ch.atEdge s.k c s.now).CountsLawful :=
    h.onChan c fun _ law => law.atEdge s.k s.now (refValue_lawful h.1 c)
  unfold State.referenceEdge
  dsimp only
  split
  · exact edge.same ⟨rfl, rfl⟩
  · exact edge

theorem State.CountsLawful.arm {s : State} (h : s.CountsLawful) (c : Dig) (b : Bool) : (s.arm c b).CountsLawful :=
  h.onChan c.motion fun _ law => law.armed b

theorem State.CountsLawful.switchMade {s : State} (h : s.CountsLawful) (c : Dig) : (s.switchMade c).CountsLawful := by
  unfold State.switchMade
  split
  · split
    exacts [h.referenceEdge c.motion, h.arm c true]
  · exact h

theorem State.CountsLawful.encoderIndex {s : State} (h : s.CountsLawful) (c : Dig) :
    (s.encoderIndex c).CountsLawful := by
  unfold State.encoderIndex
  split
  exacts [(h.referenceEdge c.motion).arm c false, h]

theorem State.CountsLawful.camIndex {s : State} (h : s.CountsLawful) : s.camCounted.walkAtIndex.CountsLawful :=
  State.CountsLawful.same (s := s.camCounted) ((h.referenceEdge .walk).same ⟨rfl, rfl⟩) (State.walkAtIndex_same _).counts

theorem State.walkLiftsOff_counts (s : State) : s.SameCounts s.walkLiftsOff := by
  unfold State.walkLiftsOff
  dsimp only
  split
  · exact .refl s
  split
  · exact (s.onWalk_same _).counts.trans (State.markSites_counts _)
  · exact (s.onWalk_same _).counts

theorem State.tubLiftsOff_counts (s : State) : s.SameCounts s.tubLiftsOff := by
  have captured : s.SameCounts { s with chans := { s.chans with liftOff := some s.tubCapture } } := ⟨rfl, rfl⟩
  exact captured.trans (State.walkLiftsOff_counts _)

theorem State.walkSetsDown_same (s : State) : s.SameRecords s.walkSetsDown := (State.SameRecords.refl s).ite (s.onWalk_same _)

theorem State.tubSetsDown_counts (s : State) : s.SameCounts s.tubSetsDown :=
  (State.walkSetsDown_same { s with chans := { s.chans with setDown := some s.tubCapture } }).countsFrom rfl rfl

theorem State.CountsLawful.unreference {s : State} (h : s.CountsLawful) (c : Motion) : (s.unreference c).CountsLawful :=
  h.onChan c fun _ law => law.unreferenced

theorem State.CountsLawful.referenceResetTaken {s : State} (h : s.CountsLawful) (c : Motion) :
    (s.referenceResetTaken c).state.CountsLawful := by
  unfold State.referenceResetTaken
  split
  exacts [h, h.unreference c]

/-! ### WRITE CONSTANT keeps the law (R16, R176, R177) -/

/-- New constants that pass their tests, with counts per revolution of SWING as they were. -/
theorem State.CountsLawful.withConstants {s : State} (h : s.CountsLawful) {k : Constants} (pass : constantsPass k = true)
    (cpr : k.cprSwing = s.k.cprSwing) : State.CountsLawful { s with k := k } := by
  refine ⟨pass, fun c => ?_⟩
  rw [cpr]
  exact h.2 c

/-- New constants that pass their tests, with the SWING position reduced to the new counts per revolution (R16). -/
theorem State.CountsLawful.swingReduced {s : State} (h : s.CountsLawful) {k : Constants} (pass : constantsPass k = true) :
    (State.swingReduced { s with k := k }).CountsLawful := by
  have cpr : (0 : Int) < k.cprSwing := Int.ofNat_lt.2 (cprSwing_pos pass)
  have reduced := Chan.Lawful.at (h.2 .swing) (cpr' := k.cprSwing)
    (p := s.chans.ch.swing.position % (k.cprSwing : Int)) ⟨Int.emod_nonneg _ cpr.ne', Int.emod_lt_of_pos _ cpr⟩
  refine ⟨pass, fun c => ?_⟩
  cases c
  exacts [h.2 .hoist, h.2 .drag, reduced, h.2 .walk]

theorem State.machineWritten_counts (s : State) (no : Nat) (old : Constants) : s.SameCounts (s.machineWritten no old) := by
  unfold State.machineWritten
  split
  · exact ⟨rfl, rfl⟩
  · exact (s.withGens_same _).counts.ite (.refl s)

theorem State.CountsLawful.constantWritten {s : State} (h : s.CountsLawful) {key : ConstKey} (hk : key ∈ constantKeys)
    {v : Int} (pass : constantsPass (setConst s.k key v) = true) (old : Constants) :
    (State.constantWritten { s with k := setConst s.k key v } key old).CountsLawful := by
  by_cases cpr : key = ⟨4, some .swing⟩
  · subst cpr
    exact (h.swingReduced pass).unreference .swing
  · have written := h.withConstants pass (cprSwing_setConst s.k hk cpr v)
    unfold State.constantWritten
    split
    · next c channel =>
      unfold State.channelWritten
      split
      · refine State.CountsLawful.unreference ?_ c
        split
        · next four =>
          unfold State.cprWritten
          split
          · next swing => exact absurd (show key = ⟨4, some .swing⟩ by rw [← swing, ← four, ← channel]) cpr
          · exact written
        · exact written
      · exact written
    · exact written.same (State.machineWritten_counts _ _ _)

theorem State.CountsLawful.writeConstantTaken {s : State} (h : s.CountsLawful) {key : ConstKey} {v : Int}
    (hk : key ∈ constantKeys) (hv : constInRange key.no v = true) :
    (s.writeConstantTaken (key, v)).state.CountsLawful := by
  unfold State.writeConstantTaken
  dsimp only
  split
  · exact h
  split
  · exact h
  · next agree =>
    have inRange := (Bool.and_eq_true_iff.1 h.1).1
    refine h.constantWritten hk ?_ s.k
    rw [constantsPass, constantsInRange_setConst inRange hk hv, Bool.true_and]
    simpa using agree

/-! ### A cold start -/

theorem defaults_pass : constantsPass Constants.defaults = true := by decide +kernel

theorem Channels.cold_lawful {k : Constants} (pass : constantsPass k = true) (c : Motion) :
    ((Channels.cold k).ch.get c).Lawful k.cprSwing c := by
  show ((k.channel.map fun x => Chan.cold x.rateWindow).get c).Lawful k.cprSwing c
  rw [PerMotion.get_map]
  exact Chan.cold_lawful _ (cprSwing_pos pass) c

theorem State.dark_countsLawful (power : Power) (pending : List Instr) (store : Store) (inputs : Inputs) :
    (State.dark power pending store inputs).CountsLawful := ⟨defaults_pass, Channels.cold_lawful defaults_pass⟩

theorem loadedConstants_pass (st : Store) : constantsPass (loadedConstants st.goodImage) = true := by
  unfold Store.goodImage
  split
  · split
    exacts [‹_›, defaults_pass]
  · exact defaults_pass

theorem State.loaded_countsLawful (s : State) : s.loaded.CountsLawful :=
  ⟨loadedConstants_pass s.store, Channels.cold_lawful (loadedConstants_pass s.store)⟩

theorem State.raiseExhausted_same (s : State) (found : Bool) : s.SameRecords (s.raiseExhausted found) :=
  (s.raiseEvent_same _).ite (.refl s)

theorem State.coldRaises_same (s : State) (found failed : Bool) : s.SameRecords (s.coldRaises found failed) := by
  unfold State.coldRaises
  dsimp only
  have a := (s.setCondition_same ⟨1, 0⟩ s.inputs.estop).trans (State.raiseExhausted_same _ found)
  have b := a.trans (.foldl (f := State.syncUnreferenced) (fun s _ => State.setCondition_same s _ _) Motion.all _)
  have c := (b.trans (.foldl (f := State.syncWelded) (fun s _ => State.setCondition_same s _ _) gensAll _)).trans
    (.foldl (f := State.syncLockedOut) (fun s _ => State.setCondition_same s _ _) gensAll _)
  exact (c.trans (State.syncZones_same _)).trans (State.setCondition_same _ _ _)

theorem State.mainsAtStart_counts (s : State) : s.SameCounts s.mainsAtStart := (State.SameCounts.refl s).ite s.holdupEntry_counts

theorem State.loadEnds_countsLawful (s : State) : s.loadEnds.CountsLawful :=
  s.loaded_countsLawful.same (((State.coldRaises_same _ _ _).counts.trans (State.mainsAtStart_counts _)).trans
    (State.settle_same _ _).counts)

/-! ### Every command keeps the law -/

theorem State.CountsLawful.settle {s : State} (h : s.CountsLawful) (s0 : State) : (State.settle s0 s).CountsLawful :=
  h.same (State.settle_same s0 s).counts

theorem State.CountsLawful.event {s : State} (h : s.CountsLawful) {f : State → State} (hf : (f s).CountsLawful) :
    (s.event f).CountsLawful := by
  unfold State.event
  split
  exacts [hf.settle s, h, h]

theorem State.CountsLawful.levelEvent {s : State} (h : s.CountsLawful) {l : Inputs → Inputs} {f : State → State}
    (hf : ∀ t : State, t.CountsLawful → (f t).CountsLawful) : (s.levelEvent l f).CountsLawful := by
  have moved : State.CountsLawful { s with inputs := l s.inputs } := h
  unfold State.levelEvent
  dsimp only
  split
  exacts [(hf _ moved).settle s, moved, moved]

theorem State.CountsLawful.onPort {s : State} (h : s.CountsLawful) (p : Port) (f : PortState → PortState) :
    (s.onPort p f).CountsLawful := h

theorem State.CountsLawful.frameTaken {s : State} (h : s.CountsLawful) (p : Port) {take : State → State}
    (ht : ∀ t : State, t.CountsLawful → (take t).CountsLawful) : (s.frameTaken p take).CountsLawful := by
  unfold State.frameTaken
  split
  · split
    · exact h
    · exact (ht _ (State.CountsLawful.same (s := s.hunt p) h (State.cabFrame_counts _ p))).settle s
  · exact h
  · exact h

theorem State.CountsLawful.request {s : State} (h : s.CountsLawful) {α : Type} (q : Spec)
    (parse : State → List Byte → Field α) (act : α → State → Taken) (f : Frame)
    (ha : ∀ (t : State) (x : α), t.CountsLawful → parse t f.fields = .ok x → (act x t).state.CountsLawful) :
    (Machine.request q parse act f s).CountsLawful := by
  refine h.frameTaken f.port fun t ht => ?_
  unfold takeRequest
  split
  · exact ht
  · split
    · next x parsed =>
      unfold guardTest
      split
      · exact ht
      · exact ha t x ht parsed
    · exact ht

theorem State.CountsLawful.afterSent {s : State} (h : s.CountsLawful) (a : AfterSent) : (s.afterSent a).CountsLawful := by
  cases a
  exacts [h, h, State.dark_countsLawful _ _ _ _]

theorem State.CountsLawful.answerLeaves {s : State} (h : s.CountsLawful) (p : Port) :
    (s.answerLeaves p).CountsLawful := by
  unfold State.answerLeaves
  split
  · exact h
  · exact State.CountsLawful.afterSent (h.onPort p _) _

theorem State.CountsLawful.tick {s : State} (h : s.CountsLawful) : s.tick.CountsLawful := by
  have both : s.tickBoth.CountsLawful := by
    refine ⟨h.1, fun c => ?_⟩
    show ((s.chans.ch.map Chan.tick).get c).Lawful s.k.cprSwing c
    rw [PerMotion.get_map]
    exact (h.2 c).tick
  unfold State.tick
  split
  · split
    exacts [both, both]
  · exact h
  · exact h

end Sys2Proof.Machine
end

section
/-! SUPPORT. The channel law through every command and every step (O6). -/

namespace Sys2Proof.Machine

/-- Every command answers next, with the channel law kept. -/
theorem exec_countsLawful (c : Instr) {s : State} (h : s.CountsLawful) : ∃ t, exec c s = .next t ∧ t.CountsLawful := by
  cases c with
  | read f => exact ⟨_, rfl, h.request _ _ _ f fun t _ ht _ => ht.same (t.readTaken_counts _)⟩
  | next f => exact ⟨_, rfl, h.request _ _ _ f fun t _ ht _ => ht.same (t.nextTaken_counts _)⟩
  | status f => exact ⟨_, rfl, h.request _ _ _ f fun _ _ ht _ => ht⟩
  | demand f => exact ⟨_, rfl, h.request _ _ _ f fun t _ ht _ => ht.same (t.demandTaken_same _).counts⟩
  | arm f => exact ⟨_, rfl, h.request _ _ _ f fun t _ ht _ => ht.same (t.armTaken_same _).counts⟩
  | stopAll f =>
    exact ⟨_, rfl, h.request _ _ _ f fun t _ ht _ =>
      ht.same ((t.onMotions_same MotionRec.stopAll).trans (State.haltWalk_same _)).counts⟩
  | parkMachine f => exact ⟨_, rfl, h.request _ _ _ f fun t _ ht _ => ht.same t.parkTaken_same.counts⟩
  | walk f => exact ⟨_, rfl, h.request _ _ _ f fun t _ ht _ => ht.same (t.walkTaken_counts _)⟩
  | walkHalt f => exact ⟨_, rfl, h.request _ _ _ f fun t _ ht _ => ht.same t.haltWalk_same.counts⟩
  | walkResume f => exact ⟨_, rfl, h.request _ _ _ f fun t _ ht _ => ht.same t.resumeTaken_same.counts⟩
  | walkCancel f => exact ⟨_, rfl, h.request _ _ _ f fun t _ ht _ => ht.same t.cancelTaken_same.counts⟩
  | writeZone f => exact ⟨_, rfl, h.request _ _ _ f fun t _ ht _ => ht.same (t.writeZoneTaken_counts _)⟩
  | retireZone f => exact ⟨_, rfl, h.request _ _ _ f fun t _ ht _ => ht.same (t.retireZoneTaken_counts _)⟩
  | confirmZones f => exact ⟨_, rfl, h.request _ _ _ f fun t _ ht _ => ht.same (t.confirmTaken_counts _)⟩
  | flushCache f => exact ⟨_, rfl, h.request _ _ _ f fun _ _ ht _ => ht⟩
  | referenceReset f => exact ⟨_, rfl, h.request _ _ _ f fun _ _ ht _ => ht.referenceResetTaken _⟩
  | acknowledge f => exact ⟨_, rfl, h.request _ _ _ f fun t _ ht _ => ht.same (t.acknowledgeTaken_same _ _).counts⟩
  | shelve f => exact ⟨_, rfl, h.request _ _ _ f fun t _ ht _ => ht.same (t.shelveTaken_same _).counts⟩
  | unshelve f => exact ⟨_, rfl, h.request _ _ _ f fun t _ ht _ => ht.same (t.unshelveTaken_same _).counts⟩
  | setAnnounce f => exact ⟨_, rfl, h.request _ _ _ f fun _ _ ht _ => ht⟩
  | lockOutGenerator f => exact ⟨_, rfl, h.request _ _ _ f fun t _ ht _ => ht.same (t.genReplies_same _ _).counts⟩
  | returnGenerator f => exact ⟨_, rfl, h.request _ _ _ f fun t _ ht _ => ht.same (t.genReplies_same _ _).counts⟩
  | openGuard f => exact ⟨_, rfl, h.request _ _ _ f fun _ _ ht _ => ht⟩
  | writeConstant f =>
    refine ⟨_, rfl, h.request _ _ _ f fun _ x ht parsed => ?_⟩
    obtain ⟨listed, inRange⟩ := parseWriteConstant_ok parsed
    exact ht.writeConstantTaken listed inRange
  | commit f => exact ⟨_, rfl, h.request _ _ _ f fun t _ ht _ => ht.same t.commitBegun_counts⟩
  | restart f => exact ⟨_, rfl, h.request _ _ _ f fun _ _ ht _ => ht⟩
  | unknown f code => exact ⟨_, rfl, h.frameTaken _ fun _ ht => ht⟩
  | check p tag code =>
    refine ⟨_, rfl, h.event ?_⟩
    unfold State.checkFails
    split
    exacts [h, h]
  | lengthOutOfRange p length => exact ⟨_, rfl, h.event (h.onPort p _)⟩
  | frameGap p byte => exact ⟨_, rfl, h.event (h.onPort p _)⟩
  | lineBreakOrFramingError p => exact ⟨_, rfl, h.event (h.onPort p _)⟩
  | frameDiscarded p => exact ⟨_, rfl, h.event (h.onPort p _)⟩
  | answerSent p => exact ⟨_, rfl, h.event (h.answerLeaves p)⟩
  | guardWindowEnd => exact ⟨_, rfl, h.event h⟩
  | cabLinkPeriodEnd =>
    refine ⟨_, rfl, h.event ?_⟩
    unfold State.cabLinkEnds
    split
    · exact h.same ((State.raiseCondition_same _ _).countsFrom rfl rfl)
    · exact h
    · exact h
  | quadratureCount c input level => exact ⟨_, rfl, h.levelEvent fun _ ht => ht.count? c _⟩
  | countDirectionCount c input level => exact ⟨_, rfl, h.levelEvent fun _ ht => ht.count? c _⟩
  | quadratureError c => exact ⟨_, rfl, h.levelEvent fun _ ht => ht.quadratureFault c⟩
  | rateWindowEnd c => exact ⟨_, rfl, h.event (h.windowEnd c)⟩
  | referenceSwitchMake c => exact ⟨_, rfl, h.levelEvent fun _ ht => ht.switchMade c⟩
  | referenceSwitchBreak c => exact ⟨_, rfl, h.levelEvent fun _ ht => ht.arm c false⟩
  | encoderIndex c => exact ⟨_, rfl, h.event (h.encoderIndex c)⟩
  | camIndex => exact ⟨_, rfl, h.event h.camIndex⟩
  | tubLiftOff => exact ⟨_, rfl, h.levelEvent fun t ht => ht.same t.tubLiftsOff_counts⟩
  | tubSetDown => exact ⟨_, rfl, h.levelEvent fun t ht => ht.same t.tubSetsDown_counts⟩
  | scrubVisit faults =>
    exact ⟨_, rfl, h.event (((h.same (s.bodiesFault_counts faults)).same (State.checkBody_counts _ _)).same ⟨rfl, rfl⟩)⟩
  | resolutionEnd => exact ⟨_, rfl, h.event (h.same s.resolutionEnds_counts)⟩
  | closureProof g loop | dropOutProof g loop | strayOrLostProof g loop present | lockedOutProofChange g loop present =>
    exact ⟨_, rfl, h.levelEvent fun t ht => ht.same (t.inRun_same (t.genTakes_same g _)).counts⟩
  | openingProofTimeEnd g => exact ⟨_, rfl, h.event (h.same (s.inRun_same (s.genTakes_same g _)).counts)⟩
  | failedClose g => exact ⟨_, rfl, h.event (h.same (s.inRun_same (s.genTakes_same g _)).counts)⟩
  | releaseHoldExpiry m => exact ⟨_, rfl, h.event (h.same (s.inRun_same (s.holdExpires_same m)).counts)⟩
  | starveTimeEnd m => exact ⟨_, rfl, h.event (h.same (s.inRun_same (s.starves_same m)).counts)⟩
  | brakeReleaseProof m => exact ⟨_, rfl, h.levelEvent fun t ht => ht.same (t.releaseProofComes_same m).counts⟩
  | brakeSetProof m => exact ⟨_, rfl, h.levelEvent fun t ht => ht.same (t.brakeShowsSet_same m).counts⟩
  | releaseProofLost m => exact ⟨_, rfl, h.levelEvent fun t ht => ht.same (t.brakeShowsSet_same m).counts⟩
  | brakeLiftWithoutCommand m => exact ⟨_, rfl, h.levelEvent fun t ht => ht.same (t.brakeShowsReleased_same m).counts⟩
  | brakeReleaseTimeEnd m => exact ⟨_, rfl, h.event (h.same (s.inRun_same (s.releaseTimeEnds_same m)).counts)⟩
  | brakeSetTimeEnd m => exact ⟨_, rfl, h.event (h.same (s.inRun_same (s.setTimeEnds_same m)).counts)⟩
  | stopTimeout m => exact ⟨_, rfl, h.event (h.same (s.inRun_same (s.onBrake_same m _)).counts)⟩
  | prepareTimeout => exact ⟨_, rfl, h.event (h.same (s.inRun_same s.prepareTimesOut_same).counts)⟩
  | phaseTimeout => exact ⟨_, rfl, h.event (h.same (s.inRun_same s.phaseTimesOut_same).counts)⟩
  | dwellEnd => exact ⟨_, rfl, h.event (h.same (s.inRun_same s.dwellEnds_same).counts)⟩
  | emergencyStopInput stop => exact ⟨_, rfl, h.levelEvent fun t ht => ht.same (t.setCondition_same _ _).counts⟩
  | shelfMinute key => exact ⟨_, rfl, h.event h⟩
  | mainsLoss =>
    exact ⟨_, rfl, h.levelEvent fun t ht => ht.same ((State.SameCounts.refl t).ite t.holdupEntry_counts)⟩
  | mainsReturn =>
    exact ⟨_, rfl, h.levelEvent fun t ht => ht.same (t.holdupReturn_counts.ite (State.SameCounts.refl t))⟩
  | holdupExhausted =>
    refine ⟨_, rfl, ?_⟩
    split
    exacts [State.dark_countsLawful _ _ _ _, h]
  | markerWriteDone => exact ⟨_, rfl, h.event h⟩
  | commitWriteEnd left => exact ⟨_, rfl, h.event (h.same (s.commitEnds_counts left))⟩
  | powerOn =>
    refine ⟨_, rfl, ?_⟩
    split
    exacts [h, State.dark_countsLawful _ _ _ _]
  | resetLine =>
    refine ⟨_, rfl, ?_⟩
    split
    exacts [State.dark_countsLawful _ _ _ _, State.dark_countsLawful _ _ _ _, h]
  | settingsLoadEnd =>
    refine ⟨_, rfl, ?_⟩
    split
    exacts [s.loadEnds_countsLawful, h, h]

/-- Every step keeps the channel law. -/
theorem step_countsLawful {s t : State} (h : s.CountsLawful) (stepped : step s = .next t) : t.CountsLawful := by
  unfold step at stepped
  split at stepped
  · next c rest _ =>
    obtain ⟨u, run, law⟩ := exec_countsLawful c (s := { s with pending := rest }) h
    rw [run] at stepped
    cases stepped
    exact law
  · cases stepped
    exact h.tick

/-- Settles O6: every operation on a channel keeps its own law (`Chan.Lawful`), everything else leaves the channels and the
constants alone, and a write of a constant keeps the load check. -/
theorem channelsStayInRange : Obligations.ChannelsStayInRange := by
  intro s t ranges cause stepped
  exact (State.countsLawful_iff t).1 (step_countsLawful ((State.countsLawful_iff s).2 ⟨ranges, cause⟩) stepped)

end Sys2Proof.Machine
end

section
/-! SUPPORT. The condition set through raises, clears and the end of a change (08 R136): which keys each operation makes true
or false, and which it leaves. ALARM TABLE FULL follows raises and clears of other keys, so no lemma here speaks of it. -/

namespace Sys2Proof.Machine

/-! ### The keys of the condition set -/

/-- The keys of the true conditions, in their order. -/
def Alarms.keys (a : Alarms) : List AlarmKey := a.conditions.map Condition.key

theorem Alarms.isTrue_iff (a : Alarms) (key : AlarmKey) : a.isTrue key = true ↔ key ∈ a.keys := by
  simp [Alarms.isTrue, Alarms.keys]

theorem Alarms.keys_onRecord (a : Alarms) (key : AlarmKey) (f : AlarmRec → Option AlarmRec) :
    (a.onRecord key f).keys = a.keys := by
  unfold Alarms.onRecord
  split <;> rfl

theorem Alarms.keys_raiseRecord (a : Alarms) (now window : Nat) (key : AlarmKey) :
    (a.raiseRecord now window key).1.keys = a.keys := by
  unfold Alarms.raiseRecord
  split
  · exact a.keys_onRecord key _
  · split <;> rfl

theorem Alarms.keys_dropCondition (a : Alarms) (key : AlarmKey) :
    (a.dropCondition key).keys = a.keys.filter fun k => !decide (k = key) := by
  simp only [Alarms.keys, Alarms.dropCondition, List.filter_map]
  rfl

theorem Alarms.keys_clearBare (a : Alarms) (now : Nat) (key : AlarmKey) :
    (a.clearBare now key).keys = a.keys.filter fun k => !decide (k = key) := by
  unfold Alarms.clearBare
  rw [Alarms.keys_onRecord, Alarms.keys_dropCondition]

theorem Alarms.keys_recordLate (a : Alarms) (c : Condition) : (a.recordLate c).keys = a.keys := by
  unfold Alarms.recordLate
  split
  · simp only [Alarms.keys, List.map_map]
    refine List.map_congr_left fun d _ => ?_
    simp only [Function.comp_apply]
    split <;> rfl
  · rfl

theorem Alarms.keys_recordLates (l : List Condition) (a : Alarms) : (l.foldl Alarms.recordLate a).keys = a.keys := by
  induction l generalizing a with
  | nil => rfl
  | cons c l ih => exact (ih _).trans (a.keys_recordLate c)

theorem Alarms.keys_raiseAndClear (a : Alarms) (now window : Nat) (key : AlarmKey) :
    (a.raiseAndClear now window key).keys = a.keys := by
  unfold Alarms.raiseAndClear
  dsimp only
  split
  · exact a.keys_raiseRecord now window key
  · exact (Alarms.keys_onRecord _ _ _).trans (a.keys_raiseRecord now window key)

/-- An event makes no key true or false (R136). -/
theorem Alarms.keys_raiseEvent (a : Alarms) (now window : Nat) (key : AlarmKey) :
    (a.raiseEvent now window key).1.keys = a.keys := by
  unfold Alarms.raiseEvent
  dsimp only
  split
  · dsimp only
    split
    · exact a.keys_raiseRecord now window key
    · exact (Alarms.keys_onRecord _ _ _).trans (a.keys_raiseRecord now window key)
  · exact Alarms.keys_raiseAndClear { a with lostEvents := min (a.lostEvents + 1) 65535 } _ _ _

theorem keys_insertCondition (c : Condition) (l : List Condition) (k : AlarmKey) :
    k ∈ (insertCondition c l).map Condition.key ↔ k = c.key ∨ k ∈ l.map Condition.key := by
  induction l with
  | nil => simp [insertCondition]
  | cons d ds ih =>
    unfold insertCondition
    split
    · simp
    · simp only [List.map_cons, List.mem_cons, ih]
      tauto

/-- A clear takes its key out of the list, and of the others ALARM TABLE FULL at most (R136, R146). -/
theorem Alarms.keys_clearCondition (a : Alarms) (now : Nat) (key : AlarmKey) :
    ∃ p : AlarmKey → Bool, (a.clearCondition now key).keys = a.keys.filter p ∧ p key = false ∧
      ∀ k, k ≠ key → k ≠ fullKey → p k = true := by
  unfold Alarms.clearCondition Alarms.afterRetirement Alarms.fullFollows
  split
  · refine ⟨fun k => !decide (k = fullKey) && !decide (k = key), ?_, by simp, fun k h h' => by simp [h, h']⟩
    rw [Alarms.keys_clearBare, Alarms.keys_recordLates, Alarms.keys_clearBare, List.filter_filter]
  · refine ⟨fun k => !decide (k = key), ?_, by simp, fun k h _ => by simp [h]⟩
    rw [Alarms.keys_recordLates, Alarms.keys_clearBare]

/-- A raise makes its key true, and of the others ALARM TABLE FULL at most (R136, R146). -/
theorem Alarms.mem_keys_raiseCondition (a : Alarms) (now window : Nat) (key : AlarmKey) {k : AlarmKey} (hk : k ≠ fullKey) :
    k ∈ (a.raiseCondition now window key).keys ↔ k = key ∨ k ∈ a.keys := by
  have raised : ∀ b : Bool, k ∈ (insertCondition ⟨key, now, b⟩ (a.raiseRecord now window key).1.conditions).map
      Condition.key ↔ k = key ∨ k ∈ a.keys := fun b => by
    rw [keys_insertCondition]
    exact or_congr Iff.rfl (by rw [← a.keys_raiseRecord now window key]; rfl)
  unfold Alarms.raiseCondition
  dsimp only
  split
  · exact raised _
  · unfold Alarms.keys
    rw [keys_insertCondition, or_iff_right hk]
    exact (Eq.to_iff (congrArg (k ∈ ·) (Alarms.keys_raiseRecord _ _ _ _))).trans (raised _)

/-! ### Raises and clears on the state -/

@[simp] theorem State.tripBegins_alarms (s : State) (c : Cause) : (s.tripBegins c).alarms = s.alarms := rfl
@[simp] theorem State.stopBegins_alarms (s : State) (c : Cause) (f : Motion → Bool) :
    (s.stopBegins c f).alarms = s.alarms := rfl
@[simp] theorem State.haltWalk_alarms (s : State) : s.haltWalk.alarms = s.alarms := rfl

@[simp] theorem State.cabLinkHalts_alarms (s : State) (key : AlarmKey) : (s.cabLinkHalts key).alarms = s.alarms := by
  unfold State.cabLinkHalts
  split <;> rfl

@[simp] theorem State.conditionActs_alarms (s : State) (b : Alarms) (key : AlarmKey) :
    (s.conditionActs b key).alarms = s.alarms := by
  unfold State.conditionActs
  dsimp only
  split
  · split <;> rfl
  · simp
  · rfl
  · rfl

@[simp] theorem State.eventActs_alarms (s : State) (key : AlarmKey) (cls : AlarmClass) :
    (s.eventActs key cls).alarms = s.alarms := by
  cases cls <;> rfl

/-- The alarm table after the raise of a condition. -/
theorem State.raiseCondition_alarms (s : State) (key : AlarmKey) : (s.raiseCondition key).alarms =
    if s.isTrue key then s.alarms else s.alarms.raiseCondition s.now s.k.escalationWindow key := by
  unfold State.raiseCondition
  dsimp only
  split
  · rfl
  · split
    · rfl
    · simp

/-- The alarm table after an event. -/
theorem State.raiseEvent_alarms (s : State) (key : AlarmKey) :
    (s.raiseEvent key).alarms = (s.alarms.raiseEvent s.now s.k.escalationWindow key).1 := by
  unfold State.raiseEvent
  dsimp only
  split
  · rfl
  · simp

/-- The alarm table after a clear. -/
theorem State.clearCondition_alarms (s : State) (key : AlarmKey) : (s.clearCondition key).alarms =
    if s.isTrue key then s.alarms.clearCondition s.now key else s.alarms := by
  unfold State.clearCondition
  split <;> rfl

theorem State.isTrue_iff (s : State) (key : AlarmKey) : s.isTrue key = true ↔ key ∈ s.alarms.keys := s.alarms.isTrue_iff key

theorem State.isTrue_of_alarms {s t : State} (h : t.alarms = s.alarms) (k : AlarmKey) : t.isTrue k = s.isTrue k := by
  unfold State.isTrue
  rw [h]

theorem State.isTrue_raiseEvent (s : State) (key k : AlarmKey) : (s.raiseEvent key).isTrue k = s.isTrue k := by
  rw [Bool.eq_iff_iff, State.isTrue_iff, State.isTrue_iff, s.raiseEvent_alarms, Alarms.keys_raiseEvent]

theorem State.isTrue_raiseCondition (s : State) (key : AlarmKey) {k : AlarmKey} (hk : k ≠ fullKey) :
    (s.raiseCondition key).isTrue k = true ↔ k = key ∨ s.isTrue k = true := by
  rw [State.isTrue_iff, State.isTrue_iff s k, s.raiseCondition_alarms]
  split
  · next already =>
    exact ⟨.inr, fun h => h.elim (fun e => e ▸ (s.isTrue_iff key).1 already) id⟩
  · exact Alarms.mem_keys_raiseCondition _ _ _ _ hk

theorem State.isTrue_clearCondition (s : State) (key : AlarmKey) {k : AlarmKey} (hk : k ≠ fullKey) :
    (s.clearCondition key).isTrue k = true ↔ k ≠ key ∧ s.isTrue k = true := by
  rw [State.isTrue_iff, State.isTrue_iff s k, s.clearCondition_alarms]
  split
  · obtain ⟨p, keys, self, others⟩ := s.alarms.keys_clearCondition s.now key
    rw [keys, List.mem_filter]
    by_cases e : k = key
    · simp [e, self]
    · simp [e, others k e hk]
  · next absent =>
    exact ⟨fun h => ⟨fun e => absent ((s.isTrue_iff key).2 (e ▸ h)), h⟩, And.right⟩

/-- A condition that takes its truth has that truth, and no other but ALARM TABLE FULL changes (R136, R146). -/
theorem State.isTrue_setCondition (s : State) (key : AlarmKey) (b : Bool) {k : AlarmKey} (hk : k ≠ fullKey) :
    (s.setCondition key b).isTrue k = if k = key then b else s.isTrue k := by
  rw [Bool.eq_iff_iff]
  unfold State.setCondition
  split
  · next raised =>
    rw [State.isTrue_raiseCondition _ _ hk]
    split <;> simp_all
  · next cleared =>
    rw [State.isTrue_clearCondition _ _ hk]
    split <;> simp_all

/-! ### What keeps the truth of most conditions -/

/-- No condition changes its truth but those of some codes. -/
def State.TruthBut (codes : List Nat) (s t : State) : Prop := ∀ k : AlarmKey, k.code ∉ codes → t.isTrue k = s.isTrue k

section TruthBut

variable {codes : List Nat} {s t u : State}

theorem State.TruthBut.refl (codes : List Nat) (s : State) : State.TruthBut codes s s := fun _ _ => rfl

theorem State.TruthBut.trans (h : State.TruthBut codes s t) (g : State.TruthBut codes t u) : State.TruthBut codes s u :=
  fun k hk => (g k hk).trans (h k hk)

theorem State.TruthBut.ite {p : Prop} [Decidable p] (ht : State.TruthBut codes s t) (hu : State.TruthBut codes s u) :
    State.TruthBut codes s (if p then t else u) := by
  split
  exacts [ht, hu]

theorem State.TruthBut.mono {more : List Nat} (h : State.TruthBut codes s t) (sub : codes ⊆ more) :
    State.TruthBut more s t :=
  fun k hk => h k fun mem => hk (sub mem)

theorem State.TruthBut.foldl {α : Type} {f : State → α → State} (h : ∀ (s : State) (a : α), State.TruthBut codes s (f s a))
    (l : List α) (s : State) : State.TruthBut codes s (l.foldl f s) := by
  induction l generalizing s with
  | nil => exact .refl codes s
  | cons a l ih => exact (h s a).trans (ih (f s a))

theorem State.TruthBut.of_alarms (h : t.alarms = s.alarms) : State.TruthBut codes s t :=
  fun k _ => State.isTrue_of_alarms h k

/-- A condition set by its own rule, of a code that is left out of account. -/
theorem State.TruthBut.setCondition (s : State) {code n : Nat} (b : Bool) (listed : code ∈ codes) (full : 21 ∈ codes) :
    State.TruthBut codes s (s.setCondition ⟨code, n⟩ b) := by
  intro k hk
  have notFull : k ≠ fullKey := fun e => hk (by rw [e]; exact full)
  have other : k ≠ ⟨code, n⟩ := fun e => hk (by rw [e]; exact listed)
  rw [s.isTrue_setCondition _ b notFull, if_neg other]

theorem State.TruthBut.clearCondition (s : State) {code n : Nat} (listed : code ∈ codes) (full : 21 ∈ codes) :
    State.TruthBut codes s (s.clearCondition ⟨code, n⟩) := State.TruthBut.setCondition s false listed full

theorem State.TruthBut.raiseCondition (s : State) {code n : Nat} (listed : code ∈ codes) (full : 21 ∈ codes) :
    State.TruthBut codes s (s.raiseCondition ⟨code, n⟩) := State.TruthBut.setCondition s true listed full

end TruthBut

end Sys2Proof.Machine
end

section
/-! SUPPORT. What the completion of a change can do to the walk record, the generators, the dig motions and the condition set:
one lemma for each shared operation, as Laws/Frame.lean has them for the records that no completion touches. -/

namespace Sys2Proof.Machine

/-! ### What every completion keeps of the walk and of the generators -/

/-- An IDLE walk stays IDLE, steps done stay, and a generator without a record gets none. -/
structure State.Keeps (s t : State) : Prop where
  walkIdle : s.walk.state = .idle → t.walk.state = .idle
  stepsDone : t.walk.stepsDone = s.walk.stepsDone
  noRecord : ∀ g, (s.gens.get g).st = .noRecord → (t.gens.get g).st = .noRecord

/-- A dig motion at rest: IDLE with no demand and no permit. -/
def MotionRec.AtRest (r : MotionRec) : Prop := r.state = .idle ∧ r.demand = none ∧ r.permit = none

/-- The codes of the conditions that the motions, the walk and the arbiter make false: BRAKE NOT SET and LEASE STARVED;
ALARM TABLE FULL can end with them. -/
def followCodes : List Nat := [9, 13]

/-- The true conditions are those of before, less some of `followCodes` and perhaps ALARM TABLE FULL. -/
def State.Drops (s t : State) : Prop :=
  ∃ p : AlarmKey → Bool, t.alarms.keys = s.alarms.keys.filter p ∧
    ∀ k : AlarmKey, k.code ∉ followCodes → k ≠ fullKey → p k = true

/-- What the motions, the walk and the arbiter do when they follow a change: they raise nothing, make false at most the
conditions of `followCodes` and ALARM TABLE FULL, take no cause, leave dig motions at rest, and leave the alarm table as it
is where no BRAKE NOT SET and no LEASE STARVED is true. -/
structure State.Follows (s t : State) : Prop where
  keeps : s.Keeps t
  drops : s.Drops t
  cause : t.walk.interruptCause = s.walk.interruptCause ∨ t.walk.interruptCause = none
  rest : (∀ m, (s.motions.get m).AtRest) → ∀ m, (t.motions.get m).AtRest
  quiet : (∀ k ∈ s.alarms.keys, k.code ∉ followCodes) → t.alarms = s.alarms

theorem State.Keeps.refl (s : State) : s.Keeps s := ⟨id, rfl, fun _ => id⟩

theorem State.Keeps.trans {s t u : State} (h : s.Keeps t) (g : t.Keeps u) : s.Keeps u :=
  ⟨g.walkIdle ∘ h.walkIdle, g.stepsDone.trans h.stepsDone, fun i => g.noRecord i ∘ h.noRecord i⟩

theorem State.Keeps.ite {s t u : State} {p : Prop} [Decidable p] (ht : s.Keeps t) (hu : s.Keeps u) :
    s.Keeps (if p then t else u) := by
  split
  exacts [ht, hu]

theorem State.Keeps.foldl {α : Type} {f : State → α → State} (h : ∀ (s : State) (a : α), s.Keeps (f s a)) (l : List α)
    (s : State) : s.Keeps (l.foldl f s) := by
  induction l generalizing s with
  | nil => exact .refl s
  | cons a l ih => exact (h s a).trans (ih (f s a))

theorem State.Drops.refl (s : State) : s.Drops s := ⟨fun _ => true, (List.filter_true _).symm, fun _ _ _ => rfl⟩

theorem State.Drops.of_alarms {s t : State} (h : t.alarms = s.alarms) : s.Drops t := by
  unfold State.Drops
  rw [h]
  exact State.Drops.refl s

theorem State.Drops.trans {s t u : State} (h : s.Drops t) (g : t.Drops u) : s.Drops u := by
  obtain ⟨p, hp, keepsP⟩ := h
  obtain ⟨q, hq, keepsQ⟩ := g
  refine ⟨fun k => q k && p k, ?_, fun k hk full => Bool.and_eq_true_iff.2 ⟨keepsQ k hk full, keepsP k hk full⟩⟩
  rw [hq, hp, List.filter_filter]

/-- A clear drops its key, and ALARM TABLE FULL at most besides. -/
theorem State.Drops.clearCondition (s : State) {key : AlarmKey} (code : key.code ∈ followCodes) :
    s.Drops (s.clearCondition key) := by
  unfold State.Drops
  rw [s.clearCondition_alarms]
  split
  · obtain ⟨p, keys, -, others⟩ := s.alarms.keys_clearCondition s.now key
    exact ⟨p, keys, fun k hk full => others k (fun e => hk (by rw [e]; exact code)) full⟩
  · exact State.Drops.refl s

theorem State.Drops.truth {s t : State} (h : s.Drops t) : State.TruthBut (21 :: followCodes) s t := by
  obtain ⟨p, hp, keeps⟩ := h
  intro k hk
  obtain ⟨notFull, other⟩ := not_or.1 (mt List.mem_cons.2 hk)
  rw [Bool.eq_iff_iff, State.isTrue_iff, State.isTrue_iff, hp, List.mem_filter,
    keeps k other fun e => notFull (by rw [e]; rfl)]
  exact and_iff_left rfl

theorem State.Follows.refl (s : State) : s.Follows s := ⟨.refl s, .refl s, .inl rfl, id, fun _ => rfl⟩

theorem State.Follows.trans {s t u : State} (h : s.Follows t) (g : t.Follows u) : s.Follows u := by
  refine ⟨h.keeps.trans g.keeps, h.drops.trans g.drops, ?_, g.rest ∘ h.rest, fun none => ?_⟩
  · rcases g.cause with same | none
    · rw [same]
      exact h.cause
    · exact .inr none
  · have first := h.quiet none
    exact (g.quiet (by rwa [first])).trans first

theorem State.Follows.ite {s t u : State} {p : Prop} [Decidable p] (ht : s.Follows t) (hu : s.Follows u) :
    s.Follows (if p then t else u) := by
  split
  exacts [ht, hu]

theorem State.Follows.foldl {α : Type} {f : State → α → State} (h : ∀ (s : State) (a : α), s.Follows (f s a)) (l : List α)
    (s : State) : s.Follows (l.foldl f s) := by
  induction l generalizing s with
  | nil => exact .refl s
  | cons a l ih => exact (h s a).trans (ih (f s a))

/-! ### Single updates -/

theorem State.onGens_get (s : State) (f : PerMotion Bool → Gen → Gen) (g : Fin 12) :
    (s.onGens f).gens.get g = f (s.proofs g) (s.gens.get g) := by
  simp [State.onGens, Table.get, State.proofs]

theorem State.onMotion_get (s : State) (m : Dig) (f : MotionRec → MotionRec) (n : Dig) :
    (s.onMotion m f).motions.get n = if n = m then f (s.motions.get n) else s.motions.get n := by
  split
  · next e =>
    subst e
    exact PerDig.get_set_self _ _ _
  · next e => exact PerDig.get_set_ne _ _ e

theorem State.onMotion_follows (s : State) (m : Dig) {f : MotionRec → MotionRec} (hf : ∀ r, r.AtRest → (f r).AtRest) :
    s.Follows (s.onMotion m f) := by
  refine ⟨⟨id, rfl, fun _ => id⟩, .of_alarms rfl, .inl rfl, fun rest n => ?_, fun _ => rfl⟩
  rw [State.onMotion_get]
  split
  exacts [hf _ (rest n), rest n]

theorem State.onMotions_follows (s : State) {f : MotionRec → MotionRec} (hf : ∀ r, r.AtRest → (f r).AtRest) :
    s.Follows (s.onMotions f) := by
  refine ⟨⟨id, rfl, fun _ => id⟩, .of_alarms rfl, .inl rfl, fun rest n => ?_, fun _ => rfl⟩
  show ((s.motions.map f).get n).AtRest
  rw [PerDig.get_map]
  exact hf _ (rest n)

theorem State.onWalk_keeps (s : State) {f : WalkRec → WalkRec} (idle : s.walk.state = .idle → (f s.walk).state = .idle)
    (steps : (f s.walk).stepsDone = s.walk.stepsDone) : s.Keeps (s.onWalk f) := ⟨idle, steps, fun _ => id⟩

theorem State.onWalk_follows (s : State) {f : WalkRec → WalkRec} (idle : s.walk.state = .idle → (f s.walk).state = .idle)
    (steps : (f s.walk).stepsDone = s.walk.stepsDone)
    (cause : (f s.walk).interruptCause = s.walk.interruptCause ∨ (f s.walk).interruptCause = none) :
    s.Follows (s.onWalk f) := ⟨s.onWalk_keeps idle steps, .of_alarms rfl, cause, id, fun _ => rfl⟩

theorem State.onGens_follows (s : State) {f : PerMotion Bool → Gen → Gen}
    (hf : ∀ p g, g.st = .noRecord → (f p g).st = .noRecord) : s.Follows (s.onGens f) := by
  refine ⟨⟨id, rfl, fun g none => ?_⟩, .of_alarms rfl, .inl rfl, id, fun _ => rfl⟩
  rw [State.onGens_get]
  exact hf _ _ none

theorem State.onGen_follows (s : State) (g : Fin 12) {f : Gen → Gen} (hf : ∀ g, g.st = .noRecord → (f g).st = .noRecord) :
    s.Follows (s.onGen g f) := by
  refine ⟨⟨id, rfl, fun i none => ?_⟩, .of_alarms rfl, .inl rfl, id, fun _ => rfl⟩
  show ((s.gens.set g (f (s.gens.get g))).get i).st = .noRecord
  by_cases e : i = g
  · subst e
    rw [Table.get_set_self]
    exact hf _ none
  · rw [Table.get_set_ne _ _ e]
    exact none

theorem State.withArb_follows (s : State) (x : Arbiter) : s.Follows { s with arb := x } :=
  ⟨⟨id, rfl, fun _ => id⟩, .of_alarms rfl, .inl rfl, id, fun _ => rfl⟩

theorem State.withRes_follows (s : State) (x : Resolver) : s.Follows { s with res := x } :=
  ⟨⟨id, rfl, fun _ => id⟩, .of_alarms rfl, .inl rfl, id, fun _ => rfl⟩

theorem State.clearCondition_keeps (s : State) (key : AlarmKey) : s.Keeps (s.clearCondition key) := by
  unfold State.clearCondition
  split
  exacts [⟨id, rfl, fun _ => id⟩, .refl s]

theorem State.clearCondition_follows (s : State) {code : Nat} (n : Nat) (h : code ∈ followCodes) :
    s.Follows (s.clearCondition ⟨code, n⟩) := by
  refine ⟨s.clearCondition_keeps _, .clearCondition s h, .inl ?_, ?_, fun none => ?_⟩
  · unfold State.clearCondition
    split <;> rfl
  · unfold State.clearCondition
    split <;> exact id
  · rw [s.clearCondition_alarms]
    exact if_neg fun held => none _ ((s.isTrue_iff _).1 held) h

/-! ### Generators without a record -/

theorem returned_noRecord (k : Constants) (p : PerMotion Bool) (now : Nat) {g : Gen} (h : g.st = .noRecord) :
    returned k p now g = g := by
  unfold returned
  rw [h]

theorem withdrawn_noRecord (m : Motion) {g : Gen} (h : g.st = .noRecord) : withdrawn m g = g := by
  unfold withdrawn
  rw [h]

theorem withdrawnFailing_noRecord (m : Motion) {g : Gen} (h : g.st = .noRecord) : withdrawnFailing m g = g := by
  unfold withdrawnFailing
  rw [withdrawn_noRecord m h, ite_self]

theorem handOver_noRecord (k : Constants) (p : PerMotion Bool) (m : Motion) (seq : Nat) {g : Gen} (h : g.st = .noRecord) :
    handOver k p m seq g = g := by
  unfold handOver
  rw [h]

theorem trippedMove_noRecord (k : Constants) (p : PerMotion Bool) {g : Gen} (h : g.st = .noRecord) :
    trippedMove k p g = g := by
  unfold trippedMove
  rw [h]

/-! ### The motions and the walk -/

theorem State.returnAll_follows (s : State) (m : Motion) : s.Follows (s.returnAll m) := by
  refine s.onGens_follows fun p g h => ?_
  rw [returned_noRecord _ _ _ h, ite_self]
  exact h

theorem MotionRec.AtRest.idled {r : MotionRec} (h : r.AtRest) : r.idled.AtRest := ⟨rfl, h.2⟩

theorem State.endHold_follows (s : State) (m : Dig) : s.Follows (s.endHold m) :=
  (s.returnAll_follows _).trans (State.onMotion_follows _ m fun _ h => h.idled)

theorem State.beginHold_follows (s : State) (m : Dig) : s.Follows (s.beginHold m) := by
  refine State.Follows.ite (s.onMotion_follows m fun r h => ?_)
    ((s.endHold_follows m).ite (s.onMotion_follows m fun r h => ?_))
  exacts [h.idled, h]

theorem State.reversalPass_follows (s : State) (m : Dig) : s.Follows (s.reversalPass m) := by
  refine s.onMotion_follows m fun r h => ?_
  split
  exacts [h, h]

theorem State.readyPass_follows (s : State) (m : Dig) : s.Follows (s.readyPass m) := by
  refine s.onMotion_follows m fun r h => ?_
  rw [h.1]
  exact h

theorem State.brakePass_follows (s : State) (m : Dig) : s.Follows (s.brakePass m) := s.onMotion_follows m fun _ h => h

theorem State.proofPass_follows (s : State) (m : Dig) : s.Follows (s.proofPass m) := by
  unfold State.proofPass
  dsimp only
  split
  · refine (State.Follows.refl s).ite (.trans (s.onMotion_follows m fun r h => ?_) (State.clearCondition_follows _ _ (by decide)))
    exact h
  · refine State.Follows.ite (s.onMotion_follows m fun r h => ?_) (.refl s)
    exact h
  · exact .refl s
  · exact .refl s

theorem State.restPass_follows (s : State) (m : Dig) : s.Follows (s.restPass m) := by
  refine State.Follows.ite (State.Follows.ite (s.onMotion_follows m fun r h => ?_)
    ((s.beginHold_follows m).ite ((s.returnAll_follows _).ite (.refl s)))) (.refl s)
  exact h

theorem State.motionPass_follows (s : State) (m : Dig) : s.Follows (s.motionPass m) :=
  ((((s.reversalPass_follows m).trans (State.readyPass_follows _ m)).trans (State.brakePass_follows _ m)).trans
    (State.proofPass_follows _ m)).trans (State.restPass_follows _ m)

theorem State.motionsPass_follows (s : State) : s.Follows s.motionsPass :=
  ((s.motionPass_follows _).trans (State.motionPass_follows _ _)).trans (State.motionPass_follows _ _)

theorem MotionRec.AtRest.unlocked {r : MotionRec} (h : r.AtRest) : r.unlocked.AtRest := by
  unfold MotionRec.unlocked
  split
  exacts [⟨rfl, h.2⟩, h]

theorem State.walkFinish_follows (s : State) (o : WalkOutcome) : s.Follows (s.walkFinish o) :=
  ((s.returnAll_follows _).trans (State.onWalk_follows _ (fun _ => rfl) rfl (.inr rfl))).trans
    (State.onMotions_follows _ fun _ h => h.unlocked)

theorem State.walkReleased_follows (s : State) : s.Follows s.walkReleased := by
  refine s.onWalk_follows (fun idle => ?_) ?_ (.inl ?_)
  · dsimp only
    rw [idle]
  all_goals
    dsimp only
    split
    · rfl
    · split <;> rfl
    · rfl
    · rfl

theorem State.walkProofPass_follows (s : State) : s.Follows s.walkProofPass := by
  unfold State.walkProofPass
  split
  · exact (State.Follows.refl s).ite
      ((s.onWalk_follows id rfl (.inl rfl)).trans (State.clearCondition_follows _ _ (by decide)))
  · exact s.walkReleased_follows.ite (.refl s)
  · exact .refl s
  · exact .refl s

theorem State.walkRestPass_follows (s : State) : s.Follows s.walkRestPass := by
  unfold State.walkRestPass
  dsimp only
  refine State.Follows.ite ?_ (.refl s)
  split
  · exact s.walkFinish_follows _
  · refine (s.returnAll_follows _).ite (State.Follows.ite ?_ ((s.onWalk_follows id rfl (.inl rfl)).ite (.refl s)))
    split
    exacts [.refl s, s.onWalk_follows id rfl (.inl rfl)]

theorem State.walkPass_follows (s : State) : s.Follows s.walkPass :=
  ((s.onWalk_follows id rfl (.inl rfl)).trans (State.walkProofPass_follows _)).trans (State.walkRestPass_follows _)

theorem State.passes_follows (s : State) : s.Follows s.passes := s.motionsPass_follows.trans (State.walkPass_follows _)

theorem State.permitOf_of_no_demand {s : State} {m : Dig} (h : (s.motions.get m).demand = none) : s.permitOf m = none := by
  unfold State.permitOf
  dsimp only
  rw [h, ite_self]

theorem State.compose_follows (s : State) : s.Follows s.compose := by
  refine ⟨⟨id, rfl, fun _ => id⟩, .of_alarms rfl, .inl rfl, fun rest m => ?_, fun _ => rfl⟩
  have permit := State.permitOf_of_no_demand (rest m).2.1
  obtain ⟨idle, demand, -⟩ := rest m
  cases m
  exacts [⟨idle, demand, permit⟩, ⟨idle, demand, permit⟩, ⟨idle, demand, permit⟩]

/-! ### The arbiter -/

theorem State.claimsFollowOf_follows (s : State) (m : Motion) : s.Follows (s.claimsFollowOf m) := by
  refine State.Follows.ite (s.onGens_follows fun p g h => ?_) (State.Follows.ite (s.onGens_follows fun p g h => ?_) (.refl s))
  · rw [withdrawn_noRecord m h]
    exact h
  · rw [withdrawnFailing_noRecord m h]
    exact h

theorem State.claimsFollow_follows (s : State) : s.Follows s.claimsFollow := .foldl State.claimsFollowOf_follows _ s

theorem State.prune_follows (s : State) : s.Follows s.prune := s.claimsFollow_follows.trans (State.withArb_follows _ _)

theorem State.joins_follows (s : State) : s.Follows s.joins :=
  .foldl (fun s _ => (s.withArb_follows _).ite (.refl s)) _ s

theorem State.grantTo_follows (s : State) (m : Motion) (c : Option Motion) (n : Nat) (i : Fin 12) :
    s.Follows (s.grantTo m c n i) := by
  refine ((s.onGen_follows i fun g h => ?_).trans (State.withArb_follows _ _)).trans (State.prune_follows _)
  rw [handOver_noRecord _ _ _ _ h]
  exact h

theorem State.grantOne_follows {s t : State} (h : s.grantOne = some t) : s.Follows t := by
  unfold State.grantOne at h
  split at h
  · cases h
  · split at h
    · cases h
    · cases h
      exact s.grantTo_follows _ _ _ _

theorem State.grantLoop_follows (n : Nat) (s : State) : s.Follows (State.grantLoop n s) := by
  induction n generalizing s with
  | zero => exact .refl s
  | succ n ih =>
    unfold State.grantLoop
    split
    · exact .refl s
    · next t h => exact (State.grantOne_follows h).trans (ih t)

theorem State.recallHolds_follows (n : Nat) (s : State) : s.Follows (State.recallHolds n s) := by
  induction n generalizing s with
  | zero => exact .refl s
  | succ n ih =>
    unfold State.recallHolds
    split
    · exact .refl s
    · exact (s.endHold_follows _).ite ((s.endHold_follows _).trans (ih _))

theorem State.recall_follows (s : State) : s.Follows s.recall := (State.recallHolds_follows 3 s).ite (.refl s)

theorem State.arbRun_follows (n : Nat) (s : State) : s.Follows (State.arbRun n s) := by
  induction n generalizing s with
  | zero => exact .refl s
  | succ n ih =>
    exact ((State.grantLoop_follows 12 s).trans ((State.recall_follows _).trans (ih _))).ite (State.grantLoop_follows 12 s)

theorem State.arbitrate_follows (s0 s : State) : s.Follows (State.arbitrate s0 s) := by
  have listed : s.Follows s.prune.joins := s.prune_follows.trans (State.joins_follows _)
  exact ((listed.trans (State.arbRun_follows 4 _)).trans (State.prune_follows _)).ite listed

theorem State.starvedSync_follows (s : State) : s.Follows s.starvedSync :=
  .foldl (fun s _ => (State.Follows.refl s).ite (s.clearCondition_follows _ (by decide))) _ s

/-! ### The end of a change -/

theorem State.resolverFollow_follows (s : State) : s.Follows s.resolverFollow := s.withRes_follows _

/-- After its conditions have their truth, a running part follows the change. -/
theorem State.settle_follows (s0 : State) {s : State} (runs : s.power = .running) :
    s.syncConditions.Follows (State.settle s0 s) := by
  unfold State.settle
  rw [runs]
  exact (State.resolverFollow_follows _).ite
    ((((((State.resolverFollow_follows _).trans (State.passes_follows _)).trans (State.arbitrate_follows _ _)).trans
      (State.passes_follows _)).trans (State.starvedSync_follows _)).trans (State.compose_follows _))

/-- The completion of a change on a part that does not run changes nothing. -/
theorem State.settle_of_not_running (s0 : State) {s : State} (h : s.power ≠ .running) : State.settle s0 s = s := by
  unfold State.settle
  split
  exacts [absurd ‹_› h, rfl, rfl]

end Sys2Proof.Machine
end

section
/-! SUPPORT. The conditions at the end of a change: each takes the truth of its cause, and nothing later in the change takes
it back (R17, R36, R136). -/

namespace Sys2Proof.Machine

/-! ### A row of conditions, one after the other -/

section Row

variable {α : Type} {key : α → AlarmKey} {truth : State → α → Bool}

theorem State.row_same (l : List α) (s : State) :
    s.SameRecords (l.foldl (fun s a => s.setCondition (key a) (truth s a)) s) :=
  .foldl (fun s _ => s.setCondition_same _ _) l s

theorem State.isTrue_row_other (l : List α) (s : State) {k : AlarmKey} (hk : k ≠ fullKey) (apart : ∀ a ∈ l, k ≠ key a) :
    (l.foldl (fun s a => s.setCondition (key a) (truth s a)) s).isTrue k = s.isTrue k := by
  induction l generalizing s with
  | nil => rfl
  | cons a l ih =>
    rw [List.foldl_cons, ih _ fun b hb => apart b (List.mem_cons_of_mem a hb), s.isTrue_setCondition _ _ hk,
      if_neg (apart a List.mem_cons_self)]

/-- Each condition of the row has the truth that the records gave it at the start. -/
theorem State.isTrue_row (inj : Function.Injective key) (notFull : ∀ a, key a ≠ fullKey)
    (records : ∀ (s t : State) (a : α), s.SameRecords t → truth t a = truth s a) {l : List α} (s : State) {a : α}
    (ha : a ∈ l) : (l.foldl (fun s a => s.setCondition (key a) (truth s a)) s).isTrue (key a) = truth s a := by
  induction l generalizing s with
  | nil => cases ha
  | cons b l ih =>
    rw [List.foldl_cons]
    by_cases later : a ∈ l
    · rw [ih _ later, records _ _ _ (s.setCondition_same _ _)]
    · obtain rfl : a = b := (List.mem_cons.1 ha).resolve_right later
      rw [State.isTrue_row_other _ _ (notFull a) fun c hc e => later (inj e ▸ hc), s.isTrue_setCondition _ _ (notFull a),
        if_pos rfl]

end Row

/-! ### The count channels (R17) -/

theorem all_getElem?_number (c : Motion) : Motion.all[c.number - 1]? = some c := by cases c <;> rfl

theorem Motion.number_injective : Function.Injective Motion.number := by
  intro a b h
  have same := all_getElem?_number a
  rw [h, all_getElem?_number b] at same
  exact (Option.some.inj same).symm

theorem Motion.mem_all (c : Motion) : c ∈ Motion.all := by cases c <;> decide

theorem State.syncChannels_conditions (s : State) : s.syncChannels.ChannelConditions := by
  have numbered (code : Nat) : Function.Injective fun c : Motion => (⟨code, c.number⟩ : AlarmKey) :=
    fun a b h => Motion.number_injective (congrArg AlarmKey.num h)
  intro c
  unfold State.syncChannels
  let ended := Motion.all.foldl State.unreferencedEnds s
  have endedSame : s.SameRecords ended := .foldl State.unreferencedEnds_same _ s
  let suspects := Motion.all.foldl State.syncSuspect ended
  have suspectsSame : ended.SameRecords suspects := State.row_same _ _
  have lastSame : suspects.SameRecords (Motion.all.foldl State.syncUnreferenced suspects) := State.row_same _ _
  have suspect : suspects.isTrue ⟨6, c.number⟩ = decide ((ended.chans.ch.get c).refState = .suspect) :=
    State.isTrue_row (truth := fun (s : State) c => decide ((s.chans.ch.get c).refState = .suspect)) (numbered 6)
      (fun c => by cases c <;> decide) (fun s t c h => by rw [h.chans]) ended (Motion.mem_all c)
  have unreferenced : (Motion.all.foldl State.syncUnreferenced suspects).isTrue ⟨7, c.number⟩ =
      decide ((suspects.chans.ch.get c).refState = .unreferenced) :=
    State.isTrue_row (truth := fun (s : State) c => decide ((s.chans.ch.get c).refState = .unreferenced)) (numbered 7)
      (fun c => by cases c <;> decide) (fun s t c h => by rw [h.chans]) suspects (Motion.mem_all c)
  have kept : (Motion.all.foldl State.syncUnreferenced suspects).isTrue ⟨6, c.number⟩ = suspects.isTrue ⟨6, c.number⟩ :=
    State.isTrue_row_other _ _ (by simp [fullKey]) fun a _ => by simp
  constructor
  · rw [kept, suspect, lastSame.chans, suspectsSame.chans]
    exact decide_eq_true_iff
  · rw [unreferenced, lastSame.chans]
    exact decide_eq_true_iff

/-! ### The zone table (R36) -/

theorem State.anyStale_iff (s : State) : s.anyStale = true ↔ ∃ i : Fin 40, (s.zones.slots.get i).state = .stale := by
  unfold State.anyStale
  rw [List.any_eq_true]
  constructor
  · rintro ⟨z, mem, stale⟩
    obtain ⟨i, hi, rfl⟩ := List.getElem_of_mem mem
    exact ⟨⟨i, s.zones.slots.size ▸ hi⟩, of_decide_eq_true stale⟩
  · rintro ⟨i, stale⟩
    exact ⟨s.zones.slots.get i, List.get_mem _ _, decide_eq_true stale⟩

theorem State.syncZones_conditions (s : State) : s.syncZones.ZoneConditions := by
  unfold State.syncZones
  let marked := slotsAll.foldl State.syncDefective s
  have markedSame : s.SameRecords marked := State.row_same _ _
  have last : marked.SameRecords marked.syncStale := State.setCondition_same _ _ _
  constructor
  · intro i
    have defective : marked.isTrue ⟨15, i.val⟩ = s.isDefective i :=
      State.isTrue_row (key := fun i : Fin 40 => ⟨15, i.val⟩) (fun a b h => Fin.ext (congrArg AlarmKey.num h))
        (fun a => by simp [fullKey]) (fun s t i h => by unfold State.isDefective; rw [h.zones]) s (List.mem_finRange i)
    have kept : marked.syncStale.isTrue ⟨15, i.val⟩ = marked.isTrue ⟨15, i.val⟩ := by
      unfold State.syncStale
      rw [State.isTrue_setCondition _ _ _ (by simp [fullKey]), if_neg (by simp)]
    rw [kept, defective, last.zones, markedSame.zones]
    exact decide_eq_true_iff
  · have stale : marked.syncStale.isTrue ⟨16, 0⟩ = marked.anyStale := by
      unfold State.syncStale
      rw [State.isTrue_setCondition _ _ _ (by decide), if_pos rfl]
    rw [stale, last.zones]
    exact marked.anyStale_iff

/-! ### Conditions that outlast a change -/

theorem State.ChannelConditions.kept {codes : List Nat} {s t : State} (h : s.ChannelConditions)
    (truth : State.TruthBut codes s t) (chans : t.chans = s.chans) (six : 6 ∉ codes) (seven : 7 ∉ codes) :
    t.ChannelConditions := by
  intro c
  rw [truth ⟨6, c.number⟩ six, truth ⟨7, c.number⟩ seven, chans]
  exact h c

theorem State.ZoneConditions.kept {codes : List Nat} {s t : State} (h : s.ZoneConditions)
    (truth : State.TruthBut codes s t) (zones : t.zones = s.zones) (defective : 15 ∉ codes) (stale : 16 ∉ codes) :
    t.ZoneConditions := by
  unfold State.ZoneConditions
  rw [zones, truth ⟨16, 0⟩ stale]
  exact ⟨fun i => by rw [truth ⟨15, i.val⟩ defective]; exact h.1 i, h.2⟩

theorem State.gensReport_truth (s : State) : State.TruthBut [10, 11, 12, 21] s s.gensReport :=
  ((State.TruthBut.foldl (fun s g => .setCondition s _ (by decide) (by decide)) gensAll s).trans
    (.foldl (fun s g => .setCondition s _ (by decide) (by decide)) gensAll _)).trans
    (.foldl (fun s g => .setCondition s _ (by decide) (by decide)) gensAll _)

theorem State.syncGens_truth (s : State) : State.TruthBut [10, 11, 12, 21] s s.syncGens :=
  (State.TruthBut.refl _ s).ite s.gensReport_truth

theorem State.syncZones_truth (s : State) : State.TruthBut [15, 16, 21] s s.syncZones := by
  unfold State.syncZones
  exact (State.TruthBut.foldl (fun s i => .setCondition s _ (by decide) (by decide)) slotsAll s).trans
    (.setCondition _ _ (by decide) (by decide))

theorem State.syncChannels_truth (s : State) : State.TruthBut [6, 7, 21] s s.syncChannels :=
  ((State.TruthBut.foldl (fun s c => (State.TruthBut.refl _ s).ite (.clearCondition s (by decide) (by decide)))
    Motion.all s).trans (.foldl (fun s c => .setCondition s _ (by decide) (by decide)) Motion.all _)).trans
    (.foldl (fun s c => .setCondition s _ (by decide) (by decide)) Motion.all _)

theorem State.syncConditions_conditions (s : State) :
    s.syncConditions.ChannelConditions ∧ s.syncConditions.ZoneConditions := by
  refine ⟨?_, State.syncZones_conditions _⟩
  have gens := s.syncChannels_conditions.kept (State.syncGens_truth _) (State.syncGens_same _).chans (by decide) (by decide)
  exact gens.kept (State.syncZones_truth _) (State.syncZones_same _).chans (by decide) (by decide)

/-- The codes of the conditions that the end of a change sets or clears. -/
def settleCodes : List Nat := [6, 7, 10, 11, 12, 15, 16, 21] ++ followCodes

theorem State.syncConditions_truth (s : State) : State.TruthBut settleCodes s s.syncConditions :=
  ((s.syncChannels_truth.mono (by decide)).trans ((State.syncGens_truth _).mono (by decide))).trans
    ((State.syncZones_truth _).mono (by decide))

/-- The end of a change leaves the truth of every other condition alone. -/
theorem State.settle_truth (s0 s : State) : State.TruthBut settleCodes s (State.settle s0 s) := by
  by_cases runs : s.power = .running
  · exact s.syncConditions_truth.trans ((State.settle_follows s0 runs).drops.truth.mono (by decide))
  · rw [State.settle_of_not_running s0 runs]
    exact .refl _ s

/-- A change completed on a running part leaves the channel and zone conditions at the truth of their causes. -/
theorem State.settle_conditions (s0 : State) {s : State} (runs : s.power = .running) :
    (State.settle s0 s).ChannelConditions ∧ (State.settle s0 s).ZoneConditions := by
  obtain ⟨channels, zones⟩ := s.syncConditions_conditions
  have truth := (State.settle_follows s0 runs).drops.truth
  have settled := State.settle_same s0 s
  have synced := s.syncConditions_same
  exact ⟨channels.kept truth (by rw [settled.chans, synced.chans]) (by decide) (by decide),
    zones.kept truth (by rw [settled.zones, synced.zones]) (by decide) (by decide)⟩

/-! ### How every command ends -/

/-- What leaves the channel and zone conditions as they were: the part runs as before, and the conditions, the reference
states and the slots are the same. -/
structure State.SameCauses (s t : State) : Prop where
  power : t.power = s.power
  conditions : t.alarms.conditions = s.alarms.conditions
  refState : ∀ c, (t.chans.ch.get c).refState = (s.chans.ch.get c).refState
  slots : t.zones.slots = s.zones.slots

theorem State.SameCauses.refl (s : State) : s.SameCauses s := ⟨rfl, rfl, fun _ => rfl, rfl⟩

/-- A command's end: a change completed, a part that does not run, or one in which no cause of a condition has moved. -/
def State.Ends (s t : State) : Prop := (∃ s0 u, t = State.settle s0 u) ∨ t.power ≠ .running ∨ s.SameCauses t

theorem State.event_ends (s : State) (f : State → State) : s.Ends (s.event f) := by
  unfold State.event
  split
  · exact .inl ⟨_, _, rfl⟩
  · exact .inr (.inr (.refl s))
  · exact .inr (.inr (.refl s))

theorem State.levelEvent_ends (s : State) (l : Inputs → Inputs) (f : State → State) : s.Ends (s.levelEvent l f) := by
  unfold State.levelEvent
  dsimp only
  split
  · exact .inl ⟨_, _, rfl⟩
  · exact .inr (.inr ⟨rfl, rfl, fun _ => rfl, rfl⟩)
  · exact .inr (.inr ⟨rfl, rfl, fun _ => rfl, rfl⟩)

theorem State.frameTaken_ends (s : State) (p : Port) (take : State → State) : s.Ends (s.frameTaken p take) := by
  unfold State.frameTaken
  split
  · split
    · exact .inr (.inr ⟨rfl, rfl, fun _ => rfl, rfl⟩)
    · exact .inl ⟨_, _, rfl⟩
  · exact .inr (.inr (.refl s))
  · exact .inr (.inr (.refl s))

theorem State.tick_causes (s : State) : s.SameCauses s.tick := by
  have both : s.SameCauses s.tickBoth := by
    refine ⟨rfl, rfl, fun c => ?_, rfl⟩
    show ((s.chans.ch.map Chan.tick).get c).refState = _
    rw [PerMotion.get_map]
    rfl
  unfold State.tick
  split
  · split
    · exact both
    · exact ⟨both.power, both.conditions, both.refState, both.slots⟩
  · exact ⟨rfl, rfl, fun _ => rfl, rfl⟩
  · exact .refl s

/-- Every command ends so. -/
theorem exec_ends (c : Instr) (s : State) : ∃ t, exec c s = .next t ∧ s.Ends t := by
  cases c with
  | read f | next f | status f | demand f | arm f | stopAll f | parkMachine f | walk f | walkHalt f | walkResume f
  | walkCancel f | writeZone f | retireZone f | confirmZones f | flushCache f | referenceReset f | acknowledge f | shelve f
  | unshelve f | setAnnounce f | lockOutGenerator f | returnGenerator f | openGuard f | writeConstant f | commit f
  | restart f | unknown f code => exact ⟨_, rfl, s.frameTaken_ends _ _⟩
  | check p tag code | lengthOutOfRange p length | frameGap p byte | lineBreakOrFramingError p | frameDiscarded p
  | answerSent p | guardWindowEnd | cabLinkPeriodEnd | rateWindowEnd c | encoderIndex c | camIndex | scrubVisit faults
  | resolutionEnd | openingProofTimeEnd g | failedClose g | releaseHoldExpiry m | starveTimeEnd m | brakeReleaseTimeEnd m
  | brakeSetTimeEnd m | stopTimeout m | prepareTimeout | phaseTimeout | dwellEnd | shelfMinute key | markerWriteDone
  | commitWriteEnd left => exact ⟨_, rfl, s.event_ends _⟩
  | quadratureCount c input level | countDirectionCount c input level | quadratureError c | referenceSwitchMake c
  | referenceSwitchBreak c | tubLiftOff | tubSetDown | closureProof g loop | dropOutProof g loop
  | strayOrLostProof g loop present | lockedOutProofChange g loop present | brakeReleaseProof m | brakeSetProof m
  | releaseProofLost m | brakeLiftWithoutCommand m | emergencyStopInput stop | mainsLoss | mainsReturn =>
    exact ⟨_, rfl, s.levelEvent_ends _ _⟩
  | holdupExhausted =>
    refine ⟨_, rfl, ?_⟩
    split
    exacts [.inr (.inl nofun), .inr (.inr (.refl s))]
  | powerOn =>
    refine ⟨_, rfl, ?_⟩
    split
    exacts [.inr (.inr (.refl s)), .inr (.inl nofun)]
  | resetLine =>
    refine ⟨_, rfl, ?_⟩
    split
    exacts [.inr (.inl nofun), .inr (.inl nofun), .inr (.inr (.refl s))]
  | settingsLoadEnd =>
    refine ⟨_, rfl, ?_⟩
    split
    exacts [.inl ⟨_, _, rfl⟩, .inr (.inr (.refl s)), .inr (.inr (.refl s))]

theorem step_ends {s t : State} (stepped : step s = .next t) : s.Ends t := by
  unfold step at stepped
  split at stepped
  · next c rest _ =>
    obtain ⟨u, run, ends⟩ := exec_ends c { s with pending := rest }
    rw [run] at stepped
    cases stepped
    exact ends.imp_right (.imp_right fun same => ⟨same.power, same.conditions, same.refState, same.slots⟩)
  · cases stepped
    exact .inr (.inr s.tick_causes)

/-! ### The channel and zone conditions through every step -/

theorem State.SameCauses.isTrue {s t : State} (h : s.SameCauses t) (k : AlarmKey) : t.isTrue k = s.isTrue k := by
  unfold State.isTrue Alarms.isTrue
  rw [h.conditions]

theorem State.SameCauses.channelConditions {s t : State} (h : s.SameCauses t) (conditions : s.ChannelConditions) :
    t.ChannelConditions := by
  intro c
  rw [h.isTrue, h.isTrue, h.refState]
  exact conditions c

theorem State.SameCauses.zoneConditions {s t : State} (h : s.SameCauses t) (conditions : s.ZoneConditions) :
    t.ZoneConditions := by
  unfold State.ZoneConditions
  rw [h.slots, h.isTrue]
  exact ⟨fun i => by rw [h.isTrue]; exact conditions.1 i, conditions.2⟩

/-- Settles O8: a step that completes a change sets the conditions from their causes, and no other step of a part that runs
moves a cause or a condition. -/
theorem channelAndZoneConditionsFollow : Obligations.ChannelAndZoneConditionsFollow := by
  intro s t before stepped runs
  rcases step_ends stepped with ⟨s0, u, rfl⟩ | stopped | same
  · exact State.settle_conditions s0 ((State.settle_same s0 u).power.symm.trans runs)
  · exact absurd runs stopped
  · obtain ⟨channels, zones⟩ := before (same.power.symm.trans runs)
    exact ⟨same.channelConditions channels, same.zoneConditions zones⟩

end Sys2Proof.Machine
end

section
/-! SUPPORT. The count channels' own commands (01): a count, a quadrature error and a rate window end, each by what it does to
its channel record and what it leaves alone. -/

namespace Sys2Proof.Machine

/-! ### What a channel command leaves alone -/

theorem State.SameRecords.butChannels {s t : State} (h : s.SameRecords t) : s.SameButChannels t :=
  ⟨h.pending, h.power, h.clock, h.k, h.fitted, h.store, h.commit, h.zones, h.supply, h.ports, h.guardLeft, h.cabTimer⟩

theorem State.SameButChannels.trans {s t u : State} (h : s.SameButChannels t) (g : t.SameButChannels u) :
    s.SameButChannels u where
  pending := g.pending.trans h.pending
  power := g.power.trans h.power
  clock := g.clock.trans h.clock
  k := g.k.trans h.k
  fitted := g.fitted.trans h.fitted
  store := g.store.trans h.store
  commit := g.commit.trans h.commit
  zones := g.zones.trans h.zones
  supply := g.supply.trans h.supply
  ports := g.ports.trans h.ports
  guardLeft := g.guardLeft.trans h.guardLeft
  cabTimer := g.cabTimer.trans h.cabTimer

theorem State.SameButChannels.settled {s u : State} (h : s.SameButChannels u) (s0 : State) :
    s.SameButChannels (State.settle s0 u) := h.trans (State.settle_same s0 u).butChannels

theorem State.onChan_butChannels (s : State) (c : Motion) (f : Chan → Chan) : s.SameButChannels (s.onChan c f) := by
  constructor <;> rfl

theorem State.withInputs_butChannels (s : State) (i : Inputs) : s.SameButChannels { s with inputs := i } := by
  constructor <;> rfl

theorem State.onChan_others (s : State) (c : Motion) (f : Chan → Chan) : s.OtherChannels (s.onChan c f) c :=
  fun _ hd => PerMotion.get_set_ne _ _ hd

/-! ### One count (R1, R3–R5) -/

theorem inLimits_iff (p : Int) : InLimits p ↔ ¬ (p < positionMin ∨ positionMax < p) := by
  unfold InLimits positionMin positionMax
  omega

theorem Dir.sign_eq (d : Dir) : Dir.sign d = if d = .plus then 1 else -1 := by cases d <;> rfl

theorem rateCounted_after (d : Dir) (n : Int) : CounterAfter d n (rateCounted n d) := by
  rintro ⟨low, high⟩
  unfold rateCounted rateLimit Dir.sign
  constructor
  · rintro rfl
    dsimp only
    split <;> omega
  · rintro rfl
    dsimp only
    split <;> omega

theorem Chan.countedInRange_measures (ch : Chan) (d : Dir) (p : Int) (off : Bool) :
    ch.SameMeasures (ch.countedInRange d p off) := by
  unfold Chan.countedInRange
  split <;> exact ⟨rfl, rfl, rfl, rfl⟩

theorem Chan.countedInRange_rope (ch : Chan) (d : Dir) (off : Bool) :
    ch.RopeCounted (ch.countedInRange d (ch.position - Dir.sign d) off) d := by
  unfold Chan.RopeCounted Chan.countedInRange
  rw [← Dir.sign_eq, inLimits_iff, not_not]
  exact ⟨fun inside => by
    rw [if_neg inside]
    exact ⟨rfl, rateCounted_after d _, rfl, rfl, rfl⟩,
    fun beyond => by
    rw [if_pos beyond]
    exact ⟨rfl, rfl, rfl, rfl⟩⟩

theorem Chan.walkCounted_measures (ch : Chan) (cpr : Nat) (d : Dir) : ch.SameMeasures (ch.walkCounted cpr d) := by
  unfold Chan.walkCounted
  dsimp only
  split
  · exact ⟨rfl, rfl, rfl, rfl⟩
  · split <;> exact ⟨rfl, rfl, rfl, rfl⟩

theorem missedIndex_iff (cpr : Nat) (p : Int) : missedIndex cpr p = true ↔ cpr + cpr / 8 < p.natAbs := decide_eq_true_iff

theorem Chan.walkCounted_cam (ch : Chan) (cpr : Nat) (d : Dir) : ch.CamCounted (ch.walkCounted cpr d) cpr d := by
  unfold Chan.CamCounted Chan.walkCounted
  dsimp only
  rw [← Dir.sign_eq, inLimits_iff, not_not]
  constructor
  · intro inside
    rw [if_neg inside]
    by_cases missed : missedIndex cpr (ch.position + Dir.sign d) = true
    · rw [if_pos missed]
      have far := (missedIndex_iff _ _).1 missed
      exact ⟨rfl, rateCounted_after d _, rfl, fun near => absurd far (Nat.not_lt.2 near), fun _ => ⟨rfl, rfl⟩⟩
    · rw [if_neg missed]
      exact ⟨rfl, rateCounted_after d _, rfl, fun _ => ⟨rfl, rfl⟩, fun far => absurd ((missedIndex_iff _ _).2 far) missed⟩
  · intro beyond
    rw [if_pos beyond]
    exact ⟨rfl, rfl, rfl, rfl⟩

theorem State.countSwing_counted (s : State) (d : Dir) : SwingCounted s.k.cprSwing s.chans.ch.swing
    (s.countSwing d).chans.ch.swing s.chans.turns (s.countSwing d).chans.turns d := by
  have counter : CounterAfter d s.chans.ch.swing.rateCounter (s.countSwing d).chans.ch.swing.rateCounter :=
    rateCounted_after d _
  refine ⟨?_, ?_, counter, rfl, rfl, rfl⟩
  · rintro rfl
    unfold State.countSwing swingCounted Chan.counted
    dsimp only
    split
    · exact ⟨rfl, congrArg (s.chans.turns + ·) (by decide : BitVec.ofInt 16 1 = 1)⟩
    · exact ⟨rfl, BitVec.add_zero _⟩
  · rintro rfl
    unfold State.countSwing swingCounted Chan.counted
    dsimp only
    split
    · exact ⟨rfl, (BitVec.sub_eq_add_neg _ 1).symm⟩
    · exact ⟨rfl, BitVec.add_zero _⟩

theorem State.countChan_takes (s : State) (c : Motion) (d : Dir) : s.TakesCount (s.countChan c d) c d := by
  cases c with
  | hoist =>
    exact ⟨Chan.countedInRange_measures _ _ _ _, s.onChan_others _ _, fun _ => rfl, rfl, rfl, rfl,
      Chan.countedInRange_rope _ _ _⟩
  | drag =>
    exact ⟨Chan.countedInRange_measures _ _ _ _, s.onChan_others _ _, fun _ => rfl, rfl, rfl, rfl,
      Chan.countedInRange_rope _ _ _⟩
  | swing =>
    refine ⟨⟨rfl, rfl, rfl, rfl⟩, fun e he => ?_, fun h => absurd rfl h, rfl, rfl, rfl, s.countSwing_counted d⟩
    cases e
    exacts [rfl, rfl, absurd rfl he, rfl]
  | walk =>
    exact ⟨Chan.walkCounted_measures _ _ _, s.onChan_others _ _, fun _ => rfl, rfl, rfl, rfl, Chan.walkCounted_cam _ _ _⟩

theorem State.countChan_butChannels (s : State) (c : Motion) (d : Dir) : s.SameButChannels (s.countChan c d) := by
  cases c <;> constructor <;> rfl

theorem State.countChan_inputs (s : State) (c : Motion) (d : Dir) : (s.countChan c d).inputs = s.inputs := by
  cases c <;> rfl

/-- A count is the count of its channel, and what the walk does besides leaves the records alone. -/
theorem State.count_same (s : State) (c : Motion) (d : Dir) : (s.countChan c d).SameRecords (s.count c d) := by
  unfold State.count
  split
  · next walk =>
    subst walk
    exact (State.SameRecords.refl _).ite (State.walkPhaseFollows_same _)
  · exact .refl _

/-- What a count that is taken leaves, on the levels as they have moved. -/
theorem exec_count {s t : State} (i : Inputs) (c : Motion) (d : Dir)
    (h : t = State.settle s (State.count { s with inputs := i } c d)) :
    s.TakesCount t c d ∧ s.SameButChannels t ∧ t.inputs = i := by
  have same := (State.count_same { s with inputs := i } c d).trans (State.settle_same s _)
  have moved := (s.withInputs_butChannels i).trans (State.countChan_butChannels { s with inputs := i } c d)
  rw [← h] at same
  refine ⟨?_, moved.trans same.butChannels, same.inputs.trans (State.countChan_inputs _ c d)⟩
  have takes := State.countChan_takes { s with inputs := i } c d
  unfold State.TakesCount State.OtherChannels at takes ⊢
  rw [same.chans]
  exact takes

/-! ### Which changes count, and in which direction (R1, R2) -/

theorem senseDir_plus_iff (sense : CountSense) (plus : Bool) :
    senseDir sense plus = .plus ↔ (plus = true ↔ sense = .normal) := by
  cases sense <;> cases plus <;> simp [senseDir]

theorem aLeads_iff (i : Inputs) (c : Motion) (input : EncoderInput) (level : Bool) :
    aLeads input level (i.encoder c (otherInput input)) = true ↔
      (input = .a ∧ level ≠ i.encB.get c) ∨ (input = .b ∧ level = i.encA.get c) := by
  cases input <;>
    simp only [aLeads, otherInput, Inputs.encoder, true_and, false_and, or_false, false_or, reduceCtorEq] <;>
    exact decide_eq_true_iff

theorem quadratureCounts_of {x : Multiplier} {input : EncoderInput} {level : Bool}
    (h : x = .x4 ∨ (x = .x2 ∧ input = .a) ∨ (x = .x1 ∧ input = .a ∧ level = true)) :
    quadratureCounts x input level = true := by
  rcases h with rfl | ⟨rfl, rfl⟩ | ⟨rfl, rfl, rfl⟩ <;> rfl

theorem directionCounts_of {x : Multiplier} {level : Bool} (h : x = .x2 ∨ (x = .x1 ∧ level = true)) :
    directionCounts x .b level = true := by
  rcases h with rfl | ⟨rfl, rfl⟩ <;> rfl

theorem execQuadratureError_chans (s : State) (c : Motion) (mode : (s.k.channel.get c).mode = .quadrature) :
    State.quadratureFault { s with inputs := s.inputs.flipEncoder c } c =
      State.onChan { s with inputs := s.inputs.flipEncoder c } c fun ch => ch.suspected .quadrature := if_pos mode

/-- Settles O13, from what one count does to its channel record and which changes are counts. -/
theorem encoderChangesCount : Obligations.EncoderChangesCount := by
  refine ⟨fun s c input level runs mode changes counts => ?_, fun s c level runs mode changes counts => ?_,
    fun s c runs mode => ?_⟩
  · let d := senseDir (s.k.channel.get c).sense (aLeads input level (s.inputs.encoder c (otherInput input)))
    have dir : quadratureDir s.k s.inputs c input level = some d := if_pos ⟨mode, changes, quadratureCounts_of counts⟩
    refine ⟨_, d, rfl, ?_, exec_count _ c d ?_⟩
    · rw [senseDir_plus_iff, aLeads_iff]
    · rw [s.levelEvent_runs _ _ runs, dir]
      rfl
  · let d := senseDir (s.k.channel.get c).sense (s.inputs.encoder c .a)
    have dir : countDirectionDir s.k s.inputs c .b level = some d := if_pos ⟨mode, changes, directionCounts_of counts⟩
    refine ⟨_, d, rfl, senseDir_plus_iff _ _, exec_count _ c d ?_⟩
    rw [s.levelEvent_runs _ _ runs, dir]
    rfl
  · have same := State.settle_same s (State.quadratureFault { s with inputs := s.inputs.flipEncoder c } c)
    rw [execQuadratureError_chans s c mode] at same
    refine ⟨_, ?_, ?_, same.chans, same.inputs⟩
    · show Host.Outcome.next _ = _
      rw [s.levelEvent_runs _ _ runs, execQuadratureError_chans s c mode]
    · exact ((s.withInputs_butChannels _).trans (State.onChan_butChannels _ c _)).trans same.butChannels

/-! ### Rate windows (R7–R10) -/

/-- The state after the own effect of a rate window end, but for what it does to the alarm table. -/
theorem State.windowEnd_same (s : State) (c : Motion) :
    (s.onChan c fun ch => ch.windowEnded (s.k.channel.get c)).SameRecords (s.windowEnd c) :=
  (State.unreferencedEnds_same _ c).trans (State.setCondition_same _ _ _)

/-- The channel record at its window end, field by field (R7, R8, R10). -/
theorem Chan.windowEnded_fields (ch : Chan) (x : ChannelConstants) :
    (ch.windowEnded x).rate = ch.rateCounter ∧ (ch.windowEnded x).rateCounter = 0 ∧
      (ch.windowEnded x).windowLeft = x.rateWindow ∧
      (ch.windowEnded x).quietWindows = quietAfter ch.quietWindows x.stoppedThreshold ch.rateCounter ∧
      (ch.windowEnded x).position = ch.position ∧ (ch.windowEnded x).lastDirection = ch.lastDirection ∧
      (ch.windowEnded x).capture = ch.capture := by
  unfold Chan.windowEnded
  dsimp only
  split <;> exact ⟨rfl, rfl, rfl, rfl, rfl, rfl, rfl⟩

theorem Chan.windowEnded_implausible {ch : Chan} {x : ChannelConstants} (h : x.plausibilityLimit < ch.rateCounter.natAbs) :
    (ch.windowEnded x).refState = .suspect ∧ (ch.windowEnded x).suspectCause = some .jump := by
  unfold Chan.windowEnded
  dsimp only
  rw [if_pos h]
  exact ⟨rfl, rfl⟩

theorem Chan.windowEnded_plausible {ch : Chan} {x : ChannelConstants} (h : ch.rateCounter.natAbs ≤ x.plausibilityLimit) :
    (ch.windowEnded x).refState = ch.refState ∧ (ch.windowEnded x).suspectCause = ch.suspectCause := by
  unfold Chan.windowEnded
  dsimp only
  rw [if_neg (Nat.not_lt.2 h)]
  exact ⟨rfl, rfl⟩

/-- OVERSPEED takes its truth from the new rate, and keeps it to the end of the change (R9). -/
theorem State.windowEnd_overspeed (s0 s : State) (c : Motion) :
    (State.settle s0 (s.windowEnd c)).isTrue ⟨5, c.number⟩ =
      overspeed (s.k.channel.get c) (s.chans.ch.get c).rateCounter := by
  rw [State.settle_truth s0 (s.windowEnd c) ⟨5, c.number⟩ (by simp [settleCodes, followCodes])]
  unfold State.windowEnd
  dsimp only
  rw [State.isTrue_setCondition _ _ _ (by simp [fullKey]), if_pos rfl, (State.unreferencedEnds_same _ c).chans,
    State.onChan_chans, PerMotion.get_set_self, (Chan.windowEnded_fields _ _).1]

/-- The channel records when a rate window end is complete. -/
theorem execRateWindowEnd_chans (s : State) (c : Motion) : (State.settle s (s.windowEnd c)).chans =
    { s.chans with ch := s.chans.ch.set c ((s.chans.ch.get c).windowEnded (s.k.channel.get c)) } :=
  (State.settle_same s _).chans.trans (s.windowEnd_same c).chans

/-- Settles O14. -/
theorem windowEndMeasuresRate : Obligations.WindowEndMeasuresRate := by
  intro s c runs
  obtain ⟨rate, counter, window, -, position, direction, capture⟩ :=
    Chan.windowEnded_fields (s.chans.ch.get c) (s.k.channel.get c)
  have same := (s.windowEnd_same c).trans (State.settle_same s _)
  refine ⟨State.settle s (s.windowEnd c), congrArg _ (s.event_runs _ runs), ?_⟩
  rw [s.windowEnd_overspeed s c]
  unfold State.OtherChannels
  simp only [execRateWindowEnd_chans, PerMotion.get_set_self]
  exact ⟨rate, counter, window, Chan.windowEnded_implausible, Chan.windowEnded_plausible, decide_eq_true_iff, position,
    direction, capture, fun _ hd => PerMotion.get_set_ne _ _ hd, same.inputs, trivial, trivial,
    (s.onChan_butChannels c _).trans same.butChannels⟩

/-- Settles O15. -/
theorem stoppedAfterThreeQuietWindows : Obligations.StoppedAfterThreeQuietWindows := by
  refine ⟨fun s c runs => ?_, fun s c => decide_eq_true_iff, fun c => ?_⟩
  · obtain ⟨rate, -, -, quiet, -⟩ := Chan.windowEnded_fields (s.chans.ch.get c) (s.k.channel.get c)
    refine ⟨State.settle s (s.windowEnd c), congrArg _ (s.event_runs _ runs), ?_⟩
    rw [execRateWindowEnd_chans]
    simp only [PerMotion.get_set_self, rate, quiet]
    exact ⟨fun slow => if_pos slow, fun fast => if_neg (Nat.not_le.2 fast)⟩
  · cases c <;> exact ⟨rfl, rfl⟩

end Sys2Proof.Machine
end

section
/-! SUPPORT. Reference edges, tub bearing captures and REFERENCE RESET (01 R11, R12, R14, R15), and the reset state. -/

namespace Sys2Proof.Machine

/-! ### A reference edge (R12) -/

theorem Chan.atEdge_taken (ch : Chan) (k : Constants) (c : Motion) (now : Nat) :
    ch.EdgeTaken (ch.atEdge k c now) (refValueOf k c) (preloads k c = true) now := by
  by_cases referenced : ch.refState = .referenced
  · have edge : ch.atEdge k c now =
        { ch with
          capture := some ⟨ch.position, now⟩
          position := if preloads k c then refValueOf k c else ch.position } := if_pos referenced
    rw [edge]
    exact ⟨referenced, fun other => absurd referenced other, fun _ => ⟨rfl, fun h => if_pos h, fun h => if_neg h⟩, rfl, rfl,
      rfl, rfl⟩
  · have edge : ch.atEdge k c now =
        { ch with position := refValueOf k c, suspectCause := none, refState := .referenced } := if_neg referenced
    rw [edge]
    exact ⟨rfl, fun _ => ⟨rfl, rfl, rfl⟩, fun h => absurd h referenced, rfl, rfl, rfl, rfl⟩

theorem preloads_motion (k : Constants) (c : Dig) : (preloads k c.motion = true) = ((k.reference.get c).mode = .everyEdge) := by
  unfold preloads
  rw [Motion.dig?_motion]
  exact decide_eq_true_eq

theorem referenceValue_eq (k : Constants) (c : Motion) : referenceValue k c = refValueOf k c := by cases c <;> rfl

theorem turnsAtEdge_taken (turns : BitVec 16) (ch : Chan) (k : Constants) :
    TurnsAtEdge k.cprSwing ch ((k.reference.get .swing).mode = .everyEdge) turns (turnsAtEdge turns ch k) := by
  rw [← preloads_motion k .swing]
  show TurnsAtEdge k.cprSwing ch (preloads k .swing = true) turns (turnsAtEdge turns ch k)
  unfold TurnsAtEdge turnsAtEdge
  refine ⟨fun h => if_neg h, fun h p far => ?_, fun h _ near => ?_, fun h p => ?_⟩
  · rw [if_pos h, if_pos (by rw [p, decide_eq_true far]; rfl)]
  · rw [if_pos h, if_neg (by rw [decide_eq_false (Int.not_le.2 near), Bool.and_false]; exact Bool.false_ne_true)]
  · rw [if_pos h, if_neg (by rw [Bool.eq_false_iff.2 p, Bool.false_and]; exact Bool.false_ne_true)]

theorem State.referenceEdge_ch (s : State) (c : Motion) :
    (s.referenceEdge c).chans.ch = s.chans.ch.set c ((s.chans.ch.get c).atEdge s.k c s.now) := by
  unfold State.referenceEdge
  dsimp only
  split <;> rfl

theorem State.referenceEdge_butChannels (s : State) (c : Motion) :
    s.SameButChannels (s.referenceEdge c) ∧ (s.referenceEdge c).inputs = s.inputs := by
  unfold State.referenceEdge
  dsimp only
  split <;> exact ⟨by constructor <;> rfl, rfl⟩

theorem State.referenceEdge_taken (s : State) (c : Dig) : s.DigEdgeTaken (s.referenceEdge c.motion) c := by
  have edge := Chan.atEdge_taken (s.chans.ch.get c.motion) s.k c.motion s.now
  rw [preloads_motion, ← referenceValue_eq] at edge
  unfold State.DigEdgeTaken State.OtherChannels
  rw [State.referenceEdge_ch, PerMotion.get_set_self]
  refine ⟨edge, fun d hd => PerMotion.get_set_ne _ _ hd, ?_⟩
  cases c
  · exact ⟨nofun, fun _ => rfl, rfl, rfl, rfl⟩
  · exact ⟨nofun, fun _ => rfl, rfl, rfl, rfl⟩
  · exact ⟨fun _ => turnsAtEdge_taken _ _ _, fun h => absurd rfl h, rfl, rfl, rfl⟩

/-- An edge is a relation of the channels alone. -/
theorem State.DigEdgeTaken.congr {s t u : State} {c : Dig} (h : s.DigEdgeTaken t c) (chans : u.chans = t.chans) :
    s.DigEdgeTaken u c := by
  unfold State.DigEdgeTaken State.OtherChannels at h ⊢
  rw [chans]
  exact h

/-- Switch armed is no part of an edge. -/
theorem State.DigEdgeTaken.arm {s t : State} {c : Dig} (h : s.DigEdgeTaken t c) (b : Bool) : s.DigEdgeTaken (t.arm c b) c := by
  obtain ⟨edge, others, turns, turns', rest⟩ := h
  refine ⟨?_, fun d hd => ?_, ?_, turns', rest⟩
  · show Chan.EdgeTaken _ ((t.chans.ch.set c.motion _).get c.motion) _ _ _
    rw [PerMotion.get_set_self]
    exact edge
  · show (t.chans.ch.set c.motion _).get d = _
    rw [PerMotion.get_set_ne _ _ hd]
    exact others d hd
  · exact turns

/-! ### Switches and indexes (R11) -/

theorem State.inReferenceDirection_iff (s : State) (c : Dig) : s.inReferenceDirection c = true ↔
    (s.chans.ch.get c.motion).lastDirection = some (s.k.reference.get c).direction := decide_eq_true_iff

theorem State.switchMade_switch {s : State} {c : Dig} (dir : s.inReferenceDirection c = true)
    (qualifier : (s.k.reference.get c).qualifier = .switch) : s.switchMade c = s.referenceEdge c.motion := by
  unfold State.switchMade
  rw [if_pos dir, qualifier]

theorem State.switchMade_arms {s : State} {c : Dig} (dir : s.inReferenceDirection c = true)
    (qualifier : (s.k.reference.get c).qualifier = .switchThenIndex) : s.switchMade c = s.arm c true := by
  unfold State.switchMade
  rw [if_pos dir, qualifier]

theorem State.switchMade_against {s : State} {c : Dig} (dir : ¬ s.inReferenceDirection c = true) : s.switchMade c = s :=
  if_neg dir

theorem State.butChannels_arm (s : State) (c : Dig) (b : Bool) : s.SameButChannels (s.arm c b) := s.onChan_butChannels _ _

theorem State.switchMade_butChannels (s : State) (c : Dig) :
    s.SameButChannels (s.switchMade c) ∧ (s.switchMade c).inputs = s.inputs := by
  unfold State.switchMade
  split
  · split
    exacts [s.referenceEdge_butChannels _, ⟨s.butChannels_arm c true, rfl⟩]
  · exact ⟨(State.SameRecords.refl s).butChannels, rfl⟩

theorem State.indexTaken_iff (s : State) (c : Dig) : s.indexTaken c = true ↔
    (s.k.reference.get c).qualifier = .switchThenIndex ∧ (s.chans.ch.get c.motion).armed = true ∧
      s.inputs.refSwitch.get c = true ∧
      (s.chans.ch.get c.motion).lastDirection = some (s.k.reference.get c).direction := by
  unfold State.indexTaken
  rw [Bool.and_eq_true, Bool.and_eq_true, Bool.and_eq_true, decide_eq_true_eq, State.inReferenceDirection_iff, and_assoc,
    and_assoc]

theorem State.encoderIndex_butChannels (s : State) (c : Dig) :
    s.SameButChannels (s.encoderIndex c) ∧ (s.encoderIndex c).inputs = s.inputs := by
  obtain ⟨edge, inputs⟩ := s.referenceEdge_butChannels c.motion
  unfold State.encoderIndex
  split
  exacts [⟨edge.trans (State.butChannels_arm _ c false), inputs⟩, ⟨(State.SameRecords.refl s).butChannels, rfl⟩]

theorem switchMake_edges (s : State) (c : Dig) (runs : s.Runs) :
    ∃ t, exec (.referenceSwitchMake c) s = .next t ∧ s.SameButChannels t ∧
      t.inputs = { s.inputs with refSwitch := s.inputs.refSwitch.set c true } ∧
      ((s.chans.ch.get c.motion).lastDirection = some (s.k.reference.get c).direction →
        (s.k.reference.get c).qualifier = .switch → s.DigEdgeTaken t c) ∧
      ((s.chans.ch.get c.motion).lastDirection = some (s.k.reference.get c).direction →
        (s.k.reference.get c).qualifier = .switchThenIndex →
        t.chans = { s.chans with ch := s.chans.ch.set c.motion { s.chans.ch.get c.motion with armed := true } }) ∧
      ((s.chans.ch.get c.motion).lastDirection ≠ some (s.k.reference.get c).direction → t.chans = s.chans) := by
  let u : State := { s with inputs := { s.inputs with refSwitch := s.inputs.refSwitch.set c true } }
  obtain ⟨others, inputs⟩ := u.switchMade_butChannels c
  have settled := State.settle_same s (u.switchMade c)
  have direction := u.inReferenceDirection_iff c
  refine ⟨State.settle s (u.switchMade c), congrArg _ (s.levelEvent_runs _ _ runs),
    ((s.withInputs_butChannels _).trans others).settled s, settled.inputs.trans inputs, fun dir q => ?_, fun dir q => ?_,
    fun dir => ?_⟩
  · refine State.DigEdgeTaken.congr (u.referenceEdge_taken c) ?_
    rw [settled.chans, State.switchMade_switch (direction.2 dir) q]
  · rw [settled.chans, State.switchMade_arms (direction.2 dir) q]
    rfl
  · rw [settled.chans, State.switchMade_against (direction.not.2 dir)]

theorem encoderIndex_edges (s : State) (c : Dig) (runs : s.Runs) :
    ∃ t, exec (.encoderIndex c) s = .next t ∧ s.SameButChannels t ∧ t.inputs = s.inputs ∧
      ((s.k.reference.get c).qualifier = .switchThenIndex ∧ (s.chans.ch.get c.motion).armed = true ∧
          s.inputs.refSwitch.get c = true ∧
          (s.chans.ch.get c.motion).lastDirection = some (s.k.reference.get c).direction →
        s.DigEdgeTaken t c ∧ (t.chans.ch.get c.motion).armed = false) ∧
      ((s.k.reference.get c).qualifier = .switch ∨ (s.chans.ch.get c.motion).armed = false ∨
          s.inputs.refSwitch.get c = false ∨
          (s.chans.ch.get c.motion).lastDirection ≠ some (s.k.reference.get c).direction →
        t.chans = s.chans) := by
  obtain ⟨others, inputs⟩ := s.encoderIndex_butChannels c
  have settled := State.settle_same s (s.encoderIndex c)
  refine ⟨State.settle s (s.encoderIndex c), congrArg _ (s.event_runs _ runs), others.settled s,
    settled.inputs.trans inputs, fun taken => ?_, fun refused => ?_⟩
  · have edge : s.encoderIndex c = (s.referenceEdge c.motion).arm c false := if_pos ((s.indexTaken_iff c).2 taken)
    rw [edge] at settled ⊢
    refine ⟨((s.referenceEdge_taken c).arm false).congr settled.chans, ?_⟩
    rw [settled.chans]
    show (((s.referenceEdge c.motion).chans.ch.set c.motion _).get c.motion).armed = false
    rw [PerMotion.get_set_self]
  · have none : ¬ s.indexTaken c = true := by
      rw [s.indexTaken_iff c]
      rintro ⟨q, armed, made, dir⟩
      rcases refused with q' | off | broken | against
      · rw [q] at q'
        cases q'
      · exact Bool.false_ne_true (off.symm.trans armed)
      · exact Bool.false_ne_true (broken.symm.trans made)
      · exact against dir
    rw [settled.chans]
    exact congrArg State.chans (if_neg none)

/-- Settles O16. -/
theorem switchAndIndexEdges : Obligations.SwitchAndIndexEdges := by
  refine ⟨switchMake_edges, fun s c runs => ?_, encoderIndex_edges⟩
  let u : State := { s with inputs := { s.inputs with refSwitch := s.inputs.refSwitch.set c false } }
  have settled := State.settle_same s (u.arm c false)
  exact ⟨State.settle s (u.arm c false), congrArg _ (s.levelEvent_runs _ _ runs),
    ((s.withInputs_butChannels _).trans (u.butChannels_arm c false)).settled s, settled.inputs, settled.chans⟩

/-! ### The tub bearing (R14) -/

theorem State.markSites_channels (s : State) : s.markSites.chans = s.chans ∧ s.markSites.inputs = s.inputs := by
  show s.markStale.chans = s.chans ∧ s.markStale.inputs = s.inputs
  unfold State.markStale
  split
  · have stale := State.setCondition_same
      { s with zones := { s.zones with slots := s.zones.slots.map ZoneSlot.staled } }.epochUp ⟨16, 0⟩
    exact ⟨(stale _).chans, (stale _).inputs⟩
  · exact ⟨rfl, rfl⟩

theorem State.walkLiftsOff_channels (s : State) : s.walkLiftsOff.chans = s.chans ∧ s.walkLiftsOff.inputs = s.inputs := by
  unfold State.walkLiftsOff
  dsimp only
  split
  · exact ⟨rfl, rfl⟩
  split
  exacts [State.markSites_channels _, ⟨rfl, rfl⟩]

/-- Settles O18: the walk's part of an edge leaves the channels and the inputs alone. -/
theorem tubEdgesAreCaptured : Obligations.TubEdgesAreCaptured := by
  intro s runs
  constructor
  · let u : State := { s with inputs := { s.inputs with tub := false } }
    have settled := State.settle_same s u.tubLiftsOff
    have walk := State.walkLiftsOff_channels { u with chans := { u.chans with liftOff := some u.tubCapture } }
    exact ⟨State.settle s u.tubLiftsOff, congrArg _ (s.levelEvent_runs _ _ runs), settled.inputs.trans walk.2,
      settled.chans.trans walk.1⟩
  · let u : State := { s with inputs := { s.inputs with tub := true } }
    have settled := State.settle_same s u.tubSetsDown
    have walk := State.walkSetsDown_same { u with chans := { u.chans with setDown := some u.tubCapture } }
    exact ⟨State.settle s u.tubSetsDown, congrArg _ (s.levelEvent_runs _ _ runs), settled.inputs.trans walk.inputs,
      settled.chans.trans walk.chans⟩

/-! ### A request that passes the tests before its own (R164) -/

theorem firstTests_none {α : Type} {q : Spec} {p : Port} {s : State} {x : α} (allowed : q.allows p = true)
    (supply : s.inHoldup = false ∨ q.inHoldup = true) (store : q.store = false ∨ s.commit = none) :
    firstTests q (.ok x) p s = none := by
  have taken : (s.inHoldup && !q.inHoldup) = false := by rcases supply with h | h <;> rw [h] <;> simp
  have free : (s.commit.isSome && q.store) = false := by rcases store with h | h <;> rw [h] <;> simp
  unfold firstTests
  simp [allowed, taken, free]

/-- A request that needs no guard and passes every test before its own has its effect and its answer. -/
theorem takeRequest_unguarded {α : Type} {q : Spec} {parse : State → List Byte → Field α} (act : α → State → Taken)
    {f : Frame} {s : State} {x : α} (allowed : q.allows f.port = true) (parsed : parse s f.fields = .ok x)
    (supply : s.inHoldup = false ∨ q.inHoldup = true) (store : q.store = false ∨ s.commit = none)
    (unguarded : q.guarded = false) : takeRequest q parse act f s = (act x s).answered q f q.after := by
  unfold takeRequest
  simp only [parsed, firstTests_none allowed supply store]
  unfold guardTest
  rw [unguarded, Bool.false_and]
  rfl

/-- The answer that a completed change leaves in progress. -/
theorem State.settle_answers (s0 : State) (t : Taken) (q : Spec) (f : Frame) (after : AfterSent) :
    (State.settle s0 (t.answered q f after)).Answers f.port f.tag q.code t.reply.status t.reply.reason := by
  unfold State.Answers
  rw [(State.settle_same s0 _).ports]
  unfold Taken.answered
  rw [State.answer_ports, PerPort.get_set_self]
  exact ⟨_, rfl, rfl, rfl, rfl, rfl⟩

theorem State.inHoldup_of_onMains {s : State} (h : s.OnMains) : s.inHoldup = false := by
  unfold State.inHoldup
  rw [h.2]
  rfl

/-- Settles O19. -/
theorem referenceResetUnreferences : Obligations.ReferenceResetUnreferences := by
  rintro s f c ⟨mains, port, awaits⟩ parsed
  have taken : exec (.referenceReset f) s = .next
      (State.settle s (((s.hunt .service).referenceResetTaken c).answered referenceResetSpec f .nothing)) := by
    show Host.Outcome.next (s.frameTaken f.port _) = _
    rw [port, s.frameTaken_runs _ _ mains.1 awaits, takeRequest_unguarded (q := referenceResetSpec)
      (parse := parseChannel) (x := c) (s := (s.hunt .service).cabFrame .service) (fun c t => t.referenceResetTaken c)
      (by rw [port]; rfl) parsed (.inl (State.inHoldup_of_onMains (s := s.hunt .service) mains)) (.inl rfl) rfl]
    rfl
  have answers := State.settle_answers s ((s.hunt .service).referenceResetTaken c) referenceResetSpec f .nothing
  have settled := State.settle_same s (((s.hunt .service).referenceResetTaken c).answered referenceResetSpec f .nothing)
  rw [port] at answers
  refine ⟨fun free => ⟨_, taken, ?_⟩, fun walk busy => ⟨_, taken, ?_⟩⟩
  · have own : (s.hunt .service).referenceResetTaken c = ((s.hunt .service).unreference c).done := by
      refine if_neg fun ⟨walk, walking⟩ => ?_
      have moving : s.walk.state ≠ .idle := of_decide_eq_true walking
      exact free.elim (fun other => other walk) moving
    rw [own] at answers settled ⊢
    exact ⟨answers, settled.chans, settled.zones, settled.inputs, settled.k⟩
  · have own : (s.hunt .service).referenceResetTaken c = (s.hunt .service).refuses .state :=
      if_pos ⟨walk, decide_eq_true busy⟩
    rw [own] at answers settled ⊢
    exact ⟨answers, settled.pending, settled.power, settled.clock, settled.k, settled.fitted, settled.store, settled.commit,
      settled.inputs, settled.chans, settled.zones, settled.supply⟩

/-! ### The reset state -/

/-- Settles O4: the reset state is concrete, and each field is read off it. -/
theorem resetIsAColdStart : Obligations.ResetIsAColdStart := by
  refine ⟨⟨rfl, rfl⟩, rfl, rfl, rfl, fun c => ?_, rfl, rfl, rfl, rfl, rfl, rfl, by decide +kernel, rfl, rfl,
    by decide +kernel, rfl, fun m => ?_, rfl, rfl, rfl, rfl, fun p => ?_, rfl, rfl⟩
  · cases c <;> exact ⟨rfl, rfl, rfl, rfl, rfl, rfl, rfl, rfl, rfl, rfl⟩
  · cases m <;> exact ⟨rfl, rfl, rfl⟩
  · cases p <;> rfl

end Sys2Proof.Machine
end

section
/-! SUPPORT. The end of the load (09 R180): the alarm table as the raises of a cold start leave it, and the part that starts
from what the store holds. -/

namespace Sys2Proof.Machine

/-! ### The alarm table of a cold start (R151) -/

/-- The codes of the conditions that a cold start raises besides EMERGENCY STOP: none stops or trips, and none escalates. -/
def startCodes : List Nat := [7, 11, 12, 15, 16, 20, 21]

theorem baseClass_of_startCode {n : Nat} (h : n ∈ startCodes) : baseClass n = .warn ∨ baseClass n = .notice := by
  revert n
  decide

theorem threshold_of_startCode {n : Nat} (h : n ∈ startCodes) : threshold n = none := by
  revert n
  decide

/-- A record of a cold start: EMERGENCY STOP's, that of a code that starts, in its base class, or HOLDUP EXHAUSTED's where
the marker was found. -/
def AlarmRec.AtStart (found : Bool) (r : AlarmRec) : Prop :=
  r.key = ⟨1, 0⟩ ∨ (r.key.code ∈ startCodes ∧ r.cls = baseClass r.key.code) ∨ (found = true ∧ r.key = ⟨4, 0⟩)

/-- The alarm table through the raises of a cold start; a found marker's record stands below the reserved slot. -/
structure Alarms.AtStart (found : Bool) (a : Alarms) : Prop where
  records : ∀ r, some r ∈ a.slots.cells → r.AtStart found
  conditions : ∀ k ∈ a.keys, k = ⟨1, 0⟩ ∨ k.code ∈ startCodes
  exhausted : found = true → ∃ i < 47, ∃ r, a.slots.cells[i]? = some (some r) ∧ r.key = ⟨4, 0⟩

section AtStart

variable {found : Bool} {a : Alarms}

theorem Alarms.record_mem {key : AlarmKey} {r : AlarmRec} (h : a.record key = some r) :
    some r ∈ a.slots.cells ∧ r.key = key := by
  unfold Alarms.record at h
  obtain ⟨o, hfind, rfl⟩ : ∃ o, a.slots.cells.find? (holdsKey key) = some o ∧ o = some r := by
    cases e : a.slots.cells.find? (holdsKey key) with
    | none => rw [e] at h; cases h
    | some o => exact ⟨o, rfl, by rw [e] at h; exact h⟩
  exact ⟨List.mem_of_find?_eq_some hfind, of_decide_eq_true (show holdsKey key (some r) = true from List.find?_some hfind)⟩

theorem Alarms.record_eq_none {key : AlarmKey} : a.record key = none ↔ ∀ r, some r ∈ a.slots.cells → r.key ≠ key := by
  constructor
  · intro none r mem same
    unfold Alarms.record at none
    cases e : a.slots.cells.find? (holdsKey key) with
    | none => exact List.find?_eq_none.1 e _ mem (decide_eq_true same)
    | some o =>
      have holds := List.find?_some e
      rw [e] at none
      cases o with
      | none => cases holds
      | some r => cases none
  · intro none
    cases e : a.record key with
    | none => rfl
    | some r => exact absurd (Alarms.record_mem e).2 (none r (Alarms.record_mem e).1)

theorem Alarms.slotOf_holds {key : AlarmKey} {i : Nat} (h : a.slotOf key = some i) :
    ∃ r, a.slots.cells[i]? = some (some r) ∧ r.key = key := by
  obtain ⟨bound, holds, -⟩ := List.findIdx?_eq_some_iff_getElem.1 h
  rw [List.getElem?_eq_getElem bound]
  cases e : a.slots.cells[i] with
  | none => rw [e] at holds; cases holds
  | some r => exact ⟨r, rfl, by rw [e] at holds; exact of_decide_eq_true holds⟩

theorem Alarms.freeSlot_empty {i : Nat} (h : a.freeSlot = some i) : a.slots.cells[i]? = some none := by
  obtain ⟨bound, empty, -⟩ := List.findIdx?_eq_some_iff_getElem.1 h
  rw [List.length_take] at bound
  rw [List.getElem_take] at empty
  rw [List.getElem?_eq_getElem (by omega), Option.isNone_iff_eq_none.1 empty]

theorem Alarms.AtStart.setSlot (h : a.AtStart found) (i : Nat) {x : Option AlarmRec} (new : ∀ r, x = some r → r.AtStart found)
    (spared : i < 47 → ∀ r, a.slots.cells[i]? = some (some r) → r.key ≠ ⟨4, 0⟩) : (a.setSlot i x).AtStart found := by
  refine ⟨fun r mem => ?_, h.conditions, fun f => ?_⟩
  · rcases List.mem_or_eq_of_mem_set mem with old | same
    exacts [h.records r old, new r same.symm]
  · obtain ⟨j, low, r, at_j, key⟩ := h.exhausted f
    refine ⟨j, low, r, ?_, key⟩
    have apart : i ≠ j := fun e => spared (e ▸ low) r (e ▸ at_j) key
    exact (List.getElem?_set_ne apart).trans at_j

theorem Alarms.AtStart.onRecord (h : a.AtStart found) {key : AlarmKey} (other : key ≠ ⟨4, 0⟩)
    {f : AlarmRec → Option AlarmRec}
    (keeps : ∀ r r', r.key = key → r.AtStart found → f r = some r' → r'.AtStart found) :
    (a.onRecord key f).AtStart found := by
  unfold Alarms.onRecord
  split
  · next i r slot record =>
    obtain ⟨mem, key_r⟩ := Alarms.record_mem record
    obtain ⟨r', at_i, key_r'⟩ := Alarms.slotOf_holds slot
    refine h.setSlot i (fun x hx => keeps r x key_r (h.records r mem) hx) fun _ x hx => ?_
    rw [at_i] at hx
    cases hx
    exact key_r' ▸ other
  · exact h

theorem AlarmRec.AtStart.fresh {key : AlarmKey} (known : key = ⟨1, 0⟩ ∨ key.code ∈ startCodes) (time : Nat) :
    (AlarmRec.fresh key time).AtStart found := known.imp_right fun code => .inl ⟨code, rfl⟩

theorem AlarmRec.raised_of_startCode {r : AlarmRec} (code : r.key.code ∈ startCodes) (now window : Nat) :
    (r.raised now window).key = r.key ∧ (r.raised now window).cls = r.cls := by
  have steady (run : Nat) : r.rises run = false := by
    unfold AlarmRec.rises
    rw [threshold_of_startCode code]
  unfold AlarmRec.raised
  split
  · exact ⟨rfl, rfl⟩
  · exact ⟨rfl, rfl⟩
  · simp [steady]

theorem AlarmRec.AtStart.clearedAt {r r' : AlarmRec} (h : r.AtStart found) {now : Nat} (cleared : r.clearedAt now = some r') :
    r'.AtStart found := by
  unfold AlarmRec.clearedAt at cleared
  split at cleared <;> cases cleared <;> exact h

theorem ne_exhausted_of_startCode {key : AlarmKey} (code : key.code ∈ startCodes) : key ≠ ⟨4, 0⟩ := by
  rintro rfl
  revert code
  decide

theorem Alarms.AtStart.raiseRecord (h : a.AtStart found) (now window : Nat) {key : AlarmKey} (code : key.code ∈ startCodes) :
    (a.raiseRecord now window key).1.AtStart found := by
  have known : ∀ r, some (AlarmRec.fresh key now) = some r → r.AtStart found := by
    rintro r ⟨⟩
    exact .fresh (.inr code) now
  unfold Alarms.raiseRecord
  split
  · refine h.onRecord (ne_exhausted_of_startCode code) fun r r' key_r start raised => ?_
    cases raised
    obtain ⟨key', cls'⟩ := AlarmRec.raised_of_startCode (key_r ▸ code) now window
    unfold AlarmRec.AtStart at start ⊢
    rwa [key', cls']
  · split
    · next i slot =>
      refine h.setSlot i known fun low r at_i => ?_
      unfold Alarms.slotForNew at slot
      split at slot
      · cases slot
        omega
      · split at slot
        · next free =>
          cases slot
          rw [Alarms.freeSlot_empty free] at at_i
          cases at_i
        · rcases baseClass_of_startCode code with class_key | class_key <;> rw [class_key] at slot <;> cases slot
    · exact h

theorem Alarms.AtStart.withConditions (h : a.AtStart found) {l : List Condition}
    (known : ∀ k ∈ l.map Condition.key, k = ⟨1, 0⟩ ∨ k.code ∈ startCodes) :
    Alarms.AtStart found { a with conditions := l } := ⟨h.records, known, h.exhausted⟩

/-- A condition that starts becomes true, recorded or not. -/
theorem Alarms.AtStart.raiseCondition (h : a.AtStart found) (now window : Nat) {key : AlarmKey}
    (code : key.code ∈ startCodes) : (a.raiseCondition now window key).AtStart found := by
  have inserted {b : Alarms} (hb : b.AtStart found) {c : Condition} (hc : c.key.code ∈ startCodes) :
      Alarms.AtStart found { b with conditions := insertCondition c b.conditions } := by
    refine hb.withConditions fun k hk => ?_
    rcases (keys_insertCondition _ _ _).1 hk with rfl | old
    exacts [.inr hc, hb.conditions k old]
  unfold Alarms.raiseCondition
  dsimp only
  split
  · exact inserted (h.raiseRecord now window code) code
  · exact inserted (Alarms.AtStart.raiseRecord (inserted (h.raiseRecord now window code) code) now window (by decide))
      (show 21 ∈ startCodes by decide)

theorem Alarms.AtStart.clearBare (h : a.AtStart found) (now : Nat) {key : AlarmKey} (other : key ≠ ⟨4, 0⟩) :
    (a.clearBare now key).AtStart found := by
  have dropped : (a.dropCondition key).AtStart found := by
    refine h.withConditions fun k hk => ?_
    obtain ⟨c, mem, rfl⟩ := List.mem_map.1 hk
    exact h.conditions _ (List.mem_map_of_mem (List.mem_of_mem_filter mem))
  exact dropped.onRecord other fun _ _ _ start => start.clearedAt

theorem mem_insertLate {c d : Condition} {l : List Condition} (h : c ∈ insertLate d l) : c = d ∨ c ∈ l := by
  induction l with
  | nil => exact List.mem_cons.1 h
  | cons e l ih =>
    unfold insertLate at h
    split at h
    · exact List.mem_cons.1 h
    · rcases List.mem_cons.1 h with rfl | later
      · exact .inr List.mem_cons_self
      · exact (ih later).imp_right (List.mem_cons_of_mem e)

theorem Alarms.mem_unrecordedInOrder {c : Condition} (h : c ∈ a.unrecordedInOrder) : c.key ∈ a.keys := by
  have sorted (l : List Condition) : c ∈ l.foldr insertLate [] → c ∈ l := by
    induction l with
    | nil => exact id
    | cons d l ih => exact fun h => List.mem_cons.2 ((mem_insertLate h).imp_right ih)
  exact List.mem_map_of_mem (List.mem_of_mem_filter (sorted _ h))

theorem Alarms.AtStart.recordLate (h : a.AtStart found) {c : Condition} (known : c.key = ⟨1, 0⟩ ∨ c.key.code ∈ startCodes) :
    (a.recordLate c).AtStart found := by
  have keys : ∀ k ∈ (a.recordLate c).keys, k = ⟨1, 0⟩ ∨ k.code ∈ startCodes := by
    rw [Alarms.keys_recordLate]
    exact h.conditions
  unfold Alarms.recordLate at keys ⊢
  split
  · next i free =>
    rw [free] at keys
    refine Alarms.AtStart.withConditions (h.setSlot i (fun r hr => ?_) fun _ r at_i => ?_) keys
    · cases hr
      exact .fresh known c.since
    · rw [Alarms.freeSlot_empty free] at at_i
      cases at_i
  · exact h

theorem Alarms.AtStart.recordLates (h : a.AtStart found) {l : List Condition}
    (known : ∀ c ∈ l, c.key = ⟨1, 0⟩ ∨ c.key.code ∈ startCodes) : (l.foldl Alarms.recordLate a).AtStart found := by
  induction l generalizing a with
  | nil => exact h
  | cons c l ih => exact ih (h.recordLate (known c List.mem_cons_self)) fun d hd => known d (List.mem_cons_of_mem c hd)

/-- A condition other than HOLDUP EXHAUSTED, which is none, becomes false. -/
theorem Alarms.AtStart.clearCondition (h : a.AtStart found) (now : Nat) {key : AlarmKey} (other : key ≠ ⟨4, 0⟩) :
    (a.clearCondition now key).AtStart found := by
  have bare := h.clearBare now other
  have recorded := bare.recordLates (l := (a.clearBare now key).unrecordedInOrder) fun c hc =>
    bare.conditions _ (Alarms.mem_unrecordedInOrder hc)
  unfold Alarms.clearCondition Alarms.afterRetirement Alarms.fullFollows
  split
  exacts [recorded.clearBare now (by decide), recorded]

theorem Alarms.AtStart.effectiveClass (h : a.AtStart found) {key : AlarmKey} (code : key.code ∈ startCodes) :
    a.effectiveClass key = baseClass key.code := by
  unfold Alarms.effectiveClass
  split
  · next r record =>
    obtain ⟨mem, rfl⟩ := Alarms.record_mem record
    rcases h.records r mem with stop | ⟨-, cls⟩ | ⟨-, exhausted⟩
    · rw [stop] at code
      exact absurd code (by decide)
    · exact cls
    · exact absurd exhausted (ne_exhausted_of_startCode code)
  · rfl

/-- HOLDUP EXHAUSTED has a record exactly where the marker was found. -/
theorem Alarms.AtStart.record_exhausted (h : a.AtStart found) : a.record ⟨4, 0⟩ ≠ none ↔ found = true := by
  rw [Ne, Alarms.record_eq_none]
  constructor
  · intro held
    by_contra notFound
    refine held fun r mem key => ?_
    rcases h.records r mem with stop | ⟨code, -⟩ | ⟨f, -⟩
    · rw [stop] at key
      exact absurd key (by decide)
    · exact ne_exhausted_of_startCode code key
    · exact notFound f
  · intro f none
    obtain ⟨i, -, r, at_i, key⟩ := h.exhausted f
    exact none r (List.mem_of_getElem? at_i) key

end AtStart

end Sys2Proof.Machine
end

section
/-! SUPPORT. The part that starts at the end of the load (09 R180, R181). -/

namespace Sys2Proof.Machine

/-! ### Raises that only the alarm table shows -/

/-- From a state on, only the alarm table has changed, and it is as the raises of a cold start leave it. -/
structure State.Notes (found : Bool) (s0 s : State) : Prop where
  alarms : s.alarms.AtStart found
  same : s = { s0 with alarms := s.alarms }

section Notes

variable {found : Bool} {s0 s : State}

theorem State.Notes.withAlarms (h : State.Notes found s0 s) {a : Alarms} (start : a.AtStart found) :
    State.Notes found s0 { s with alarms := a } :=
  ⟨start, congrArg (fun t : State => { t with alarms := a }) h.same⟩

/-- A code that starts neither trips nor stops anything. -/
theorem State.conditionActs_of_startCode (h : s.alarms.AtStart found) (before : Alarms) {key : AlarmKey}
    (code : key.code ∈ startCodes) : s.conditionActs before key = s := by
  unfold State.conditionActs
  dsimp only
  rw [h.effectiveClass code]
  rcases baseClass_of_startCode code with cls | cls <;> rw [cls]

theorem State.Notes.raiseCondition (h : State.Notes found s0 s) {key : AlarmKey} (code : key.code ∈ startCodes) :
    State.Notes found s0 (s.raiseCondition key) := by
  have raised := h.withAlarms (h.alarms.raiseCondition s.now s.k.escalationWindow code)
  unfold State.raiseCondition
  dsimp only
  split
  · exact h
  split
  · exact raised
  · rw [State.conditionActs_of_startCode raised.alarms _ code]
    exact raised

theorem State.Notes.clearCondition (h : State.Notes found s0 s) {key : AlarmKey} (other : key ≠ ⟨4, 0⟩) :
    State.Notes found s0 (s.clearCondition key) := by
  unfold State.clearCondition
  split
  exacts [h.withAlarms (h.alarms.clearCondition s.now other), h]

theorem State.Notes.setCondition (h : State.Notes found s0 s) {key : AlarmKey} {b : Bool} (other : key ≠ ⟨4, 0⟩)
    (code : b = true → key.code ∈ startCodes) : State.Notes found s0 (s.setCondition key b) := by
  unfold State.setCondition
  split
  · next truth => exact h.raiseCondition (code truth)
  · exact h.clearCondition other

/-- A condition of a code that starts takes its truth. -/
theorem State.Notes.set (h : State.Notes found s0 s) {key : AlarmKey} {b : Bool} (code : key.code ∈ startCodes) :
    State.Notes found s0 (s.setCondition key b) := h.setCondition (ne_exhausted_of_startCode code) fun _ => code

theorem State.Notes.foldl {α : Type} {f : State → α → State}
    (step : ∀ (s : State) (x : α), State.Notes found s0 s → State.Notes found s0 (f s x)) (l : List α)
    (h : State.Notes found s0 s) : State.Notes found s0 (l.foldl f s) := by
  induction l generalizing s with
  | nil => exact h
  | cons x l ih => exact ih (step s x h)

theorem State.Notes.syncUnreferenced (h : State.Notes found s0 s) :
    State.Notes found s0 (Motion.all.foldl State.syncUnreferenced s) :=
  .foldl (fun _ _ h => h.set (show 7 ∈ startCodes by decide)) _ h

theorem State.Notes.syncWelded (h : State.Notes found s0 s) : State.Notes found s0 (gensAll.foldl State.syncWelded s) :=
  .foldl (fun _ _ h => h.set (show 11 ∈ startCodes by decide)) _ h

theorem State.Notes.syncLockedOut (h : State.Notes found s0 s) :
    State.Notes found s0 (gensAll.foldl State.syncLockedOut s) :=
  .foldl (fun _ _ h => h.set (show 12 ∈ startCodes by decide)) _ h

theorem State.Notes.syncZones (h : State.Notes found s0 s) : State.Notes found s0 s.syncZones := by
  have marked : State.Notes found s0 (slotsAll.foldl State.syncDefective s) :=
    .foldl (fun _ _ h => h.set (show 15 ∈ startCodes by decide)) _ h
  unfold State.syncZones State.syncStale
  exact marked.set (show 16 ∈ startCodes by decide)

/-- With no channel SUSPECT and no generator that keeps trying, the end of a change raises only codes that start. -/
theorem State.Notes.syncConditions (h : State.Notes found s0 s)
    (calm : ∀ c, (s0.chans.ch.get c).refState ≠ .suspect) (still : ∀ g, (s0.gens.get g).keepsTrying = false) :
    State.Notes found s0 s.syncConditions := by
  have ended : State.Notes found s0 (Motion.all.foldl State.unreferencedEnds s) := by
    refine .foldl (fun s c h => ?_) _ h
    unfold State.unreferencedEnds
    split
    exacts [h, h.clearCondition (by simp)]
  have suspects : State.Notes found s0 (Motion.all.foldl State.syncSuspect (Motion.all.foldl State.unreferencedEnds s)) := by
    refine .foldl (fun s c h => h.setCondition (by simp) fun truth => ?_) _ ended
    rw [h.same] at truth
    exact absurd (of_decide_eq_true truth) (calm c)
  have gens {s : State} (h : State.Notes found s0 s) : State.Notes found s0 s.syncGens := by
    unfold State.syncGens
    split
    · exact h
    · refine State.Notes.syncLockedOut (State.Notes.syncWelded (.foldl (fun s g h => ?_) _ h))
      refine h.setCondition (by simp) fun truth => ?_
      rw [h.same] at truth
      exact absurd truth (by rw [still g]; decide)
  exact (gens suspects.syncUnreferenced).syncZones

end Notes

/-! ### The state that starts -/

/-- The part as the load leaves it, tripped where an emergency stop is shown (R138, R180). -/
def State.startBase (s : State) : State :=
  if s.inputs.estop then s.loaded.tripBegins ⟨⟨1, 0⟩, .trip⟩ else s.loaded

/-- The records after the first raises of a cold start: EMERGENCY STOP's, and HOLDUP EXHAUSTED's, cleared at once. -/
def startRecords (estop found : Bool) (now : Nat) : List AlarmRec :=
  (if estop then [AlarmRec.fresh ⟨1, 0⟩ now] else []) ++
    if found then [{ AlarmRec.fresh ⟨4, 0⟩ now with state := .clearedUnack, lastCleared := some now }] else []

theorem startRecords_atStart {estop found : Bool} {now : Nat} {r : AlarmRec} (h : r ∈ startRecords estop found now) :
    r.AtStart found := by
  unfold startRecords at h
  rcases List.mem_append.1 h with stop | exhausted
  · split at stop
    · exact .inl (List.mem_singleton.1 stop ▸ rfl)
    · cases stop
  · split at exhausted
    · exact .inr (.inr ⟨‹_›, List.mem_singleton.1 exhausted ▸ rfl⟩)
    · cases exhausted

theorem startRecords_exhausted (estop : Bool) (now : Nat) :
    ∃ i < 47, ∃ r, (startRecords estop true now)[i]? = some r ∧ r.key = ⟨4, 0⟩ := by
  cases estop
  exacts [⟨0, by decide, _, rfl, rfl⟩, ⟨1, by decide, _, rfl, rfl⟩]

theorem Alarms.AtStart.of_startRecords {estop found : Bool} {now n : Nat} {a : Alarms}
    (cells : a.slots.cells = (startRecords estop found now).map some ++ List.replicate n none)
    (keys : ∀ k ∈ a.keys, k = ⟨1, 0⟩) : a.AtStart found := by
  refine ⟨fun r mem => ?_, fun k hk => .inl (keys k hk), fun f => ?_⟩
  · rw [cells] at mem
    rcases List.mem_append.1 mem with front | empty
    · obtain ⟨r', mem', ⟨⟩⟩ := List.mem_map.1 front
      exact startRecords_atStart mem'
    · cases (List.mem_replicate.1 empty).2
  · subst f
    obtain ⟨i, low, r, at_i, key⟩ := startRecords_exhausted estop now
    refine ⟨i, low, r, ?_, key⟩
    have mapped : ((startRecords estop true now).map some)[i]? = some (some r) := by
      rw [List.getElem?_map, at_i]
      rfl
    rw [cells, List.getElem?_append_left (List.getElem?_eq_some_iff.1 mapped).1, mapped]

theorem State.firstRaises_notes (s : State) (found : Bool) :
    State.Notes found s.startBase ((s.loaded.setCondition ⟨1, 0⟩ s.inputs.estop).raiseExhausted found) := by
  unfold State.startBase
  cases s.inputs.estop <;> cases found
  · exact ⟨.of_startRecords (estop := false) (now := s.loaded.now) (n := 48) rfl nofun, rfl⟩
  · exact ⟨.of_startRecords (estop := false) (now := s.loaded.now) (n := 47) rfl nofun, rfl⟩
  · exact ⟨.of_startRecords (estop := true) (now := s.loaded.now) (n := 47) rfl fun _ => List.mem_singleton.1, rfl⟩
  · exact ⟨.of_startRecords (estop := true) (now := s.loaded.now) (n := 46) rfl fun _ => List.mem_singleton.1, rfl⟩

theorem State.coldRaises_notes (s : State) (found failed : Bool) :
    State.Notes found s.startBase (s.loaded.coldRaises found failed) := by
  have synced := ((s.firstRaises_notes found).syncUnreferenced.syncWelded.syncLockedOut).syncZones
  exact synced.set (show 20 ∈ startCodes by decide)

/-! ### What the part starts with -/

theorem State.startBase_chans (s : State) : s.startBase.chans = s.loaded.chans := by
  unfold State.startBase
  split <;> rfl

theorem State.startBase_walk (s : State) : s.startBase.walk.state = .idle := by
  unfold State.startBase
  split <;> rfl

/-- No channel is anything but UNREFERENCED at position 0 (R18). -/
theorem State.loaded_chan (s : State) (c : Motion) :
    (s.loaded.chans.ch.get c).position = 0 ∧ (s.loaded.chans.ch.get c).refState = .unreferenced := by
  cases c <;> exact ⟨rfl, rfl⟩

theorem loadedGens_get (k : Constants) (i : Inputs) (g : Fin 12) : (loadedGens k i).get g =
    if g.val < k.fittedCount then proofChecked k (i.proof.get g) (isWithdrawn k g) none else ⟨.noRecord, 0⟩ := by
  simp [loadedGens, Table.get, gensAll]

theorem proofChecked_keepsTrying (k : Constants) (p : PerMotion Bool) (w : Bool) :
    (proofChecked k p w none).keepsTrying = false := by
  unfold proofChecked openOut
  split
  · rfl
  · rfl
  · split <;> rfl
  · rfl

theorem trippedMove_keepsTrying (k : Constants) (p : PerMotion Bool) {g : Gen} (h : g.keepsTrying = false) :
    (trippedMove k p g).keepsTrying = false := by
  unfold trippedMove
  split
  · next v moving =>
    have still : v.keepTrying = false := by
      unfold Gen.keepsTrying at h
      rwa [moving] at h
    split
    · exact still
    · split
      · exact still
      · unfold openedTo
        split <;> rfl
  · exact h

theorem State.startBase_gens (s : State) (g : Fin 12) : (s.startBase.gens.get g).keepsTrying = false ∧
    (s.loaded.k.fittedCount ≤ g.val → (s.startBase.gens.get g).st = .noRecord) := by
  have still : (s.loaded.gens.get g).keepsTrying = false := by
    show ((loadedGens _ _).get g).keepsTrying = false
    rw [loadedGens_get]
    split
    exacts [proofChecked_keepsTrying _ _ _, rfl]
  have beyond (h : s.loaded.k.fittedCount ≤ g.val) : (s.loaded.gens.get g).st = .noRecord := by
    show ((loadedGens s.loaded.k s.inputs).get g).st = .noRecord
    rw [loadedGens_get, if_neg (Nat.not_lt.2 h)]
  unfold State.startBase
  split
  · have tripped : (s.loaded.tripBegins ⟨⟨1, 0⟩, .trip⟩).gens.get g =
        trippedMove s.loaded.k (s.loaded.proofs g) (s.loaded.gens.get g) :=
      s.loaded.onGens_get (fun p g => trippedMove s.loaded.k p g) g
    rw [tripped]
    refine ⟨trippedMove_keepsTrying _ _ still, fun h => ?_⟩
    rw [trippedMove_noRecord _ _ (beyond h)]
    exact beyond h
  · exact ⟨still, beyond⟩

theorem State.startBase_atRest (s : State) (free : s.inputs.estop = false) (m : Dig) :
    (s.startBase.motions.get m).AtRest := by
  unfold State.startBase
  rw [free]
  cases m <;> exact ⟨rfl, rfl, rfl⟩

/-- The end of the load from a store: the part before its change is completed. -/
def State.raisedAtStart (s : State) : State := s.loaded.coldRaises s.store.markerFound s.store.goodImage.isNone

theorem State.raisedAtStart_same (s : State) : s.loaded.SameRecords s.raisedAtStart := s.loaded.coldRaises_same _ _

theorem State.raisedAtStart_notes (s : State) : State.Notes s.store.markerFound s.startBase s.raisedAtStart :=
  s.coldRaises_notes _ _

theorem State.raisedAtStart_synced (s : State) :
    State.Notes s.store.markerFound s.startBase s.raisedAtStart.syncConditions := by
  refine s.raisedAtStart_notes.syncConditions (fun c suspect => ?_) fun g => (s.startBase_gens g).1
  rw [s.startBase_chans, (s.loaded_chan c).2] at suspect
  cases suspect

/-- With mains shown, the load ends in a change of the part as the store gives it, completed. -/
theorem execSettingsLoadEnd_loading {s : State} (loading : s.power = .loading) (mains : s.inputs.mains = true) :
    exec .settingsLoadEnd s = .next (State.settle s.loaded s.raisedAtStart) := by
  have shown : s.raisedAtStart.mainsAtStart = s.raisedAtStart := by
    unfold State.mainsAtStart
    rw [s.raisedAtStart_same.inputs]
    exact if_pos mains
  show execSettingsLoadEnd s = _
  unfold execSettingsLoadEnd
  rw [loading]
  exact congrArg (fun t => Host.Outcome.next (State.settle s.loaded t)) shown

theorem State.raisedAtStart_storeFault (s : State) : s.raisedAtStart.isTrue ⟨20, 0⟩ = s.store.goodImage.isNone :=
  (State.isTrue_setCondition _ _ _ (by decide)).trans (if_pos rfl)

theorem goodImage_of_pass {st : Store} {i : Image} (held : st.image = some i) (pass : constantsPass i.constants = true) :
    st.goodImage = some i := by
  unfold Store.goodImage
  rw [held]
  exact if_pos pass

theorem goodImage_of_fail {st : Store} (fail : ∀ i, st.image = some i → constantsPass i.constants = false) :
    st.goodImage = none := by
  unfold Store.goodImage
  split
  · next i held => exact if_neg (by rw [fail i held]; decide)
  · rfl

theorem startCode_not_followed {n : Nat} (h : n ∈ startCodes) : n ∉ followCodes := by
  revert n
  decide

theorem Table.get_const {α : Type} {n : Nat} (x : α) (i : Fin n) : (Table.const n x).get i = x := List.getElem_replicate _

theorem loadedZones_epoch (image : Option Image) : (loadedZones image).epoch = 1 ∧ (loadedZones image).scrub = 0 := by
  cases image <;> exact ⟨rfl, rfl⟩

/-- Settles O55: the raises of the cold start and the end of the change leave the records that the load gave, and none of
them stops or trips anything but by an emergency stop. -/
theorem loadEndStartsPart : Obligations.LoadEndStartsPart := by
  intro s loading mains
  have runs : s.raisedAtStart.power = .running := s.raisedAtStart_same.power
  have same := s.raisedAtStart_same.trans (State.settle_same s.loaded s.raisedAtStart)
  have follows := State.settle_follows s.loaded runs
  have notes := s.raisedAtStart_synced
  have conditions := (State.settle_conditions s.loaded runs).1
  have fault : (State.settle s.loaded s.raisedAtStart).isTrue ⟨20, 0⟩ = s.store.goodImage.isNone :=
    (State.settle_truth _ _ ⟨20, 0⟩ (by decide)).trans s.raisedAtStart_storeFault
  have table : (State.settle s.loaded s.raisedAtStart).alarms = s.raisedAtStart.syncConditions.alarms := by
    refine follows.quiet fun k held => ?_
    rcases notes.alarms.conditions k held with rfl | code
    · decide
    · exact startCode_not_followed code
  refine ⟨_, execSettingsLoadEnd_loading loading mains, ⟨same.power, same.supply ▸ rfl⟩, same.clock, same.pending, ?_, ?_, ?_,
    same.inputs, fun i held pass => ?_, fun fail => ?_, fun c => ?_, fun g beyond => ?_, ?_, fun free m => ?_, ?_⟩
  · rw [same.zones]
    exact (loadedZones_epoch _).1
  · rw [same.zones]
    exact (loadedZones_epoch _).2
  · rw [same.fitted, same.k]
    rfl
  · have good := goodImage_of_pass held pass
    have zones : s.loaded.zones = ⟨i.zones.map loadedSlot, 1, 0⟩ := congrArg loadedZones good
    refine ⟨same.k.trans (congrArg loadedConstants good), by rw [fault, good]; rfl, fun j => ?_⟩
    rw [same.zones, zones, Table.get_map]
    refine ⟨fun h => ?_, fun rev w body h => ?_, fun rev w h => ?_⟩ <;>
    · rw [h]
      rfl
  · have bad := goodImage_of_fail fail
    refine ⟨same.k.trans (congrArg loadedConstants bad), by rw [fault, bad]; rfl, fun j => ?_⟩
    rw [same.zones, show s.loaded.zones = _ from congrArg loadedZones bad]
    exact Table.get_const _ j
  · have chan := s.loaded_chan c
    rw [← same.chans] at chan
    exact ⟨chan.1, chan.2, (conditions c).2.2 chan.2⟩
  · refine follows.keeps.noRecord g ?_
    rw [notes.same]
    exact (s.startBase_gens g).2 (same.k ▸ beyond)
  · refine follows.keeps.walkIdle ?_
    rw [notes.same]
    exact s.startBase_walk
  · have rest := follows.rest (fun n => by rw [notes.same]; exact s.startBase_atRest free n) m
    exact ⟨rest.1, rest.2.2⟩
  · rw [table, notes.alarms.record_exhausted]
    exact decide_eq_true_iff

end Sys2Proof.Machine
end

section
/-! SUPPORT. The lift-off that marks the sites of a disordered part (02 R30, 07 R121, R122): the raise of SITE ZONES STALE is
part of the event, and in a state whose record of that key has class TRIP it trips the walk before the completion of the
change. The order of the true conditions afterwards tells that raise from one by the completion. -/

namespace Sys2Proof.Machine

/-! ### Where the walk's cause comes from -/

/-- The cause of the walk's interruption, if it has one, is not of a key. -/
def WalkRec.CauseNot (key : AlarmKey) (w : WalkRec) : Prop := ∀ c, w.interruptCause = some c → c.key ≠ key

section CauseNot

variable {key : AlarmKey} {w : WalkRec} {s : State}

theorem WalkRec.CauseNot.of_eq {v : WalkRec} (h : w.CauseNot key) (same : v.interruptCause = w.interruptCause) :
    v.CauseNot key := by
  unfold WalkRec.CauseNot
  rw [same]
  exact h

theorem WalkRec.CauseNot.of_none (h : w.interruptCause = none) : w.CauseNot key := by
  intro c cause
  rw [h] at cause
  cases cause

theorem WalkRec.CauseNot.stoppedBy (h : w.CauseNot key) (k : Constants) {c : Cause} (other : c.key ≠ key) :
    (w.stoppedBy k c).CauseNot key := by
  unfold WalkRec.stoppedBy
  split
  · exact h
  · split
    · exact h.of_eq rfl
    · rintro d ⟨⟩
      exact other
    · exact h
    · exact h

theorem WalkRec.CauseNot.tripped (h : w.CauseNot key) (k : Constants) {c : Cause} (other : c.key ≠ key) :
    (w.tripped k c).CauseNot key := by
  unfold WalkRec.tripped
  split
  · intro d cause
    unfold causeAfterTrip at cause
    dsimp only at cause
    split at cause
    · next old held =>
      split at cause <;> cases cause
      exacts [other, h _ held]
    · cases cause
      exact other
  · exact h.stoppedBy k other

theorem WalkRec.CauseNot.halted (h : w.CauseNot key) (k : Constants) (tubOn : Bool) : (w.halted k tubOn).CauseNot key := by
  unfold WalkRec.halted
  split
  · exact h
  · split
    · exact h
    · exact h.of_eq rfl
    · split <;> exact h.of_eq rfl
    · exact h.of_eq rfl

theorem State.conditionActs_causeNot (h : s.walk.CauseNot key) (before : Alarms) {raised : AlarmKey} (other : raised ≠ key) :
    (s.conditionActs before raised).walk.CauseNot key := by
  unfold State.conditionActs
  dsimp only
  split
  · split
    exacts [h, h.tripped s.k other]
  · have stopped (c : Cause) (starts : Motion → Bool) (hc : c.key ≠ key) : (s.stopBegins c starts).walk.CauseNot key := by
      show (if starts .walk then s.walk.stoppedBy s.k c else s.walk).CauseNot key
      split
      exacts [h.stoppedBy s.k hc, h]
    unfold State.cabLinkHalts
    split
    exacts [(stopped _ _ other).halted _ _, stopped _ _ other]
  · exact h
  · exact h

theorem State.setCondition_causeNot (h : s.walk.CauseNot key) {set : AlarmKey} (b : Bool) (other : set ≠ key) :
    (s.setCondition set b).walk.CauseNot key := by
  unfold State.setCondition
  split
  · unfold State.raiseCondition
    dsimp only
    split
    · exact h
    split
    · exact h
    · exact State.conditionActs_causeNot (s := { s with alarms := s.alarms.raiseCondition s.now s.k.escalationWindow set })
        h s.alarms other
  · unfold State.clearCondition
    split <;> exact h

theorem State.foldl_causeNot {α : Type} {f : State → α → State}
    (step : ∀ (s : State) (a : α), s.walk.CauseNot key → (f s a).walk.CauseNot key) (l : List α) (h : s.walk.CauseNot key) :
    (l.foldl f s).walk.CauseNot key := by
  induction l generalizing s with
  | nil => exact h
  | cons a l ih => exact ih (step s a h)

theorem State.Follows.causeNot {t : State} (h : s.Follows t) (causeNot : s.walk.CauseNot key) : t.walk.CauseNot key := by
  rcases h.cause with same | none
  exacts [causeNot.of_eq same, .of_none none]

end CauseNot

/-! ### What stands after a key in the order of the true conditions -/

/-- The key stands in the list, at the end of it or before a later key. -/
inductive Ordered (key : AlarmKey) : List AlarmKey → Prop
  | here {ks : List AlarmKey} (next : ∀ n ∈ ks.head?, keyBefore key n = true) : Ordered key (key :: ks)
  | there {k : AlarmKey} {ks : List AlarmKey} (deeper : Ordered key ks) : Ordered key (k :: ks)

theorem ordered_insertCondition_self (c : Condition) (l : List Condition) :
    Ordered c.key ((insertCondition c l).map Condition.key) := by
  induction l with
  | nil => exact .here nofun
  | cons d ds ih =>
    unfold insertCondition
    split
    · next before =>
      refine .here fun n hn => ?_
      cases hn
      exact before
    · exact .there ih

theorem Ordered.insertCondition {key : AlarmKey} {l : List Condition} (h : Ordered key (l.map Condition.key)) {c : Condition}
    (later : keyBefore key c.key = true) : Ordered key ((insertCondition c l).map Condition.key) := by
  induction l with
  | nil => exact nomatch h
  | cons d ds ih =>
    unfold Machine.insertCondition
    split
    · exact .there h
    · rw [List.map_cons] at h ⊢
      generalize d.key = k at h ⊢
      cases h with
      | here next =>
        refine .here fun n hn => ?_
        cases ds with
        | nil =>
          cases hn
          exact later
        | cons e es =>
          unfold Machine.insertCondition at hn
          split at hn <;> cases hn
          exacts [later, next _ rfl]
      | there deeper => exact .there (ih deeper)

/-- Taking keys out leaves the order, where the key and every later one stay. -/
theorem Ordered.filter {key : AlarmKey} {l : List AlarmKey} (h : Ordered key l) {p : AlarmKey → Bool} (self : p key = true)
    (later : ∀ k, keyBefore key k = true → p k = true) : Ordered key (l.filter p) := by
  induction h with
  | @here ks next =>
    rw [List.filter_cons_of_pos self]
    refine .here fun n hn => ?_
    cases ks with
    | nil => cases hn
    | cons e es =>
      rw [List.filter_cons_of_pos (later e (next e rfl))] at hn
      cases hn
      exact next _ rfl
  | @there k ks _ ih =>
    by_cases kept : p k = true
    · rw [List.filter_cons_of_pos kept]
      exact .there ih
    · rw [List.filter_cons_of_neg kept]
      exact ih

/-! ### SITE ZONES STALE at the completion of a change -/

/-- The key of SITE ZONES STALE. -/
def staleKey : AlarmKey := ⟨16, 0⟩

theorem Alarms.ordered_raiseCondition (a : Alarms) (now window : Nat) :
    Ordered staleKey (a.raiseCondition now window staleKey).keys := by
  have inserted (b : Bool) (l : List Condition) : Ordered staleKey ((insertCondition ⟨staleKey, now, b⟩ l).map Condition.key) :=
    ordered_insertCondition_self ⟨staleKey, now, b⟩ l
  unfold Alarms.raiseCondition
  dsimp only
  split
  · exact inserted _ _
  · refine Ordered.insertCondition ?_ (show keyBefore staleKey fullKey = true by decide)
    have kept := Alarms.keys_raiseRecord
      { (a.raiseRecord now window staleKey).1 with
        conditions := insertCondition ⟨staleKey, now, !(a.raiseRecord now window staleKey).2⟩
          (a.raiseRecord now window staleKey).1.conditions } now window fullKey
    unfold Alarms.keys at kept
    rw [kept]
    exact inserted _ _

/-- The setting of SITE ZONES STALE gives the walk no cause of that key, or leaves the key in its order. -/
theorem State.syncStale_cause_or_ordered {s : State} (h : s.walk.CauseNot staleKey) :
    s.syncStale.walk.CauseNot staleKey ∨ Ordered staleKey s.syncStale.alarms.keys := by
  unfold State.syncStale State.setCondition
  split
  · rw [State.raiseCondition_alarms]
    split
    · next held =>
      left
      unfold State.raiseCondition
      rw [if_pos held]
      exact h
    · exact .inr (Alarms.ordered_raiseCondition _ _ _)
  · left
    unfold State.clearCondition
    split <;> exact h

theorem State.syncConditions_cause_or_ordered {s : State} (h : s.walk.CauseNot staleKey) :
    s.syncConditions.walk.CauseNot staleKey ∨ Ordered staleKey s.syncConditions.alarms.keys := by
  have set {s : State} (key : AlarmKey) (b : Bool) (other : key ≠ staleKey) (h : s.walk.CauseNot staleKey) :
      (s.setCondition key b).walk.CauseNot staleKey := State.setCondition_causeNot h b other
  have channels : s.syncChannels.walk.CauseNot staleKey := by
    refine State.foldl_causeNot (fun s c => set _ _ (by simp [staleKey])) _
      (State.foldl_causeNot (fun s c => set _ _ (by simp [staleKey])) _ (State.foldl_causeNot (fun s c h => ?_) _ h))
    unfold State.unreferencedEnds
    split
    exacts [h, set _ false (by simp [staleKey]) h]
  have gens : s.syncChannels.syncGens.walk.CauseNot staleKey := by
    unfold State.syncGens
    split
    · exact channels
    · exact State.foldl_causeNot (fun s g => set _ _ (by simp [staleKey])) _
        (State.foldl_causeNot (fun s g => set _ _ (by simp [staleKey])) _
          (State.foldl_causeNot (fun s g => set _ _ (by simp [staleKey])) _ channels))
  have slots : (slotsAll.foldl State.syncDefective s.syncChannels.syncGens).walk.CauseNot staleKey :=
    State.foldl_causeNot (fun s i => set _ _ (by simp [staleKey])) _ gens
  unfold State.syncConditions State.syncZones
  exact State.syncStale_cause_or_ordered slots

/-- What takes out only keys of `followCodes`, and not ALARM TABLE FULL, takes out no key after SITE ZONES STALE. -/
theorem filter_spares_later {p : AlarmKey → Bool}
    (keeps : ∀ k : AlarmKey, k.code ∉ followCodes → k ≠ fullKey → p k = true) (full : p fullKey = true) (k : AlarmKey)
    (later : keyBefore staleKey k = true) : p k = true := by
  by_cases e : k = fullKey
  · rw [e]
    exact full
  · refine keeps k (fun listed => ?_) e
    have above : 16 ≤ k.code := (of_decide_eq_true later).elim (fun h => Nat.le_of_lt h) fun h => Nat.le_of_eq h.1
    have below : ∀ n ∈ followCodes, n < 16 := by decide
    exact absurd (below _ listed) (Nat.not_lt.2 above)

/-- A completion that gives the walk the cause SITE ZONES STALE, and after which ALARM TABLE FULL is true, leaves SITE ZONES
STALE in its order. -/
theorem State.settle_ordered (s0 : State) {u : State} (before : u.walk.interruptCause = none) {c : Cause}
    (after : (State.settle s0 u).walk.interruptCause = some c) (cause : c.key = staleKey)
    (full : fullKey ∈ (State.settle s0 u).alarms.keys) : Ordered staleKey (State.settle s0 u).alarms.keys := by
  have runs : u.power = .running := by
    by_contra stopped
    rw [State.settle_of_not_running s0 stopped, before] at after
    cases after
  have follows := State.settle_follows s0 runs
  have free : u.walk.CauseNot staleKey := .of_none before
  obtain ⟨p, keys, keeps⟩ := follows.drops
  rw [keys] at full ⊢
  refine (State.syncConditions_cause_or_ordered free).elim (fun causeNot => ?_) fun ordered => ?_
  · exact absurd cause (follows.causeNot causeNot c after)
  · exact ordered.filter (keeps staleKey (by decide) (by decide)) (filter_spares_later keeps (List.mem_filter.1 full).2)

/-! ### The disordered part -/

/-- A record of SITE ZONES STALE in class TRIP, which no raise gives it. -/
def trippingRecord : AlarmRec := { AlarmRec.fresh staleKey 0 with cls := .trip, state := .clearedUnack, lastCleared := some 0 }

/-- A STEPPING walk above a SITE zone IN FORCE, HOIST, SWING and WALK referenced and DRAG not; the alarm table is full of
records that no raise can take the place of, and its true conditions are out of order. -/
def State.disordered : State :=
  let referenced : Chan := { Chan.cold 100 with refState := .referenced }
  let site : ZoneSlot := { ZoneSlot.empty with state := .inForce, body := { ZoneBody.cleared with kind := .site } }
  { State.reset with
    chans := { State.reset.chans with ch := ⟨referenced, Chan.cold 100, referenced, referenced⟩ }
    zones := { State.reset.zones with slots := State.reset.zones.slots.set 0 site }
    walk := { WalkRec.cold with state := .stepping, phase := some .liftAndStride }
    alarms :=
      { Alarms.cold with
        slots := Table.const 48 (some trippingRecord)
        conditions := [⟨⟨7, 1⟩, 0, false⟩, ⟨fullKey, 0, false⟩, ⟨⟨3, 0⟩, 0, false⟩] } }

/-- The part after the lift-off that marks its site. -/
def State.disorderedLifted : State := State.disordered.levelEvent (fun i => { i with tub := false }) State.tubLiftsOff

theorem exec_tubLiftOff_disordered : exec .tubLiftOff State.disordered = .next State.disorderedLifted := rfl

/-- The raise in the event has tripped the walk, and the completion has taken ALARM TABLE FULL out of the conditions and
raised it again behind the rest. -/
theorem disorderedLifted_outcome : State.disorderedLifted.walk.interruptCause = some ⟨staleKey, .trip⟩ ∧
    State.disorderedLifted.alarms.keys = [⟨7, 2⟩, staleKey, ⟨3, 0⟩, fullKey] := by decide +kernel

theorem not_ordered_before_earlier : ¬ Ordered staleKey [⟨7, 2⟩, staleKey, ⟨3, 0⟩, fullKey] := by
  show ¬ Ordered ⟨16, 0⟩ [⟨7, 2⟩, ⟨16, 0⟩, ⟨3, 0⟩, ⟨21, 0⟩]
  intro h
  cases h with
  | there deeper =>
    cases deeper with
    | here next => exact absurd (next ⟨3, 0⟩ rfl) (by decide)
    | there rest => exact nomatch rest

/-- Refutes O17: in the disordered part the lift-off raises SITE ZONES STALE in the event itself, which trips the walk, so
the record before the completion is not the old one with the lift-off in it. No other state before the completion serves
either: a completion that trips the walk by that raise leaves it before a later key, and here an earlier one follows. -/
theorem not_camAndTubEdgesMoveTheWalk : ¬ Obligations.CamAndTubEdgesMoveTheWalk := by
  rintro ⟨-, lifts, -⟩
  obtain ⟨t, u, taken, completed, copied, -⟩ := lifts State.disordered rfl
  obtain ⟨cause, keys⟩ := disorderedLifted_outcome
  have after : State.disorderedLifted = State.settle State.disordered u :=
    (Host.Outcome.next.inj (exec_tubLiftOff_disordered.symm.trans taken)).trans completed
  have before : u.walk.interruptCause = none := by
    rw [copied nofun]
    rfl
  have full : fullKey ∈ State.disorderedLifted.alarms.keys := by
    rw [keys]
    decide
  rw [after] at cause full
  have ordered := State.settle_ordered State.disordered before cause rfl full
  rw [← after, keys] at ordered
  exact not_ordered_before_earlier ordered

end Sys2Proof.Machine
end

section
/-! SUPPORT. The law of the zone slots and of the stored image (02 R19, R25, R31): the law of one slot through each operation
on it, what a check of a body does to the zone table, and the operations that keep the law of the state. -/

namespace Sys2Proof.Machine

/-! ### The law of one slot (R19, R25) -/

/-- A revision counted up is never 0. -/
theorem revisionUp_ne_zero (r : BitVec 16) : revisionUp r ≠ 0 := by
  unfold revisionUp
  split
  · decide
  · assumption

/-- A slot that is not EMPTY, with a revision and a window, of kind SITE if STALE. -/
theorem ZoneSlot.lawful_of_held {z : ZoneSlot} (held : z.state ≠ .empty) (revision : z.revision ≠ 0)
    (window : z.window.isSome = true) (site : z.state = .stale → z.body.kind = .site) : z.Lawful :=
  ⟨fun e => absurd e held, fun _ => ⟨revision, window⟩, site⟩

theorem ZoneSlot.empty_lawful : ZoneSlot.empty.Lawful := ⟨fun _ => ⟨rfl, rfl⟩, fun h => absurd rfl h, nofun⟩

/-- A fault of the body, or its correction, is no matter of the law. -/
theorem ZoneSlot.Lawful.withFault {z : ZoneSlot} (h : z.Lawful) (x : BodyFault) : ZoneSlot.Lawful { z with fault := x } := h

theorem ZoneSlot.Lawful.rewritten {z : ZoneSlot} (h : z.Lawful) (notStale : z.state ≠ .stale) : z.rewritten.Lawful :=
  ⟨h.1, h.2.1, fun stale => absurd stale notStale⟩

/-- A slot made DEFECTIVE keeps its revision and its window (R35). -/
theorem ZoneSlot.Lawful.marked {z : ZoneSlot} (h : z.Lawful) (held : z.state ≠ .empty) : z.marked.Lawful := by
  obtain ⟨revision, window⟩ := h.2.1 held
  exact ZoneSlot.lawful_of_held nofun revision window nofun

/-- Only a SITE zone is made STALE (R30). -/
theorem ZoneSlot.Lawful.staled {z : ZoneSlot} (h : z.Lawful) : z.staled.Lawful := by
  unfold ZoneSlot.staled
  split
  · next marks =>
    obtain ⟨inForce, site⟩ := Bool.and_eq_true_iff.1 marks
    obtain ⟨revision, window⟩ := h.2.1 (by rw [of_decide_eq_true inForce]; nofun)
    exact ZoneSlot.lawful_of_held nofun revision window fun _ => of_decide_eq_true site
  · exact h

theorem ZoneSlot.written_lawful (z : ZoneSlot) (w : ZoneWrite) : (z.written w).Lawful :=
  ZoneSlot.lawful_of_held nofun (revisionUp_ne_zero _) rfl nofun

theorem ZoneSlot.Lawful.confirmed {z : ZoneSlot} (h : z.Lawful) : z.confirmed.Lawful := by
  unfold ZoneSlot.confirmed
  split
  · next stale =>
    exact ZoneSlot.lawful_of_held nofun (revisionUp_ne_zero _) (h.2.1 (by rw [stale]; nofun)).2 nofun
  · exact h

/-- A slot loads lawful from a lawful stored form (R31). -/
theorem loadedSlot_lawful {x : StoredZone} (h : StoredZone.Lawful x) : (loadedSlot x).Lawful := by
  cases x with
  | empty => exact ZoneSlot.empty_lawful
  | defective rev w => exact ZoneSlot.lawful_of_held nofun h rfl nofun
  | zone rev w body =>
    by_cases site : body.kind = .site
    · exact ZoneSlot.lawful_of_held (by simp [loadedSlot, site]) h rfl fun _ => site
    · exact ZoneSlot.lawful_of_held (by simp [loadedSlot, site]) h rfl (by simp [loadedSlot, site])

/-- A lawful slot has a lawful stored form (R31). -/
theorem storedForm_lawful {z : ZoneSlot} (h : z.Lawful) : StoredZone.Lawful (storedForm z) := by
  have revision (held : z.state ≠ .empty) : z.revision ≠ 0 := (h.2.1 held).1
  unfold storedForm
  split
  · next defective _ => exact revision (by rw [defective]; nofun)
  · next inForce _ => exact revision (by rw [inForce]; nofun)
  · next stale _ => exact revision (by rw [stale]; nofun)
  · trivial
  · trivial

/-! ### What a check of a body does to the zone table (R32, R34, R35) -/

/-- The slot after its body's check. -/
def ZoneSlot.checked (z : ZoneSlot) : ZoneSlot :=
  match z.state, z.fault with
  | .empty, _ => z.rewritten
  | .defective, _ => z
  | _, .sound => z
  | _, .single => z.corrected
  | _, .uncorrectable => z.marked

/-- The check makes the slot DEFECTIVE. -/
def ZoneSlot.failsCheck (z : ZoneSlot) : Bool :=
  match z.state, z.fault with
  | .inForce, .uncorrectable => true
  | .stale, .uncorrectable => true
  | _, _ => false

theorem ZoneSlot.checked_empty {z : ZoneSlot} (h : z.state = .empty) :
    z.checked = z.rewritten ∧ z.failsCheck = false := by
  simp [ZoneSlot.checked, ZoneSlot.failsCheck, h]

theorem ZoneSlot.checked_defective {z : ZoneSlot} (h : z.state = .defective) :
    z.checked = z ∧ z.failsCheck = false := by
  simp [ZoneSlot.checked, ZoneSlot.failsCheck, h]

theorem ZoneSlot.checked_sound {z : ZoneSlot} (held : z.state = .inForce ∨ z.state = .stale) (h : z.fault = .sound) :
    z.checked = z ∧ z.failsCheck = false := by
  rcases held with e | e <;> simp [ZoneSlot.checked, ZoneSlot.failsCheck, e, h]

theorem ZoneSlot.checked_single {z : ZoneSlot} (held : z.state = .inForce ∨ z.state = .stale) (h : z.fault = .single) :
    z.checked = z.corrected ∧ z.failsCheck = false := by
  rcases held with e | e <;> simp [ZoneSlot.checked, ZoneSlot.failsCheck, e, h]

theorem ZoneSlot.checked_uncorrectable {z : ZoneSlot} (held : z.state = .inForce ∨ z.state = .stale)
    (h : z.fault = .uncorrectable) : z.checked = z.marked ∧ z.failsCheck = true := by
  rcases held with e | e <;> simp [ZoneSlot.checked, ZoneSlot.failsCheck, e, h]

theorem ZoneSlot.Lawful.checked {z : ZoneSlot} (h : z.Lawful) : z.checked.Lawful := by
  unfold ZoneSlot.checked
  split
  · next empty => exact h.rewritten (by rw [empty]; nofun)
  · exact h
  · exact h
  · exact h.withFault .sound
  · next held _ => exact h.marked held

/-- The zone table's part of a check: the slot, and the epoch where the slot becomes DEFECTIVE. -/
def State.tableChecked (s : State) (i : Fin 40) : State :=
  let t := s.onSlot i ZoneSlot.checked
  if (s.zones.slots.get i).failsCheck then t.epochUp else t

theorem State.onSlot_congr {s : State} {i : Fin 40} {f g : ZoneSlot → ZoneSlot}
    (h : f (s.zones.slots.get i) = g (s.zones.slots.get i)) : s.onSlot i f = s.onSlot i g := by
  unfold State.onSlot
  rw [h]

theorem Table.set_get_self {α : Type} {n : Nat} (t : Table α n) (i : Fin n) : t.set i (t.get i) = t := by
  simp [Table.set, Table.setAt, Table.get]

theorem State.onSlot_self {s : State} {i : Fin 40} {f : ZoneSlot → ZoneSlot}
    (h : f (s.zones.slots.get i) = s.zones.slots.get i) : s.onSlot i f = s := by
  unfold State.onSlot
  rw [h, Table.set_get_self]

theorem State.tableChecked_kept {s : State} {i : Fin 40} {f : ZoneSlot → ZoneSlot}
    (slot : (s.zones.slots.get i).checked = f (s.zones.slots.get i)) (passes : (s.zones.slots.get i).failsCheck = false) :
    s.tableChecked i = s.onSlot i f := by
  unfold State.tableChecked
  rw [passes]
  exact State.onSlot_congr slot

theorem State.tableChecked_marked {s : State} {i : Fin 40}
    (slot : (s.zones.slots.get i).checked = (s.zones.slots.get i).marked)
    (fails : (s.zones.slots.get i).failsCheck = true) : s.tableChecked i = (s.onSlot i ZoneSlot.marked).epochUp := by
  unfold State.tableChecked
  rw [fails]
  exact congrArg State.epochUp (State.onSlot_congr slot)

/-- A check that leaves its slot leaves the state. -/
theorem State.tableChecked_self {s : State} {i : Fin 40} (slot : (s.zones.slots.get i).checked = s.zones.slots.get i)
    (passes : (s.zones.slots.get i).failsCheck = false) : s.tableChecked i = s :=
  (State.tableChecked_kept (f := ZoneSlot.checked) rfl passes).trans (State.onSlot_self slot)

/-- A check of a held body does to the zone table what `State.tableChecked` says; the raises that come with it touch no
record. -/
theorem State.checkHeld_same {s : State} {i : Fin 40}
    (held : (s.zones.slots.get i).state = .inForce ∨ (s.zones.slots.get i).state = .stale) :
    (s.tableChecked i).SameRecords (s.checkHeld i) := by
  unfold State.checkHeld
  split
  · next sound =>
    obtain ⟨slot, passes⟩ := ZoneSlot.checked_sound held sound
    rw [State.tableChecked_self slot passes]
    exact .refl s
  · next single =>
    obtain ⟨slot, passes⟩ := ZoneSlot.checked_single held single
    rw [State.tableChecked_kept slot passes]
    exact (State.raiseEvent_same _ _).trans (State.lookDropped_same _)
  · next broken =>
    obtain ⟨slot, fails⟩ := ZoneSlot.checked_uncorrectable held broken
    rw [State.tableChecked_marked slot fails]
    exact (State.setCondition_same _ _ _).trans (State.setCondition_same _ _ _)

/-- So does every check. -/
theorem State.checkBody_same (s : State) (i : Fin 40) : (s.tableChecked i).SameRecords (s.checkBody i) := by
  unfold State.checkBody
  split
  · next empty =>
    obtain ⟨slot, passes⟩ := ZoneSlot.checked_empty empty
    rw [State.tableChecked_kept slot passes]
    exact .refl _
  · next defective =>
    obtain ⟨slot, passes⟩ := ZoneSlot.checked_defective defective
    rw [State.tableChecked_self slot passes]
    exact .refl s
  · next inForce => exact State.checkHeld_same (.inl inForce)
  · next stale => exact State.checkHeld_same (.inr stale)

/-! ### What keeps the law of the zone table and of the image -/

/-- The law, where it held before, still holds. -/
def State.KeepsZones (s t : State) : Prop := s.ZonesLawful → t.ZonesLawful

theorem State.KeepsZones.refl (s : State) : s.KeepsZones s := id

theorem State.KeepsZones.trans {s t u : State} (h : s.KeepsZones t) (g : t.KeepsZones u) : s.KeepsZones u := g ∘ h

theorem State.KeepsZones.ite {s t u : State} {p : Prop} [Decidable p] (ht : s.KeepsZones t) (hu : s.KeepsZones u) :
    s.KeepsZones (if p then t else u) := by
  split
  exacts [ht, hu]

theorem State.KeepsZones.foldl {α : Type} {f : State → α → State} (h : ∀ (s : State) (a : α), s.KeepsZones (f s a))
    (l : List α) (s : State) : s.KeepsZones (l.foldl f s) := by
  induction l generalizing s with
  | nil => exact .refl s
  | cons a l ih => exact (h s a).trans (ih (f s a))

/-- Slots, stored image, COMMIT in progress and waiting commands are all that the law speaks of. -/
theorem State.KeepsZones.of_eq {s t : State} (slots : t.zones.slots = s.zones.slots) (image : t.store.image = s.store.image)
    (commit : t.commit = s.commit) (pending : t.pending = s.pending) : s.KeepsZones t := by
  unfold State.KeepsZones State.ZonesLawful
  rw [slots, image, commit, pending]
  exact id

theorem State.SameRecords.keepsZones {s t : State} (h : s.SameRecords t) : s.KeepsZones t :=
  .of_eq (congrArg ZoneTable.slots h.zones) (congrArg Store.image h.store) h.commit h.pending

theorem State.SameButChannels.keepsZones {s t : State} (h : s.SameButChannels t) : s.KeepsZones t :=
  .of_eq (congrArg ZoneTable.slots h.zones) (congrArg Store.image h.store) h.commit h.pending

/-- Records kept from a state with the same slots, stored image, COMMIT and waiting commands on. -/
theorem State.SameRecords.keepsZonesFrom {s t u : State} (h : t.SameRecords u) (slots : t.zones.slots = s.zones.slots)
    (image : t.store.image = s.store.image) (commit : t.commit = s.commit) (pending : t.pending = s.pending) :
    s.KeepsZones u := (State.KeepsZones.of_eq slots image commit pending).trans h.keepsZones

/-- Slots replaced by lawful ones. -/
theorem State.KeepsZones.withSlots {s : State} {slots : Table ZoneSlot 40}
    (h : (∀ z ∈ s.zones.slots.cells, z.Lawful) → ∀ z ∈ slots.cells, z.Lawful) :
    s.KeepsZones { s with zones := { s.zones with slots := slots } } :=
  fun ⟨law, rest⟩ => ⟨h law, rest⟩

theorem State.onSlot_keepsZones (s : State) (i : Fin 40) {f : ZoneSlot → ZoneSlot} (hf : ∀ z, z.Lawful → (f z).Lawful) :
    s.KeepsZones (s.onSlot i f) := by
  refine .withSlots fun law z mem => ?_
  rcases List.mem_or_eq_of_mem_set mem with old | rfl
  · exact law z old
  · exact hf _ (law _ (List.get_mem _ _))

theorem State.mapSlots_keepsZones (s : State) {f : ZoneSlot → ZoneSlot} (hf : ∀ z, z.Lawful → (f z).Lawful) :
    s.KeepsZones { s with zones := { s.zones with slots := s.zones.slots.map f } } := by
  refine .withSlots fun law z mem => ?_
  obtain ⟨y, old, rfl⟩ := List.mem_map.1 mem
  exact hf y (law y old)

theorem State.epochUp_keepsZones (s : State) : s.KeepsZones s.epochUp := .of_eq rfl rfl rfl rfl

theorem State.withInputs_keepsZones (s : State) (i : Inputs) : s.KeepsZones { s with inputs := i } := .of_eq rfl rfl rfl rfl

/-! #### Checks, markings and the resolver -/

theorem State.checkBody_keepsZones (s : State) (i : Fin 40) : s.KeepsZones (s.checkBody i) := by
  have slot := s.onSlot_keepsZones i fun _ law => law.checked
  have table : s.KeepsZones (s.tableChecked i) := (slot.trans (State.epochUp_keepsZones _)).ite slot
  exact table.trans (s.checkBody_same i).keepsZones

theorem State.checkAll_keepsZones (s : State) : s.KeepsZones s.checkAll := .foldl State.checkBody_keepsZones _ s

theorem State.bodiesFault_keepsZones (s : State) (faults : List StorageFault) : s.KeepsZones (s.bodiesFault faults) :=
  .foldl (fun s _ => s.onSlot_keepsZones _ fun _ law => law.withFault _) faults s

theorem State.compareEpoch_keepsZones (s : State) (f : InFlight) : s.KeepsZones (s.compareEpoch f) :=
  .of_eq rfl rfl rfl rfl

theorem State.resolutionEnds_keepsZones (s : State) : s.KeepsZones s.resolutionEnds := by
  unfold State.resolutionEnds
  split
  · exact .refl s
  · next f _ => exact s.checkAll_keepsZones.trans (State.compareEpoch_keepsZones _ f)

theorem State.scrubOn_keepsZones (s : State) : s.KeepsZones s.scrubOn := .of_eq rfl rfl rfl rfl

theorem State.markSites_keepsZones (s : State) : s.KeepsZones s.markSites := by
  have marked := (s.mapSlots_keepsZones fun _ law => law.staled).trans (State.epochUp_keepsZones _)
  have stale : s.KeepsZones s.markStale := (marked.trans (State.setCondition_same _ _ _).keepsZones).ite (.refl s)
  exact stale.trans (State.onWalk_same _ _).keepsZones

/-! #### Channels -/

theorem State.count?_keepsZones (s : State) (c : Motion) (d : Option Dir) : s.KeepsZones (s.count? c d) := by
  cases d with
  | none => exact .refl s
  | some d =>
    have counted (c : Motion) : s.KeepsZones (s.countChan c d) := (s.countChan_butChannels c d).keepsZones
    refine State.KeepsZones.ite ?_ (counted c)
    exact (counted .walk).trans (State.KeepsZones.ite (.refl _) (State.walkPhaseFollows_same _).keepsZones)

theorem State.quadratureFault_keepsZones (s : State) (c : Motion) : s.KeepsZones (s.quadratureFault c) :=
  (s.onChan_butChannels c _).keepsZones.ite (.refl s)

theorem State.windowEnd_keepsZones (s : State) (c : Motion) : s.KeepsZones (s.windowEnd c) :=
  (s.onChan_butChannels c _).keepsZones.trans
    ((State.unreferencedEnds_same _ c).trans (State.setCondition_same _ _ _)).keepsZones

theorem State.camIndex_keepsZones (s : State) : s.KeepsZones s.camCounted.walkAtIndex := by
  obtain ⟨edge, -⟩ := s.referenceEdge_butChannels .walk
  exact edge.keepsZones.trans ((State.walkAtIndex_same s.camCounted).keepsZonesFrom rfl rfl rfl rfl)

theorem State.tubLiftsOff_keepsZones (s : State) : s.KeepsZones s.tubLiftsOff := by
  have walk (t : State) : t.KeepsZones t.walkLiftsOff := by
    have lifted := State.SameRecords.keepsZones
      (t.onWalk_same fun w => { w with liftOff := some t.tubCapture, lifted := true, setDownSeen := false })
    exact (State.KeepsZones.refl t).ite ((lifted.trans (State.markSites_keepsZones _)).ite lifted)
  have captured : s.KeepsZones { s with chans := { s.chans with liftOff := some s.tubCapture } } := .of_eq rfl rfl rfl rfl
  exact captured.trans (walk _)

theorem State.tubSetsDown_keepsZones (s : State) : s.KeepsZones s.tubSetsDown :=
  (State.walkSetsDown_same { s with chans := { s.chans with setDown := some s.tubCapture } }).keepsZonesFrom rfl rfl rfl rfl

/-! #### Supply, the settings store and the cold start -/

theorem State.recordsAtEntry_keepsZones (s : State) : s.KeepsZones s.recordsAtEntry := .of_eq rfl rfl rfl rfl

theorem State.holdupEntry_keepsZones (s : State) : s.KeepsZones s.holdupEntry :=
  s.recordsAtEntry_keepsZones.trans ((State.raiseCondition_same _ _).trans (State.starvedCleared_same _)).keepsZones

theorem State.markAtReturn_keepsZones (s : State) : s.KeepsZones s.markAtReturn := s.markSites_keepsZones.ite (.refl s)

theorem State.portsReturn_keepsZones (s : State) : s.KeepsZones s.portsReturn := .of_eq rfl rfl rfl rfl

theorem State.backInRun_keepsZones (s : State) : s.KeepsZones s.backInRun := .of_eq rfl rfl rfl rfl

theorem State.holdupReturn_keepsZones (s : State) : s.KeepsZones s.holdupReturn := by
  have records := (s.gensReturn_same.trans (State.resolverReturns_same _)).trans
    (State.SameRecords.foldl State.brakeReturns_same Motion.all _)
  refine (records.keepsZones.trans (State.markAtReturn_keepsZones _)).trans ?_
  exact ((State.portsReturn_keepsZones _).trans (State.clearCondition_same _ _).keepsZones).trans
    (State.backInRun_keepsZones _)

/-- A marker write leaves the image (R154). -/
theorem State.markerDone_keepsZones (s : State) : s.KeepsZones { s with store := s.store.markerDone } := by
  have image : s.store.markerDone.image = s.store.image := by
    unfold Store.markerDone
    split <;> rfl
  exact .of_eq rfl image rfl rfl

/-- The image of lawful slots is lawful (R31, R178). -/
theorem State.ZonesLawful.imageNow {s : State} (h : s.ZonesLawful) : Image.Lawful s.imageNow := by
  intro x mem
  obtain ⟨z, held, rfl⟩ := List.mem_map.1 mem
  exact storedForm_lawful (h.1 z held)

/-- A COMMIT begun on the present image. -/
theorem State.imageTaken_keepsZones (s : State) (time : Nat) :
    s.KeepsZones { s with commit := some ⟨s.imageNow, time⟩ } := by
  intro law
  have ⟨slots, image, _, pending⟩ := law
  refine ⟨slots, image, fun c begun => ?_, pending⟩
  cases begun
  exact law.imageNow

theorem State.commitBegun_keepsZones (s : State) : s.KeepsZones s.commitBegun :=
  s.checkAll_keepsZones.trans (State.imageTaken_keepsZones _ commitTime)

/-- The end of a COMMIT's write keeps the law where what it left is lawful. -/
theorem State.commitEnds_keepsZones (s : State) {left : Option Image} (lawful : Instr.LeavesLawful (.commitWriteEnd left)) :
    s.KeepsZones (s.commitEnds left) := by
  unfold State.commitEnds
  split
  · exact .refl s
  · refine State.KeepsZones.trans ?_ (State.setCondition_same _ _ _).keepsZones
    rintro ⟨slots, -, -, pending⟩
    refine ⟨slots, fun i kept => ?_, fun c run => (nomatch run), pending⟩
    obtain rfl : left = some i := kept
    exact lawful

/-- A part with its records lost has an empty zone table; its law is that of the store and of the waiting commands. -/
theorem State.dark_zonesLawful {power : Power} {pending : List Instr} {store : Store} {inputs : Inputs}
    (image : ∀ i, store.image = some i → Image.Lawful i) (waiting : ∀ c ∈ pending, Instr.LeavesLawful c) :
    (State.dark power pending store inputs).ZonesLawful := by
  refine ⟨fun z mem => ?_, image, fun c run => (nomatch run), waiting⟩
  have cleared : z ∈ List.replicate 40 ZoneSlot.empty := mem
  rw [List.eq_of_mem_replicate cleared]
  exact ZoneSlot.empty_lawful

theorem State.storeCut_lawful {s : State} (h : s.ZonesLawful) {i : Image} (kept : s.storeCut.image = some i) :
    Image.Lawful i := by
  unfold State.storeCut at kept
  dsimp only at kept
  split at kept
  · cases kept
  · exact h.2.1 i kept

theorem State.cut_keepsZones (s : State) (power : Power) : s.KeepsZones (State.dark power s.pending s.storeCut s.inputs) :=
  fun h => State.dark_zonesLawful (fun _ => State.storeCut_lawful h) h.2.2.2

theorem State.coldStart_keepsZones (s : State) : s.KeepsZones s.coldStart := s.cut_keepsZones .loading

theorem Store.goodImage_eq {st : Store} {i : Image} (h : st.goodImage = some i) : st.image = some i := by
  unfold Store.goodImage at h
  split at h
  · next held =>
    split at h
    · rw [held, h]
    · cases h
  · cases h

/-- The zone table loads lawful from a lawful image (R31). -/
theorem loadedZones_lawful {image : Option Image} (h : ∀ i, image = some i → Image.Lawful i) :
    ∀ z ∈ (loadedZones image).slots.cells, z.Lawful := by
  cases image with
  | none =>
    intro z mem
    rw [List.eq_of_mem_replicate mem]
    exact ZoneSlot.empty_lawful
  | some i =>
    intro z mem
    obtain ⟨x, stored, rfl⟩ := List.mem_map.1 mem
    exact loadedSlot_lawful (h i rfl x stored)

theorem State.loaded_keepsZones (s : State) : s.KeepsZones s.loaded := by
  rintro ⟨-, image, -, pending⟩
  have kept : s.loaded.store.image = s.store.image := by
    show (if s.store.markerFound then s.store.writing false else s.store).image = _
    split <;> rfl
  refine ⟨loadedZones_lawful fun i good => image i (Store.goodImage_eq good), ?_, fun c run => (nomatch run), pending⟩
  rw [kept]
  exact image

theorem State.mainsAtStart_keepsZones (s : State) : s.KeepsZones s.mainsAtStart :=
  (State.KeepsZones.refl s).ite s.holdupEntry_keepsZones

theorem State.loadEnds_keepsZones (s : State) : s.KeepsZones s.loadEnds :=
  ((s.loaded_keepsZones.trans (State.coldRaises_same _ _ _).keepsZones).trans (State.mainsAtStart_keepsZones _)).trans
    (State.settle_same _ _).keepsZones

/-! #### Requests -/

theorem State.cabFrame_keepsZones (s : State) (p : Port) : s.KeepsZones (s.cabFrame p) := by
  cases p
  · exact (State.KeepsZones.refl s).ite
      ((State.clearCondition_same _ _).keepsZonesFrom rfl rfl rfl rfl)
  · exact .refl s

theorem State.readTaken_keepsZones (s : State) (key : RecordKey) : s.KeepsZones (s.readTaken key).state := by
  have checked : s.KeepsZones (s.checkedFor key) := by
    cases key with
    | zone i => exact s.checkBody_keepsZones i
    | _ => exact .refl s
  unfold State.readTaken
  dsimp only
  split
  exacts [checked, checked]

theorem State.nextTaken_keepsZones (s : State) (start : NextKey) : s.KeepsZones (s.nextTaken start).state := by
  unfold State.nextTaken
  split
  exacts [s.readTaken_keepsZones _, .refl s]

theorem State.walkTaken_keepsZones (s : State) (o : WalkOrder) : s.KeepsZones (s.walkTaken o).state := by
  unfold State.walkTaken
  split
  · exact .refl s
  · exact s.lockDigs_same.keepsZones.trans (.of_eq rfl rfl rfl rfl)

theorem State.writeZoneTaken_keepsZones (s : State) (w : ZoneWrite) : s.KeepsZones (s.writeZoneTaken w).state := by
  unfold State.writeZoneTaken
  dsimp only
  split
  · exact .refl s
  split
  · exact .refl s
  split
  · exact .refl s
  · exact (s.onSlot_keepsZones w.slot fun z _ => z.written_lawful w).trans (State.epochUp_keepsZones _)

theorem State.retireZoneTaken_keepsZones (s : State) (x : Fin 40 × BitVec 16) :
    s.KeepsZones (s.retireZoneTaken x).state := by
  unfold State.retireZoneTaken
  dsimp only
  split
  · exact .refl s
  split
  · exact .refl s
  · exact (s.onSlot_keepsZones x.1 fun _ _ => ZoneSlot.empty_lawful).trans (State.epochUp_keepsZones _)

theorem State.confirmTaken_keepsZones (s : State) (x : Option (Fin 40 × Option (BitVec 16))) :
    s.KeepsZones (s.confirmTaken x).state := by
  unfold State.confirmTaken
  split
  · exact .refl s
  split
  · unfold State.confirmOne
    dsimp only
    split
    · exact .refl s
    split
    · exact .refl s
    · exact (s.onSlot_keepsZones _ fun _ law => law.confirmed).trans (State.epochUp_keepsZones _)
  · unfold State.confirmAll
    split
    · exact (s.mapSlots_keepsZones fun _ law => law.confirmed).trans (State.epochUp_keepsZones _)
    · exact .refl s

theorem State.referenceResetTaken_keepsZones (s : State) (c : Motion) : s.KeepsZones (s.referenceResetTaken c).state := by
  unfold State.referenceResetTaken
  split
  exacts [.refl s, (s.onChan_butChannels c _).keepsZones]

theorem State.constantWritten_keepsZones (s : State) (key : ConstKey) (old : Constants) :
    s.KeepsZones (s.constantWritten key old) := by
  have unreferenced (t : State) (c : Motion) : t.KeepsZones (t.unreference c) := (t.onChan_butChannels c _).keepsZones
  have cpr (c : Motion) : s.KeepsZones (s.cprWritten c) := (s.onChan_butChannels .swing _).keepsZones.ite (.refl s)
  unfold State.constantWritten
  split
  · exact State.KeepsZones.ite (((cpr _).ite (.refl s)).trans (unreferenced _ _)) (.refl s)
  · exact s.epochUp_keepsZones.ite ((s.withGens_same _).keepsZones.ite (.refl s))

theorem State.writeConstantTaken_keepsZones (s : State) (x : ConstKey × Int) :
    s.KeepsZones (s.writeConstantTaken x).state := by
  unfold State.writeConstantTaken
  dsimp only
  split
  · exact .refl s
  split
  · exact .refl s
  · have written : s.KeepsZones { s with k := setConst s.k x.1 x.2 } := .of_eq rfl rfl rfl rfl
    exact written.trans (State.constantWritten_keepsZones _ _ _)

/-! ### Events, frames and the tick keep the law -/

theorem State.settle_keepsZones (s0 s : State) : s.KeepsZones (State.settle s0 s) := (State.settle_same s0 s).keepsZones

theorem State.event_keepsZones (s : State) {f : State → State} (hf : s.KeepsZones (f s)) : s.KeepsZones (s.event f) := by
  unfold State.event
  split
  exacts [hf.trans (State.settle_keepsZones _ _), .refl s, .refl s]

theorem State.levelEvent_keepsZones (s : State) {l : Inputs → Inputs} {f : State → State}
    (hf : ∀ t : State, t.KeepsZones (f t)) : s.KeepsZones (s.levelEvent l f) := by
  have moved := s.withInputs_keepsZones (l s.inputs)
  unfold State.levelEvent
  dsimp only
  split
  exacts [(moved.trans (hf _)).trans (State.settle_keepsZones _ _), moved, moved]

theorem State.onPort_keepsZones (s : State) (p : Port) (f : PortState → PortState) : s.KeepsZones (s.onPort p f) :=
  .of_eq rfl rfl rfl rfl

theorem State.frameTaken_keepsZones (s : State) (p : Port) {take : State → State}
    (ht : ∀ t : State, t.KeepsZones (take t)) : s.KeepsZones (s.frameTaken p take) := by
  have hunted : s.KeepsZones (s.hunt p) := s.onPort_keepsZones p _
  unfold State.frameTaken
  split
  · refine hunted.ite (State.KeepsZones.trans ?_ (State.settle_keepsZones _ _))
    exact (hunted.trans (State.cabFrame_keepsZones _ p)).trans (ht _)
  · exact .refl s
  · exact .refl s

theorem request_keepsZones {α : Type} (q : Spec) (parse : State → List Byte → Field α) (act : α → State → Taken)
    (f : Frame) (s : State) (ha : ∀ (t : State) (x : α), t.KeepsZones (act x t).state) :
    s.KeepsZones (request q parse act f s) := by
  refine s.frameTaken_keepsZones f.port fun t => ?_
  unfold takeRequest
  split
  · exact t.onPort_keepsZones _ _
  · split
    · next x _ =>
      unfold guardTest
      split
      · exact t.onPort_keepsZones _ _
      · exact (ha t x).trans (State.onPort_keepsZones _ _ _)
    · exact t.onPort_keepsZones _ _

theorem State.answerLeaves_keepsZones (s : State) (p : Port) : s.KeepsZones (s.answerLeaves p) := by
  unfold State.answerLeaves
  split
  · exact .refl s
  · next a _ =>
    refine (s.onPort_keepsZones p fun q => { q with answer := none }).trans ?_
    cases a.after
    exacts [.refl _, .of_eq rfl rfl rfl rfl, State.coldStart_keepsZones _]

/-- A COMMIT in progress keeps its image while its time runs (R157, R178). -/
theorem State.tickBoth_keepsZones (s : State) : s.KeepsZones s.tickBoth := by
  rintro ⟨slots, image, commit, pending⟩
  refine ⟨slots, image, fun c running => ?_, pending⟩
  obtain ⟨before, started, rfl⟩ := Option.map_eq_some_iff.1 running
  exact commit before started

theorem State.tick_keepsZones (s : State) : s.KeepsZones s.tick := by
  unfold State.tick
  split
  · exact s.tickBoth_keepsZones.ite (s.tickBoth_keepsZones.trans (.of_eq rfl rfl rfl rfl))
  · exact .of_eq rfl rfl rfl rfl
  · exact .refl s

end Sys2Proof.Machine
end

section
/-! SUPPORT. The law of the zone slots and of the stored image through every command and every step (O7). -/

namespace Sys2Proof.Machine

/-- A request whose own part touches no slot and no image. -/
theorem request_same_keepsZones {α : Type} (q : Spec) (parse : State → List Byte → Field α) (act : α → State → Taken)
    (f : Frame) (s : State) (ha : ∀ (t : State) (x : α), t.SameRecords (act x t).state) :
    s.KeepsZones (request q parse act f s) :=
  request_keepsZones q parse act f s fun t x => (ha t x).keepsZones

/-- An event that touches no slot and no image. -/
theorem State.event_same_keepsZones (s : State) {f : State → State} (hf : s.SameRecords (f s)) :
    s.KeepsZones (s.event f) := s.event_keepsZones hf.keepsZones

/-- A level event that touches no slot and no image. -/
theorem State.levelEvent_same_keepsZones (s : State) {l : Inputs → Inputs} {f : State → State}
    (hf : ∀ t : State, t.SameRecords (f t)) : s.KeepsZones (s.levelEvent l f) :=
  s.levelEvent_keepsZones fun t => (hf t).keepsZones

/-- Every command answers next, with the law kept; the end of a COMMIT's write keeps it where what it leaves is lawful (log
entry 32). -/
theorem exec_keepsZones (c : Instr) (s : State) (lawful : Instr.LeavesLawful c) :
    ∃ t, exec c s = .next t ∧ s.KeepsZones t := by
  cases c with
  | read f => exact ⟨_, rfl, request_keepsZones _ _ _ f s fun t _ => t.readTaken_keepsZones _⟩
  | next f => exact ⟨_, rfl, request_keepsZones _ _ _ f s fun t _ => t.nextTaken_keepsZones _⟩
  | status f => exact ⟨_, rfl, request_same_keepsZones _ _ _ f s fun t _ => .refl t⟩
  | demand f => exact ⟨_, rfl, request_same_keepsZones _ _ _ f s fun t x => t.demandTaken_same x⟩
  | arm f => exact ⟨_, rfl, request_same_keepsZones _ _ _ f s fun t x => t.armTaken_same x⟩
  | stopAll f =>
    exact ⟨_, rfl, request_same_keepsZones _ _ _ f s fun t _ =>
      (t.onMotions_same MotionRec.stopAll).trans (State.haltWalk_same _)⟩
  | parkMachine f => exact ⟨_, rfl, request_same_keepsZones _ _ _ f s fun t _ => t.parkTaken_same⟩
  | walk f => exact ⟨_, rfl, request_keepsZones _ _ _ f s fun t o => t.walkTaken_keepsZones o⟩
  | walkHalt f => exact ⟨_, rfl, request_same_keepsZones _ _ _ f s fun t _ => t.haltWalk_same⟩
  | walkResume f => exact ⟨_, rfl, request_same_keepsZones _ _ _ f s fun t _ => t.resumeTaken_same⟩
  | walkCancel f => exact ⟨_, rfl, request_same_keepsZones _ _ _ f s fun t _ => t.cancelTaken_same⟩
  | writeZone f => exact ⟨_, rfl, request_keepsZones _ _ _ f s fun t w => t.writeZoneTaken_keepsZones w⟩
  | retireZone f => exact ⟨_, rfl, request_keepsZones _ _ _ f s fun t x => t.retireZoneTaken_keepsZones x⟩
  | confirmZones f => exact ⟨_, rfl, request_keepsZones _ _ _ f s fun t x => t.confirmTaken_keepsZones x⟩
  | flushCache f => exact ⟨_, rfl, request_same_keepsZones _ _ _ f s fun t _ => t.withRes_same _⟩
  | referenceReset f => exact ⟨_, rfl, request_keepsZones _ _ _ f s fun t c => t.referenceResetTaken_keepsZones c⟩
  | acknowledge f => exact ⟨_, rfl, request_same_keepsZones _ _ _ f s fun t key => t.acknowledgeTaken_same f.port key⟩
  | shelve f => exact ⟨_, rfl, request_same_keepsZones _ _ _ f s fun t x => t.shelveTaken_same x⟩
  | unshelve f => exact ⟨_, rfl, request_same_keepsZones _ _ _ f s fun t key => t.unshelveTaken_same key⟩
  | setAnnounce f => exact ⟨_, rfl, request_same_keepsZones _ _ _ f s fun t _ => t.withAlarms_same _⟩
  | lockOutGenerator f => exact ⟨_, rfl, request_same_keepsZones _ _ _ f s fun t _ => t.genReplies_same _ _⟩
  | returnGenerator f => exact ⟨_, rfl, request_same_keepsZones _ _ _ f s fun t _ => t.genReplies_same _ _⟩
  | openGuard f => exact ⟨_, rfl, request_keepsZones _ _ _ f s fun _ _ => .of_eq rfl rfl rfl rfl⟩
  | writeConstant f => exact ⟨_, rfl, request_keepsZones _ _ _ f s fun t x => t.writeConstantTaken_keepsZones x⟩
  | commit f => exact ⟨_, rfl, request_keepsZones _ _ _ f s fun t _ => t.commitBegun_keepsZones⟩
  | restart f => exact ⟨_, rfl, request_same_keepsZones _ _ _ f s fun t _ => .refl t⟩
  | unknown f code => exact ⟨_, rfl, s.frameTaken_keepsZones _ fun t => t.onPort_keepsZones _ _⟩
  | check p tag code =>
    refine ⟨_, rfl, s.event_keepsZones ?_⟩
    have hunted := s.onPort_keepsZones p fun q => { q with receiver := .hunting }
    exact hunted.ite (hunted.trans (State.onPort_keepsZones _ _ _))
  | lengthOutOfRange p length | frameGap p byte | lineBreakOrFramingError p | frameDiscarded p =>
    exact ⟨_, rfl, s.event_keepsZones (s.onPort_keepsZones p _)⟩
  | answerSent p => exact ⟨_, rfl, s.event_keepsZones (s.answerLeaves_keepsZones p)⟩
  | guardWindowEnd => exact ⟨_, rfl, s.event_keepsZones (.of_eq rfl rfl rfl rfl)⟩
  | cabLinkPeriodEnd =>
    refine ⟨_, rfl, s.event_keepsZones ?_⟩
    unfold State.cabLinkEnds
    split
    · exact (State.raiseCondition_same _ _).keepsZonesFrom rfl rfl rfl rfl
    · exact .refl s
    · exact .refl s
  | quadratureCount c input level => exact ⟨_, rfl, s.levelEvent_keepsZones fun t => t.count?_keepsZones c _⟩
  | countDirectionCount c input level => exact ⟨_, rfl, s.levelEvent_keepsZones fun t => t.count?_keepsZones c _⟩
  | quadratureError c => exact ⟨_, rfl, s.levelEvent_keepsZones fun t => t.quadratureFault_keepsZones c⟩
  | rateWindowEnd c => exact ⟨_, rfl, s.event_keepsZones (s.windowEnd_keepsZones c)⟩
  | referenceSwitchMake c =>
    exact ⟨_, rfl, s.levelEvent_keepsZones fun t => (t.switchMade_butChannels c).1.keepsZones⟩
  | referenceSwitchBreak c =>
    exact ⟨_, rfl, s.levelEvent_keepsZones fun t => (t.butChannels_arm c false).keepsZones⟩
  | encoderIndex c => exact ⟨_, rfl, s.event_keepsZones (s.encoderIndex_butChannels c).1.keepsZones⟩
  | camIndex => exact ⟨_, rfl, s.event_keepsZones s.camIndex_keepsZones⟩
  | tubLiftOff => exact ⟨_, rfl, s.levelEvent_keepsZones State.tubLiftsOff_keepsZones⟩
  | tubSetDown => exact ⟨_, rfl, s.levelEvent_keepsZones State.tubSetsDown_keepsZones⟩
  | scrubVisit faults =>
    have checked := (s.bodiesFault_keepsZones faults).trans (State.checkBody_keepsZones _ s.zones.scrub)
    exact ⟨_, rfl, s.event_keepsZones (checked.trans (State.scrubOn_keepsZones _))⟩
  | resolutionEnd => exact ⟨_, rfl, s.event_keepsZones s.resolutionEnds_keepsZones⟩
  | closureProof g loop | dropOutProof g loop | strayOrLostProof g loop present | lockedOutProofChange g loop present =>
    exact ⟨_, rfl, s.levelEvent_same_keepsZones fun t => t.inRun_same (t.genTakes_same g _)⟩
  | openingProofTimeEnd g => exact ⟨_, rfl, s.event_same_keepsZones (s.inRun_same (s.genTakes_same g _))⟩
  | failedClose g => exact ⟨_, rfl, s.event_same_keepsZones (s.inRun_same (s.genTakes_same g _))⟩
  | releaseHoldExpiry m => exact ⟨_, rfl, s.event_same_keepsZones (s.inRun_same (s.holdExpires_same m))⟩
  | starveTimeEnd m => exact ⟨_, rfl, s.event_same_keepsZones (s.inRun_same (s.starves_same m))⟩
  | brakeReleaseProof m => exact ⟨_, rfl, s.levelEvent_same_keepsZones fun t => t.releaseProofComes_same m⟩
  | brakeSetProof m => exact ⟨_, rfl, s.levelEvent_same_keepsZones fun t => t.brakeShowsSet_same m⟩
  | releaseProofLost m => exact ⟨_, rfl, s.levelEvent_same_keepsZones fun t => t.brakeShowsSet_same m⟩
  | brakeLiftWithoutCommand m => exact ⟨_, rfl, s.levelEvent_same_keepsZones fun t => t.brakeShowsReleased_same m⟩
  | brakeReleaseTimeEnd m => exact ⟨_, rfl, s.event_same_keepsZones (s.inRun_same (s.releaseTimeEnds_same m))⟩
  | brakeSetTimeEnd m => exact ⟨_, rfl, s.event_same_keepsZones (s.inRun_same (s.setTimeEnds_same m))⟩
  | stopTimeout m => exact ⟨_, rfl, s.event_same_keepsZones (s.inRun_same (s.onBrake_same m _))⟩
  | prepareTimeout => exact ⟨_, rfl, s.event_same_keepsZones (s.inRun_same s.prepareTimesOut_same)⟩
  | phaseTimeout => exact ⟨_, rfl, s.event_same_keepsZones (s.inRun_same s.phaseTimesOut_same)⟩
  | dwellEnd => exact ⟨_, rfl, s.event_same_keepsZones (s.inRun_same s.dwellEnds_same)⟩
  | emergencyStopInput stop => exact ⟨_, rfl, s.levelEvent_same_keepsZones fun t => t.setCondition_same _ _⟩
  | shelfMinute key => exact ⟨_, rfl, s.event_same_keepsZones (s.withAlarms_same _)⟩
  | mainsLoss =>
    exact ⟨_, rfl, s.levelEvent_keepsZones fun t => (State.KeepsZones.refl t).ite t.holdupEntry_keepsZones⟩
  | mainsReturn =>
    exact ⟨_, rfl, s.levelEvent_keepsZones fun t => t.holdupReturn_keepsZones.ite (.refl t)⟩
  | holdupExhausted => exact ⟨_, rfl, (s.cut_keepsZones .stopped).ite (.refl s)⟩
  | markerWriteDone => exact ⟨_, rfl, s.event_keepsZones s.markerDone_keepsZones⟩
  | commitWriteEnd left => exact ⟨_, rfl, s.event_keepsZones (s.commitEnds_keepsZones lawful)⟩
  | powerOn =>
    have powered := s.withInputs_keepsZones { s.inputs with mains := true }
    exact ⟨_, rfl, (State.KeepsZones.refl s).ite (powered.trans (State.coldStart_keepsZones _))⟩
  | resetLine =>
    refine ⟨_, rfl, ?_⟩
    split
    exacts [s.coldStart_keepsZones, s.coldStart_keepsZones, .refl s]
  | settingsLoadEnd =>
    refine ⟨_, rfl, ?_⟩
    split
    exacts [s.loadEnds_keepsZones, .refl s, .refl s]

/-- Every step keeps the law: a command that waits is lawful by it, and one millisecond touches no slot. -/
theorem step_keepsZones {s t : State} (stepped : step s = .next t) : s.KeepsZones t := by
  intro law
  unfold step at stepped
  split at stepped
  · next c rest waits =>
    obtain ⟨slots, image, commit, pending⟩ := law
    rw [waits] at pending
    obtain ⟨front, others⟩ := List.forall_mem_cons.1 pending
    obtain ⟨u, run, keeps⟩ := exec_keepsZones c { s with pending := rest } front
    rw [run] at stepped
    cases stepped
    exact keeps ⟨slots, image, commit, others⟩
  · cases stepped
    exact s.tick_keepsZones law

/-- Settles O7: every operation on a slot keeps that slot's law (`ZoneSlot.Lawful`), a lawful table gives a lawful image and
a lawful image a lawful table, and everything else leaves the slots, the images and the waiting commands alone. -/
theorem zonesStayLawful : Obligations.ZonesStayLawful := fun _ _ law stepped => step_keepsZones stepped law

end Sys2Proof.Machine
end

section
/-! SUPPORT. The permission codes, what a zone slot covers and what a cell key resolves to (02 R20, R22–R24): a covered key by
the windows, the scan for the ordinary zone of smallest span, and the three tiers. -/

namespace Sys2Proof.Machine

/-! ### Permission codes (R23) -/

theorem grants_plus_iff (d : Dir) : grants .plus d = true ↔ d = .plus := by cases d <;> decide

theorem grants_minus_iff (d : Dir) : grants .minus d = true ↔ d = .minus := by cases d <;> decide

/-- Settles O20: the table of R23, row by row. -/
theorem permissionCodesGrant : Obligations.PermissionCodesGrant :=
  ⟨fun _ => rfl, grants_plus_iff, grants_minus_iff, fun _ => rfl⟩

/-! ### Covers (R20, R22) -/

theorem SwingWindow.holds_iff (w : SwingWindow) (cell : Nat) :
    SwingWindow.holds w cell = true ↔ w.base ≤ cell * 64 ∧ cell * 64 < w.base + w.span := decide_eq_true_iff

theorem bandsHold_iff (b : ZoneBody) (key : CellKey) : bandsHold b key = true ↔
    (b.dragMin ≤ key.drag ∧ key.drag ≤ b.dragMax) ∧ b.hoistMin ≤ key.hoist ∧ key.hoist ≤ b.hoistMax := by
  unfold bandsHold
  rw [decide_eq_true_iff, and_assoc]

theorem ZoneSlot.windowHolds_iff {z : ZoneSlot} {w : SwingWindow} (h : z.window = some w) (cell : Nat) :
    z.windowHolds cell = true ↔ w.base ≤ cell * 64 ∧ cell * 64 < w.base + w.span := by
  unfold ZoneSlot.windowHolds
  rw [h]
  exact SwingWindow.holds_iff w cell

theorem ZoneSlot.covers_empty {z : ZoneSlot} (h : z.state = .empty) (key : CellKey) : z.covers key = false := by
  unfold ZoneSlot.covers
  rw [h]

theorem ZoneSlot.covers_defective {z : ZoneSlot} (h : z.state = .defective) (key : CellKey) :
    z.covers key = z.windowHolds key.cell := by
  unfold ZoneSlot.covers
  rw [h]

theorem ZoneSlot.covers_held {z : ZoneSlot} (h : z.state = .inForce ∨ z.state = .stale) (key : CellKey) :
    z.covers key = (z.windowHolds key.cell && bandsHold z.body key) := by
  unfold ZoneSlot.covers
  rcases h with h | h <;> rw [h]

/-! ### The two kinds of candidate (R19, R24) -/

theorem ZoneSlot.exclusionLike_iff (z : ZoneSlot) : z.exclusionLike = true ↔
    z.state = .stale ∨ z.state = .defective ∨ (z.state = .inForce ∧ z.body.exclusion = true) := by
  unfold ZoneSlot.exclusionLike
  split <;> simp [*]

theorem ZoneSlot.ordinary_iff (z : ZoneSlot) : z.ordinary = true ↔ z.state = .inForce ∧ z.body.exclusion = false := by
  simp [ZoneSlot.ordinary]

/-- An ordinary zone that covers the key. -/
def ZoneSlot.candidate (key : CellKey) (z : ZoneSlot) : Bool := z.covers key && z.ordinary

/-- An exclusion-like zone that covers the key. -/
def ZoneSlot.excludes (key : CellKey) (z : ZoneSlot) : Bool := z.covers key && z.exclusionLike

theorem ZoneSlot.candidate_iff (key : CellKey) (z : ZoneSlot) :
    z.candidate key = true ↔ z.covers key = true ∧ z.ordinary = true := Bool.and_eq_true_iff

theorem ZoneSlot.excludes_iff (key : CellKey) (z : ZoneSlot) :
    z.excludes key = true ↔ z.covers key = true ∧ z.exclusionLike = true := Bool.and_eq_true_iff

/-! ### The scan for the smallest span (R24, tier 2) -/

theorem bestOrdinary_cons_candidate {key : CellKey} {z : ZoneSlot} (h : z.candidate key = true) (i : Nat)
    (zs : List ZoneSlot) (best : Option (Nat × ZoneSlot)) :
    bestOrdinary key i (z :: zs) best = bestOrdinary key (i + 1) zs (betterZone best i z) := by
  show bestOrdinary key (i + 1) zs (if z.candidate key then _ else _) = _
  rw [if_pos h]

theorem bestOrdinary_cons_other {key : CellKey} {z : ZoneSlot} (h : ¬ z.candidate key = true) (i : Nat)
    (zs : List ZoneSlot) (best : Option (Nat × ZoneSlot)) :
    bestOrdinary key i (z :: zs) best = bestOrdinary key (i + 1) zs best := by
  show bestOrdinary key (i + 1) zs (if z.candidate key then _ else _) = _
  rw [if_neg h]

/-- Without a candidate the scan brings back what it had. -/
theorem bestOrdinary_of_none {key : CellKey} {zs : List ZoneSlot} (h : ∀ z ∈ zs, ¬ z.candidate key = true) (i : Nat)
    (best : Option (Nat × ZoneSlot)) : bestOrdinary key i zs best = best := by
  induction zs generalizing i with
  | nil => rfl
  | cons z zs ih =>
    obtain ⟨first, others⟩ := List.forall_mem_cons.1 h
    rw [bestOrdinary_cons_other first, ih others]

/-- A best so far that no candidate undercuts is kept to the end. -/
theorem bestOrdinary_keeps {key : CellKey} {z : ZoneSlot} {zs : List ZoneSlot}
    (h : ∀ y ∈ zs, y.candidate key = true → z.span ≤ y.span) (i j : Nat) :
    bestOrdinary key i zs (some (j, z)) = some (j, z) := by
  induction zs generalizing i with
  | nil => rfl
  | cons y zs ih =>
    obtain ⟨first, others⟩ := List.forall_mem_cons.1 h
    by_cases cand : y.candidate key = true
    · have keeps : betterZone (some (j, z)) i y = some (j, z) := if_neg (Nat.not_lt.2 (first cand))
      rw [bestOrdinary_cons_candidate cand, keeps, ih others]
    · rw [bestOrdinary_cons_other cand, ih others]

/-- The candidate of smallest span, lowest place among equals, wins over every best so far of a larger span. -/
theorem bestOrdinary_wins {key : CellKey} {zs : List ZoneSlot} {i : Nat} {z : ZoneSlot} (at_i : zs[i]? = some z)
    (cand : z.candidate key = true)
    (least : ∀ (j : Nat) (y : ZoneSlot), zs[j]? = some y → y.candidate key = true →
      z.span < y.span ∨ (z.span = y.span ∧ i ≤ j))
    (n : Nat) {best : Option (Nat × ZoneSlot)} (larger : ∀ p, best = some p → z.span < p.2.span) :
    bestOrdinary key n zs best = some (n + i, z) := by
  induction zs generalizing i n best with
  | nil => cases at_i
  | cons y zs ih =>
    cases i with
    | zero =>
      obtain rfl : y = z := Option.some.inj at_i
      have better : betterZone best n y = some (n, y) := by
        cases best with
        | none => rfl
        | some p => exact if_pos (larger p rfl)
      rw [bestOrdinary_cons_candidate cand, better]
      refine bestOrdinary_keeps (fun x mem candX => ?_) (n + 1) n
      obtain ⟨j, at_j⟩ := List.getElem?_of_mem mem
      have := least (j + 1) x at_j candX
      omega
    | succ i =>
      have later (j : Nat) (x : ZoneSlot) (at_j : zs[j]? = some x) (candX : x.candidate key = true) :
          z.span < x.span ∨ (z.span = x.span ∧ i ≤ j) := by
        have := least (j + 1) x at_j candX
        omega
      have place : n + (i + 1) = n + 1 + i := by omega
      rw [place]
      by_cases candY : y.candidate key = true
      · have above : z.span < y.span := by
          have := least 0 y rfl candY
          omega
        rw [bestOrdinary_cons_candidate candY]
        refine ih at_i later (n + 1) fun p hp => ?_
        unfold betterZone at hp
        split at hp
        · cases hp
          exact above
        · next j x =>
          split at hp
          · cases hp
            exact above
          · cases hp
            exact larger _ rfl
      · rw [bestOrdinary_cons_other candY]
        exact ih at_i later (n + 1) larger

/-! ### The three tiers (R24) -/

/-- Tier 1: the lowest exclusion-like zone that covers the key. -/
theorem resolve_excluded {slots : List ZoneSlot} {key : CellKey} {i : Nat} {z : ZoneSlot} (at_i : slots[i]? = some z)
    (excl : z.excludes key = true)
    (lowest : ∀ (j : Nat) (y : ZoneSlot), j < i → slots[j]? = some y → ¬ y.excludes key = true)
    (defaults : PerDig Permission) : resolve slots defaults key = ⟨PerDig.const .none, some i⟩ := by
  obtain ⟨inside, rfl⟩ := List.getElem?_eq_some_iff.1 at_i
  have found : slots.findIdx? (ZoneSlot.excludes key) = some i :=
    List.findIdx?_eq_some_iff_getElem.2 ⟨inside, excl, fun j hj =>
      lowest j _ hj (List.getElem?_eq_getElem (hj.trans inside))⟩
  unfold ZoneSlot.excludes at found
  unfold resolve
  simp only [found]

theorem findIdx?_excludes_eq_none {slots : List ZoneSlot} {key : CellKey} (free : ∀ z ∈ slots, ¬ z.excludes key = true) :
    (slots.findIdx? fun z => z.covers key && z.exclusionLike) = none :=
  List.findIdx?_eq_none_iff.2 fun z mem => Bool.eq_false_iff.2 (free z mem)

/-- Tier 2: without an exclusion-like zone, what the scan finds. -/
theorem resolve_ordinary {slots : List ZoneSlot} {key : CellKey} (free : ∀ z ∈ slots, ¬ z.excludes key = true) {i : Nat}
    {z : ZoneSlot} (found : bestOrdinary key 0 slots none = some (i, z)) (defaults : PerDig Permission) :
    resolve slots defaults key = ⟨z.body.permission, some i⟩ := by
  unfold resolve
  simp only [findIdx?_excludes_eq_none free, found]

/-- Tier 3: without either, the defaults. -/
theorem resolve_default {slots : List ZoneSlot} {key : CellKey} (free : ∀ z ∈ slots, ¬ z.excludes key = true)
    (absent : bestOrdinary key 0 slots none = none) (defaults : PerDig Permission) :
    resolve slots defaults key = ⟨defaults, none⟩ := by
  unfold resolve
  simp only [findIdx?_excludes_eq_none free, absent]

/-- Settles O21: each tier is a scan of the slots, and each scan's own lemma says whom it finds. -/
theorem zonesResolveKeys : Obligations.ZonesResolveKeys := by
  refine ⟨fun z w key window => ⟨fun empty => z.covers_empty empty key, fun defective => ?_, fun held => ?_⟩,
    fun z => ⟨z.exclusionLike_iff, z.ordinary_iff⟩, fun slots defaults key => ⟨?_, fun free => ⟨?_, ?_⟩⟩⟩
  · rw [z.covers_defective defective, z.windowHolds_iff window]
  · rw [z.covers_held held, Bool.and_eq_true, z.windowHolds_iff window, bandsHold_iff]
  · intro i z at_i covers excl lowest
    exact resolve_excluded at_i ((z.excludes_iff key).2 ⟨covers, excl⟩)
      (fun j y hj at_j => mt (y.excludes_iff key).1 (lowest j y hj at_j)) defaults
  · intro i z at_i covers ordinary least
    have wins := bestOrdinary_wins at_i ((z.candidate_iff key).2 ⟨covers, ordinary⟩)
      (fun j y at_j cand => by
        obtain ⟨coversY, ordinaryY⟩ := (y.candidate_iff key).1 cand
        exact least j y at_j coversY ordinaryY) 0 (best := none) fun _ found => nomatch found
    rw [Nat.zero_add] at wins
    exact resolve_ordinary (fun z mem => mt (z.excludes_iff key).1 (free z mem)) wins defaults
  · intro absent
    have scan := bestOrdinary_of_none (fun z mem => mt (z.candidate_iff key).1 (absent z mem)) 0 none
    exact resolve_default (fun z mem => mt (z.excludes_iff key).1 (free z mem)) scan defaults

end Sys2Proof.Machine
end

section
/-! SUPPORT. The requests that edit the zone table (02 R25–R29) and the scrub's visit (R32–R35): a request that replaces slots
and counts the epoch up, a request that only answers, and what one check leaves of the table. -/

namespace Sys2Proof.Machine

/-! ### Slots (R25) -/

/-- The revision counted up, as R25 has it. -/
theorem revisionUp_countedUp (r : BitVec 16) : CountedUp r (revisionUp r) := by
  have bound := r.isLt
  have wraps : (r + 1).toNat = (r.toNat + 1) % 65536 := BitVec.toNat_add r 1
  unfold CountedUp revisionUp
  split
  · next zero =>
    rw [zero] at wraps
    have : (0 : BitVec 16).toNat = 0 := rfl
    exact ⟨fun below => by omega, fun _ => rfl⟩
  · next nonzero =>
    have positive : (r + 1).toNat ≠ 0 := fun e => nonzero (BitVec.eq_of_toNat_eq e)
    exact ⟨fun below => by omega, fun top => by omega⟩

/-- The slots replaced. -/
def State.withSlots (s : State) (slots : Table ZoneSlot 40) : State := { s with zones := { s.zones with slots := slots } }

theorem State.onSlot_eq_withSlots (s : State) (i : Fin 40) (f : ZoneSlot → ZoneSlot) :
    s.onSlot i f = s.withSlots (s.zones.slots.set i (f (s.zones.slots.get i))) := rfl

theorem ZoneSlot.confirmed_of_stale {z : ZoneSlot} (h : z.state = .stale) :
    z.confirmed = { z with state := .inForce, revision := revisionUp z.revision } := if_pos h

theorem ZoneSlot.confirmed_of_not_stale {z : ZoneSlot} (h : z.state ≠ .stale) : z.confirmed = z := if_neg h

/-! ### An edit of the zone table as a request -/

section Edit

variable {α : Type} {q : Spec} {parse : State → List Byte → Field α} {act : α → State → Taken}
variable {s : State} {f : Frame} {x : α}

/-- What R167 says of the four edits of the zone table: from Service, with no guard and no restart. -/
def Spec.IsEdit (q : Spec) : Prop := q.service = true ∧ q.guarded = false ∧ q.restarts = false

/-- An edit that its port takes is its own part, answered, and the completion of the change. -/
theorem request_edit (edit : q.IsEdit) (takes : s.TakesEdit f) (parsed : parse (s.hunt .service) f.fields = .ok x)
    {u : Taken} (own : act x (s.hunt .service) = u) :
    (request q parse act f s).Answers .service f.tag q.code u.reply.status u.reply.reason ∧
      (u.answered q f .nothing).SameRecords (request q parse act f s) := by
  obtain ⟨mains, port, awaits, idle⟩ := takes
  obtain ⟨service, unguarded, stays⟩ := edit
  have allowed : q.allows f.port = true := by rw [port]; exact service
  have sends : q.after = .nothing := by unfold Spec.after Spec.closes; rw [stays, unguarded]; rfl
  have acts := takeRequest_unguarded (parse := parse) (s := (s.hunt .service).cabFrame .service) act allowed parsed
    (.inl (State.inHoldup_of_onMains (s := s.hunt .service) mains)) (.inr idle) unguarded
  have taken : request q parse act f s = State.settle s (u.answered q f .nothing) := by
    unfold request
    rw [port, s.frameTaken_runs _ _ mains.1 awaits, acts, sends, ← own]
    rfl
  have answers := State.settle_answers s u q f .nothing
  rw [port] at answers
  rw [taken]
  exact ⟨answers, State.settle_same s _⟩

/-- An edit that replaces slots is answered DONE, counts the epoch up and leaves every other record (R29). -/
theorem request_edit_done (edit : q.IsEdit) (takes : s.TakesEdit f) (parsed : parse (s.hunt .service) f.fields = .ok x)
    (slots : Table ZoneSlot 40) (own : act x (s.hunt .service) = ((s.hunt .service).withSlots slots).epochUp.done) :
    (request q parse act f s).Answers .service f.tag q.code .done .none ∧
      (request q parse act f s).zones.slots = slots ∧ (request q parse act f s).zones.epoch = s.zones.epoch + 1 ∧
      (request q parse act f s).zones.scrub = s.zones.scrub ∧ s.SameButZones (request q parse act f s) := by
  obtain ⟨answers, settled⟩ := request_edit edit takes parsed own
  have zones : (request q parse act f s).zones = ⟨slots, s.zones.epoch + 1, s.zones.scrub⟩ := settled.zones
  rw [zones]
  exact ⟨answers, rfl, rfl, rfl, settled.pending, settled.power, settled.clock, settled.k, settled.fitted, settled.store,
    settled.commit, settled.inputs, settled.chans, settled.supply, settled.guardLeft⟩

/-- An edit that only answers changes nothing but its port. -/
theorem request_edit_replies (edit : q.IsEdit) (takes : s.TakesEdit f)
    (parsed : parse (s.hunt .service) f.fields = .ok x) {r : Reply}
    (own : act x (s.hunt .service) = (s.hunt .service).replies r) :
    (request q parse act f s).Answers .service f.tag q.code r.status r.reason ∧
      s.SameButPorts (request q parse act f s) := by
  obtain ⟨answers, settled⟩ := request_edit edit takes parsed own
  exact ⟨answers, settled.pending, settled.power, settled.clock, settled.k, settled.fitted, settled.store, settled.commit,
    settled.inputs, settled.chans, settled.zones, settled.supply⟩

end Edit

/-- One slot replaced leaves the others. -/
theorem State.otherSlots_of_set {s t : State} {i : Fin 40} {z : ZoneSlot} (h : t.zones.slots = s.zones.slots.set i z) :
    s.OtherSlots t i := by
  intro j hj
  rw [h, Table.get_set_ne _ _ hj]

theorem State.slot_of_set {s t : State} {i : Fin 40} {z : ZoneSlot} (h : t.zones.slots = s.zones.slots.set i z) :
    t.zones.slots.get i = z := by
  rw [h, Table.get_set_self]

/-! ### WRITE ZONE (R26) -/

theorem ZoneWrite.consistent_iff (w : ZoneWrite) : w.consistent = true ↔
    w.window.base % w.window.span = 0 ∧ w.body.dragMin ≤ w.body.dragMax ∧ w.body.hoistMin ≤ w.body.hoistMax := by
  simp [ZoneWrite.consistent, and_assoc]

theorem State.walking_eq_false {s : State} (h : s.walk.state = .idle) : s.walking = false := by
  unfold State.walking
  rw [h]
  rfl

theorem ZoneSlot.not_barred {z : ZoneSlot} {w : ZoneWrite} (machine : w.body.kind = .machine) (notStale : z.state ≠ .stale)
    (notDefective : z.state ≠ .defective) (old : z.state = .inForce → z.body.kind = .machine) : z.barred w = false := by
  have notSite : z.isSiteInForce = false := by
    refine Bool.eq_false_iff.2 fun site => ?_
    obtain ⟨inForce, site⟩ := Bool.and_eq_true_iff.1 site
    have isMachine := old (of_decide_eq_true inForce)
    rw [isMachine] at site
    exact absurd site (by decide)
  simp [ZoneSlot.barred, machine, notStale, notDefective, notSite]

theorem State.writeZoneTaken_done {s : State} {w : ZoneWrite} (consistent : w.consistent = true)
    (revision : w.expected = (s.zones.slots.get w.slot).revision)
    (free : (s.walking && (s.zones.slots.get w.slot).barred w) = false) :
    s.writeZoneTaken w =
      (s.withSlots (s.zones.slots.set w.slot ((s.zones.slots.get w.slot).written w))).epochUp.done := by
  unfold State.writeZoneTaken
  dsimp only
  rw [consistent, free, if_neg (by decide), if_neg (not_not.2 revision), if_neg (by decide), State.onSlot_eq_withSlots]

/-- Settles O22: a write that is consistent, of the revision held and not barred replaces its slot, and the request is an edit
of that one slot. -/
theorem writeZoneReplacesSlot : Obligations.WriteZoneReplacesSlot := by
  intro s f w takes parsed aligned drag hoist revision walk
  have free : (s.walking && (s.zones.slots.get w.slot).barred w) = false := by
    rcases walk with idle | ⟨machine, notStale, notDefective, old⟩
    · rw [State.walking_eq_false idle, Bool.false_and]
    · rw [ZoneSlot.not_barred machine notStale notDefective old, Bool.and_false]
  have own := State.writeZoneTaken_done (s := s.hunt .service) (w.consistent_iff.2 ⟨aligned, drag, hoist⟩) revision free
  obtain ⟨answers, slots, epoch, scrub, frame⟩ := request_edit_done (q := writeZoneSpec) (parse := parseWriteZone)
    (act := fun w t => t.writeZoneTaken w) ⟨rfl, rfl, rfl⟩ takes parsed
    (s.zones.slots.set w.slot ((s.zones.slots.get w.slot).written w)) own
  refine ⟨_, rfl, answers, ?_⟩
  rw [State.slot_of_set slots]
  exact ⟨rfl, rfl, rfl, rfl, revisionUp_countedUp _, epoch, scrub, State.otherSlots_of_set slots, frame⟩

/-! ### RETIRE ZONE and CONFIRM ZONES (R27, R28) -/

theorem State.retireZoneTaken_done {s : State} {i : Fin 40} {r : BitVec 16} (held : (s.zones.slots.get i).state ≠ .empty)
    (revision : r = (s.zones.slots.get i).revision) :
    s.retireZoneTaken (i, r) = (s.withSlots (s.zones.slots.set i ZoneSlot.empty)).epochUp.done := by
  unfold State.retireZoneTaken
  rw [if_neg held, if_neg (not_not.2 revision), State.onSlot_eq_withSlots]

theorem State.retireZoneTaken_empty {s : State} {i : Fin 40} (empty : (s.zones.slots.get i).state = .empty)
    (r : BitVec 16) : s.retireZoneTaken (i, r) = s.replies (Reply.of .noRecord) := if_pos empty

theorem State.retireZoneTaken_other {s : State} {i : Fin 40} {r : BitVec 16} (held : (s.zones.slots.get i).state ≠ .empty)
    (revision : r ≠ (s.zones.slots.get i).revision) : s.retireZoneTaken (i, r) = s.replies (Reply.of .stale) := by
  unfold State.retireZoneTaken
  rw [if_neg held, if_pos revision]

theorem revisionDiffers_eq_false {expected : Option (BitVec 16)} {r : BitVec 16} (h : ∀ e, expected = some e → e = r) :
    revisionDiffers expected r = false := by
  cases expected with
  | none => rfl
  | some e => exact decide_eq_false (not_not.2 (h e rfl))

theorem State.confirmTaken_one {s : State} {i : Fin 40} {e : Option (BitVec 16)} (idle : s.walk.state = .idle)
    (stale : (s.zones.slots.get i).state = .stale) (revision : ∀ r, e = some r → r = (s.zones.slots.get i).revision) :
    s.confirmTaken (some (i, e)) =
      (s.withSlots (s.zones.slots.set i (s.zones.slots.get i).confirmed)).epochUp.done := by
  unfold State.confirmTaken
  rw [State.walking_eq_false idle, if_neg (by decide)]
  show s.confirmOne i e = _
  unfold State.confirmOne
  rw [if_neg (not_not.2 stale), revisionDiffers_eq_false revision, if_neg (by decide), State.onSlot_eq_withSlots]

theorem State.confirmTaken_all {s : State} (idle : s.walk.state = .idle)
    (stale : ∃ i : Fin 40, (s.zones.slots.get i).state = .stale) :
    s.confirmTaken none = (s.withSlots (s.zones.slots.map ZoneSlot.confirmed)).epochUp.done := by
  unfold State.confirmTaken
  rw [State.walking_eq_false idle, if_neg (by decide)]
  exact if_pos (s.anyStale_iff.2 stale)

/-- Settles O23: each answer of the two requests is its own part's, taken through `request_edit_done` or
`request_edit_replies`. -/
theorem retireAndConfirmZones : Obligations.RetireAndConfirmZones := by
  refine ⟨fun s f i r takes parsed => ⟨fun held revision => ?_, fun empty => ?_, fun held revision => ?_⟩,
    fun s f takes idle => ⟨fun i r parsed stale revision => ?_, fun parsed stale => ?_⟩⟩
  · have own := State.retireZoneTaken_done (s := s.hunt .service) held revision
    obtain ⟨answers, slots, epoch, scrub, frame⟩ := request_edit_done (q := retireZoneSpec) (parse := parseRetireZone)
      (act := fun x t => t.retireZoneTaken x) ⟨rfl, rfl, rfl⟩ takes parsed (s.zones.slots.set i ZoneSlot.empty) own
    exact ⟨_, rfl, answers, State.slot_of_set slots, epoch, State.otherSlots_of_set slots, scrub, frame⟩
  · exact ⟨_, rfl, request_edit_replies (q := retireZoneSpec) (parse := parseRetireZone)
      (act := fun x t => t.retireZoneTaken x) ⟨rfl, rfl, rfl⟩ takes parsed
      (State.retireZoneTaken_empty (s := s.hunt .service) empty r)⟩
  · exact ⟨_, rfl, request_edit_replies (q := retireZoneSpec) (parse := parseRetireZone)
      (act := fun x t => t.retireZoneTaken x) ⟨rfl, rfl, rfl⟩ takes parsed
      (State.retireZoneTaken_other (s := s.hunt .service) held revision)⟩
  · have own := State.confirmTaken_one (s := s.hunt .service) idle stale revision
    obtain ⟨answers, slots, epoch, -, frame⟩ := request_edit_done (q := confirmZonesSpec) (parse := parseConfirmZones)
      (act := fun x t => t.confirmTaken x) ⟨rfl, rfl, rfl⟩ takes parsed
      (s.zones.slots.set i (s.zones.slots.get i).confirmed) own
    refine ⟨_, rfl, answers, ?_⟩
    rw [State.slot_of_set slots, ZoneSlot.confirmed_of_stale stale]
    exact ⟨rfl, rfl, rfl, revisionUp_countedUp _, epoch, State.otherSlots_of_set slots, frame⟩
  · have own := State.confirmTaken_all (s := s.hunt .service) idle stale
    obtain ⟨answers, slots, epoch, -, frame⟩ := request_edit_done (q := confirmZonesSpec) (parse := parseConfirmZones)
      (act := fun x t => t.confirmTaken x) ⟨rfl, rfl, rfl⟩ takes parsed (s.zones.slots.map ZoneSlot.confirmed) own
    refine ⟨_, rfl, answers, fun i => ?_, epoch, frame⟩
    rw [slots, Table.get_map]
    refine ⟨fun stale => ?_, ZoneSlot.confirmed_of_not_stale⟩
    rw [ZoneSlot.confirmed_of_stale stale]
    exact ⟨rfl, rfl, revisionUp_countedUp _⟩

/-! ### The scrub's visit (R32–R35) -/

/-- What a check leaves of the zone table: the other slots, and the epoch but where the slot becomes DEFECTIVE. -/
theorem State.checkBody_zones (s : State) (i : Fin 40) : (s.checkBody i).zones =
    ⟨s.zones.slots.set i (s.zones.slots.get i).checked,
      if (s.zones.slots.get i).failsCheck then s.zones.epoch + 1 else s.zones.epoch, s.zones.scrub⟩ := by
  rw [(s.checkBody_same i).zones]
  unfold State.tableChecked
  split <;> rfl

/-- A check leaves the channels, the constants, the ports and the inputs. -/
theorem State.checkBody_frame (s : State) (i : Fin 40) : (s.checkBody i).chans = s.chans ∧ (s.checkBody i).k = s.k ∧
    (s.checkBody i).ports = s.ports ∧ (s.checkBody i).inputs = s.inputs := by
  have same := s.checkBody_same i
  rw [same.chans, same.k, same.ports, same.inputs]
  unfold State.tableChecked
  split <;> exact ⟨rfl, rfl, rfl, rfl⟩

/-- Settles O24: the visit is one check, and each state and fault of the slot has its own form of it. -/
theorem scrubChecksOneBody : Obligations.ScrubChecksOneBody := by
  intro s runs
  let u := (s.checkBody s.zones.scrub).scrubOn
  have visited : exec (.scrubVisit []) s = .next (State.settle s u) :=
    congrArg Host.Outcome.next (s.event_runs _ runs)
  have settled := State.settle_same s u
  have zones : (State.settle s u).zones = ⟨s.zones.slots.set s.zones.scrub (s.zones.slots.get s.zones.scrub).checked,
      if (s.zones.slots.get s.zones.scrub).failsCheck then s.zones.epoch + 1 else s.zones.epoch, s.zones.scrub + 1⟩ := by
    rw [settled.zones]
    show { (s.checkBody s.zones.scrub).zones with scrub := (s.checkBody s.zones.scrub).zones.scrub + 1 } = _
    rw [State.checkBody_zones]
  have slots := congrArg ZoneTable.slots zones
  obtain ⟨chans, k, ports, inputs⟩ := s.checkBody_frame s.zones.scrub
  refine ⟨_, visited, congrArg ZoneTable.scrub zones, State.otherSlots_of_set slots, ?_, settled.chans.trans chans,
    settled.k.trans k, settled.ports.trans ports, settled.inputs.trans inputs⟩
  dsimp only
  rw [State.slot_of_set slots, congrArg ZoneTable.epoch zones]
  refine ⟨fun held => ⟨fun sound => ?_, fun single => ?_, fun broken => ?_⟩, fun defective => ?_, fun empty => ?_⟩
  · obtain ⟨slot, passes⟩ := ZoneSlot.checked_sound held sound
    exact ⟨slot, by rw [passes]; rfl⟩
  · obtain ⟨slot, passes⟩ := ZoneSlot.checked_single held single
    exact ⟨slot, by rw [passes]; rfl⟩
  · obtain ⟨slot, fails⟩ := ZoneSlot.checked_uncorrectable held broken
    exact ⟨slot, by rw [fails]; rfl⟩
  · obtain ⟨slot, passes⟩ := ZoneSlot.checked_defective defective
    exact ⟨slot, by rw [passes]; rfl⟩
  · obtain ⟨slot, passes⟩ := ZoneSlot.checked_empty empty
    exact ⟨slot, by rw [passes]; rfl⟩

end Sys2Proof.Machine
end

section
/-! SUPPORT. The resolver through the end of a change (03 R38–R43): every other part of a completion leaves the resolver's
record, so that a completed change on mains leaves it as its two keys and their lookups make it. -/

namespace Sys2Proof.Machine

/-! ### What leaves the resolver -/

/-- The resolver's record is the same. -/
structure State.SameRes (s t : State) : Prop where
  res : t.res = s.res

theorem State.SameRes.refl (s : State) : s.SameRes s := ⟨rfl⟩

theorem State.SameRes.trans {s t u : State} (h : s.SameRes t) (g : t.SameRes u) : s.SameRes u := ⟨g.res.trans h.res⟩

theorem State.SameRes.ite {s t u : State} {p : Prop} [Decidable p] (ht : s.SameRes t) (hu : s.SameRes u) :
    s.SameRes (if p then t else u) := by
  split
  exacts [ht, hu]

theorem State.SameRes.foldl {α : Type} {f : State → α → State} (h : ∀ (s : State) (a : α), s.SameRes (f s a))
    (l : List α) (s : State) : s.SameRes (l.foldl f s) := by
  induction l generalizing s with
  | nil => exact .refl s
  | cons a l ih => exact (h s a).trans (ih (f s a))

theorem State.onMotion_sameRes (s : State) (m : Dig) (f : MotionRec → MotionRec) : s.SameRes (s.onMotion m f) := ⟨rfl⟩

theorem State.onWalk_sameRes (s : State) (f : WalkRec → WalkRec) : s.SameRes (s.onWalk f) := ⟨rfl⟩

theorem State.onGens_sameRes (s : State) (f : PerMotion Bool → Gen → Gen) : s.SameRes (s.onGens f) := ⟨rfl⟩

theorem State.withArb_sameRes (s : State) (x : Arbiter) : s.SameRes { s with arb := x } := ⟨rfl⟩

theorem State.withAlarms_sameRes (s : State) (x : Alarms) : s.SameRes { s with alarms := x } := ⟨rfl⟩

/-! #### Raises and clears -/

theorem State.clearCondition_sameRes (s : State) (key : AlarmKey) : s.SameRes (s.clearCondition key) :=
  (s.withAlarms_sameRes _).ite (.refl s)

theorem State.conditionActs_sameRes (s : State) (before : Alarms) (key : AlarmKey) :
    s.SameRes (s.conditionActs before key) := by
  unfold State.conditionActs
  dsimp only
  split
  · split <;> exact ⟨rfl⟩
  · unfold State.cabLinkHalts
    split <;> exact ⟨rfl⟩
  · exact .refl s
  · exact .refl s

theorem State.raiseCondition_sameRes (s : State) (key : AlarmKey) : s.SameRes (s.raiseCondition key) :=
  (State.SameRes.refl s).ite
    ((s.withAlarms_sameRes _).ite ((s.withAlarms_sameRes _).trans (State.conditionActs_sameRes _ _ _)))

theorem State.setCondition_sameRes (s : State) (key : AlarmKey) (truth : Bool) : s.SameRes (s.setCondition key truth) :=
  (s.raiseCondition_sameRes key).ite (s.clearCondition_sameRes key)

theorem State.syncChannels_sameRes (s : State) : s.SameRes s.syncChannels :=
  ((State.SameRes.foldl (fun s _ => (State.SameRes.refl s).ite (s.clearCondition_sameRes _)) _ s).trans
    (.foldl (fun s _ => s.setCondition_sameRes _ _) _ _)).trans (.foldl (fun s _ => s.setCondition_sameRes _ _) _ _)

theorem State.gensReport_sameRes (s : State) : s.SameRes s.gensReport :=
  ((State.SameRes.foldl (fun s _ => s.setCondition_sameRes _ _) _ s).trans
    (.foldl (fun s _ => s.setCondition_sameRes _ _) _ _)).trans (.foldl (fun s _ => s.setCondition_sameRes _ _) _ _)

theorem State.syncZones_sameRes (s : State) : s.SameRes s.syncZones := by
  unfold State.syncZones
  exact (State.SameRes.foldl (fun s _ => s.setCondition_sameRes _ _) _ s).trans (State.setCondition_sameRes _ _ _)

theorem State.syncConditions_sameRes (s : State) : s.SameRes s.syncConditions :=
  (s.syncChannels_sameRes.trans ((State.SameRes.refl _).ite (State.gensReport_sameRes _))).trans (State.syncZones_sameRes _)

/-! #### The motions and the walk -/

theorem State.endHold_sameRes (s : State) (m : Dig) : s.SameRes (s.endHold m) :=
  (s.onGens_sameRes _).trans (State.onMotion_sameRes _ _ _)

theorem State.beginHold_sameRes (s : State) (m : Dig) : s.SameRes (s.beginHold m) :=
  (s.onMotion_sameRes _ _).ite ((s.endHold_sameRes m).ite (s.onMotion_sameRes _ _))

theorem State.proofPass_sameRes (s : State) (m : Dig) : s.SameRes (s.proofPass m) := by
  unfold State.proofPass
  dsimp only
  split
  · exact (State.SameRes.refl s).ite ((s.onMotion_sameRes _ _).trans (State.clearCondition_sameRes _ _))
  · exact (s.onMotion_sameRes _ _).ite (.refl s)
  · exact .refl s
  · exact .refl s

theorem State.restPass_sameRes (s : State) (m : Dig) : s.SameRes (s.restPass m) :=
  ((s.onMotion_sameRes _ _).ite ((s.beginHold_sameRes m).ite ((s.onGens_sameRes _).ite (.refl s)))).ite (.refl s)

theorem State.motionPass_sameRes (s : State) (m : Dig) : s.SameRes (s.motionPass m) :=
  ((((s.onMotion_sameRes _ _).trans (State.onMotion_sameRes _ _ _)).trans (State.onMotion_sameRes _ _ _)).trans
    (State.proofPass_sameRes _ _)).trans (State.restPass_sameRes _ _)

theorem State.walkProofPass_sameRes (s : State) : s.SameRes s.walkProofPass := by
  unfold State.walkProofPass
  split
  · exact (State.SameRes.refl s).ite ((s.onWalk_sameRes _).trans (State.clearCondition_sameRes _ _))
  · exact (s.onWalk_sameRes _).ite (.refl s)
  · exact .refl s
  · exact .refl s

theorem State.walkFinish_sameRes (s : State) (o : WalkOutcome) : s.SameRes (s.walkFinish o) := ⟨rfl⟩

theorem State.walkRestPass_sameRes (s : State) : s.SameRes s.walkRestPass := by
  unfold State.walkRestPass
  dsimp only
  refine State.SameRes.ite ?_ (.refl s)
  split
  · exact s.walkFinish_sameRes _
  · refine (s.onGens_sameRes _).ite (State.SameRes.ite ?_ ((s.onWalk_sameRes _).ite (.refl s)))
    split
    exacts [.refl s, s.onWalk_sameRes _]

theorem State.motionsPass_sameRes (s : State) : s.SameRes s.motionsPass :=
  ((s.motionPass_sameRes _).trans (State.motionPass_sameRes _ _)).trans (State.motionPass_sameRes _ _)

theorem State.walkPass_sameRes (s : State) : s.SameRes s.walkPass :=
  ((s.onWalk_sameRes _).trans (State.walkProofPass_sameRes _)).trans (State.walkRestPass_sameRes _)

theorem State.passes_sameRes (s : State) : s.SameRes s.passes :=
  s.motionsPass_sameRes.trans (State.walkPass_sameRes _)

/-! #### The arbiter -/

theorem State.claimsFollowOf_sameRes (s : State) (m : Motion) : s.SameRes (s.claimsFollowOf m) :=
  (s.onGens_sameRes _).ite ((s.onGens_sameRes _).ite (.refl s))

theorem State.claimsFollow_sameRes (s : State) : s.SameRes s.claimsFollow := .foldl State.claimsFollowOf_sameRes _ s

theorem State.prune_sameRes (s : State) : s.SameRes s.prune := s.claimsFollow_sameRes.trans (State.withArb_sameRes _ _)

theorem State.joins_sameRes (s : State) : s.SameRes s.joins :=
  .foldl (fun s _ => (s.withArb_sameRes _).ite (.refl s)) _ s

theorem State.grantTo_sameRes (s : State) (m : Motion) (counted : Option Motion) (count : Nat) (i : Fin 12) :
    s.SameRes (s.grantTo m counted count i) := by
  have handed : s.SameRes (s.onGen i (handOver s.k (s.proofs i) m (s.arb.handed + 1))) := ⟨rfl⟩
  exact (handed.trans (State.withArb_sameRes _ _)).trans (State.prune_sameRes _)

theorem State.grantOne_sameRes {s t : State} (h : s.grantOne = some t) : s.SameRes t := by
  unfold State.grantOne at h
  split at h
  · cases h
  · split at h
    · cases h
    · cases h
      exact s.grantTo_sameRes _ _ _ _

theorem State.grantLoop_sameRes (n : Nat) (s : State) : s.SameRes (State.grantLoop n s) := by
  induction n generalizing s with
  | zero => exact .refl s
  | succ n ih =>
    unfold State.grantLoop
    split
    · exact .refl s
    · next t granted => exact (State.grantOne_sameRes granted).trans (ih t)

theorem State.recallHolds_sameRes (n : Nat) (s : State) : s.SameRes (State.recallHolds n s) := by
  induction n generalizing s with
  | zero => exact .refl s
  | succ n ih =>
    unfold State.recallHolds
    split
    · exact .refl s
    · exact (s.endHold_sameRes _).ite ((s.endHold_sameRes _).trans (ih _))

theorem State.arbRun_sameRes (n : Nat) (s : State) : s.SameRes (State.arbRun n s) := by
  induction n generalizing s with
  | zero => exact .refl s
  | succ n ih =>
    have recalled (t : State) : t.SameRes t.recall := (State.recallHolds_sameRes 3 t).ite (.refl t)
    exact ((State.grantLoop_sameRes 12 s).trans ((recalled _).trans (ih _))).ite (State.grantLoop_sameRes 12 s)

theorem State.arbitrate_sameRes (s0 s : State) : s.SameRes (State.arbitrate s0 s) := by
  have listed : s.SameRes s.prune.joins := s.prune_sameRes.trans (State.joins_sameRes _)
  exact ((listed.trans (State.arbRun_sameRes 4 _)).trans (State.prune_sameRes _)).ite listed

theorem State.starvedSync_sameRes (s : State) : s.SameRes s.starvedSync :=
  .foldl (fun s _ => (State.SameRes.refl s).ite (s.clearCondition_sameRes _)) _ s

/-! ### The end of a change on mains -/

theorem State.compose_sameRes (s : State) : s.SameRes s.compose := ⟨rfl⟩

theorem State.settleInRun_sameRes (s0 s : State) : s.syncConditions.resolverFollow.SameRes (State.settleInRun s0 s) :=
  ((((State.passes_sameRes _).trans (State.arbitrate_sameRes s0 _)).trans (State.passes_sameRes _)).trans
    (State.starvedSync_sameRes _)).trans (State.compose_sameRes _)

theorem State.settle_onMains (s0 : State) {s : State} (mains : s.OnMains) :
    State.settle s0 s = State.settleInRun s0 s := by
  unfold State.settle
  rw [mains.1]
  exact if_neg (by rw [State.inHoldup_of_onMains mains]; decide)

/-- The resolver once it has followed its path: the cell path with a lookahead need, or the unreferenced path (R38, R39,
R41). -/
def State.pathFollowed (s : State) (need : Option (Dir × CellKey)) : Resolver :=
  if s.onCellPath then s.res.onCell s.zones.epoch s.presentKey need else s.res.unreferenced s.k

/-- A change completed on mains leaves the resolver as its path makes it, with the next head of the queue taken. The
lookahead need is that of the motions as the raises of the completion leave them. -/
theorem State.settle_res (s0 : State) {s : State} (mains : s.OnMains) :
    ∃ need, (State.settle s0 s).res = (s.pathFollowed need).started s.zones.epoch := by
  have synced := s.syncConditions_same
  have inRun : s.syncConditions.OnMains := ⟨synced.power.trans mains.1, by rw [synced.supply]; exact mains.2⟩
  refine ⟨s.syncConditions.neededLook, ?_⟩
  rw [State.settle_onMains s0 mains, (State.settleInRun_sameRes s0 s).res, State.resolverFollow_res,
    State.inHoldup_of_onMains inRun, if_neg (by decide)]
  unfold State.followedInRun State.pathFollowed State.onCellPath State.referenced State.presentKey State.keyAtAngle
    State.swingAngle
  rw [s.syncConditions_sameRes.res, synced.chans, synced.k, synced.zones]

end Sys2Proof.Machine
end

section
/-! SUPPORT. The end of a resolution (03 R44, R45) and FLUSH CACHE (R47): what the lookups of a completed change leave of the
permissions in force, of the resolution in flight and of an emptied cache. -/

namespace Sys2Proof.Machine

/-! ### The queue and the lookups (R40–R43) -/

theorem Resolver.offer_eq (r : Resolver) (key : CellKey) : ∃ queue, r.offer key = { r with queue := queue } := by
  unfold Resolver.offer
  split
  · exact ⟨_, rfl⟩
  · split <;> exact ⟨_, rfl⟩

theorem Resolver.offer_cache (r : Resolver) (key : CellKey) : (r.offer key).cache = r.cache := by
  obtain ⟨queue, offered⟩ := r.offer_eq key
  rw [offered]

theorem Resolver.started_eq (r : Resolver) (epoch : BitVec 16) :
    ∃ queue inFlight, r.started epoch = { r with queue := queue, inFlight := inFlight } := by
  unfold Resolver.started
  split
  · exact ⟨_, _, rfl⟩
  · split <;> exact ⟨_, _, rfl⟩

theorem Resolver.started_force (r : Resolver) (epoch : BitVec 16) : (r.started epoch).force = r.force := by
  obtain ⟨queue, inFlight, taken⟩ := r.started_eq epoch
  rw [taken]

theorem Resolver.started_cache (r : Resolver) (epoch : BitVec 16) : (r.started epoch).cache = r.cache := by
  obtain ⟨queue, inFlight, taken⟩ := r.started_eq epoch
  rw [taken]

theorem Resolver.started_busy {r : Resolver} {f : InFlight} (busy : r.inFlight = some f) (epoch : BitVec 16) :
    r.started epoch = r := by
  unfold Resolver.started
  rw [busy]

theorem Resolver.lookAhead_eq (r : Resolver) (epoch : BitVec 16) (key : CellKey) (d : Dir) :
    ∃ cache look queue, r.lookAhead epoch key d = { r with cache := cache, look := look, queue := queue } := by
  unfold Resolver.lookAhead
  split
  · exact ⟨_, _, _, rfl⟩
  · split
    · split <;> exact ⟨_, _, _, rfl⟩
    · obtain ⟨queue, offered⟩ := Resolver.offer_eq { r with look := r.look.missed epoch d } key
      exact ⟨_, _, queue, offered⟩

/-- The lookahead's part of a change touches neither the permissions in force nor the resolution in flight (R41). -/
theorem Resolver.lookFormed_eq (r : Resolver) (old : Option CellKey) (epoch : BitVec 16) (need : Option (Dir × CellKey)) :
    ∃ cache look queue lookKey, r.lookFormed old epoch need =
      { r with cache := cache, look := look, queue := queue, lookKey := lookKey } := by
  unfold Resolver.lookFormed
  split
  · exact ⟨_, _, _, _, rfl⟩
  · split
    · exact ⟨_, _, _, _, rfl⟩
    · next d key _ =>
      obtain ⟨cache, look, queue, looked⟩ := r.lookAhead_eq epoch key d
      exact ⟨cache, look, queue, _, looked⟩

/-- A current key that has not changed is not looked up again (R39, R40). -/
theorem Resolver.onCell_sameKey {r : Resolver} {key : CellKey} (same : r.currentKey = some key) (epoch : BitVec 16)
    (need : Option (Dir × CellKey)) :
    (r.onCell epoch key need).force = r.force ∧ (r.onCell epoch key need).inFlight = r.inFlight := by
  let formed : Resolver := { r with currentKey := some key, lookKey := need.map Prod.snd }
  have current : formed.currentFormed r.currentKey epoch key = formed := if_pos same
  obtain ⟨cache, look, queue, lookKey, looked⟩ := formed.lookFormed_eq r.lookKey epoch need
  have followed : r.onCell epoch key need = _ := (congrArg (·.lookFormed r.lookKey epoch need) current).trans looked
  rw [followed]
  exact ⟨rfl, rfl⟩

/-- A change completed on the cell path with the current key unchanged leaves the permissions in force, and a resolution in
flight goes on. -/
theorem State.settle_sameKey (s0 : State) {s : State} (mains : s.OnMains) (cell : s.onCellPath = true)
    (same : s.res.currentKey = some s.presentKey) : (State.settle s0 s).res.force = s.res.force ∧
      ∀ f, s.res.inFlight = some f → (State.settle s0 s).res.inFlight = some f := by
  obtain ⟨need, settled⟩ := State.settle_res s0 mains
  obtain ⟨force, inFlight⟩ := Resolver.onCell_sameKey same s.zones.epoch need
  have path : s.pathFollowed need = s.res.onCell s.zones.epoch s.presentKey need := if_pos cell
  rw [settled, path]
  refine ⟨(Resolver.started_force _ _).trans force, fun f busy => ?_⟩
  rw [Resolver.started_busy (inFlight.trans busy)]
  exact inFlight.trans busy

/-! ### The end of a resolution (R43–R45) -/

/-- The check of a sound body changes nothing (R32). -/
theorem State.checkBody_sound {s : State} (sound : s.BodiesSound) (i : Fin 40) : s.checkBody i = s := by
  obtain ⟨fault, cleared⟩ := sound i
  have held : s.checkHeld i = s := by
    unfold State.checkHeld
    rw [fault]
  unfold State.checkBody
  split
  · next empty =>
    refine State.onSlot_self ?_
    unfold ZoneSlot.rewritten
    rw [← cleared empty, ← fault]
  · rfl
  · exact held
  · exact held

theorem State.checkAll_sound {s : State} (sound : s.BodiesSound) : s.checkAll = s :=
  List.foldl_fixed' (State.checkBody_sound sound) slotsAll

/-- With sound bodies a resolution's end is the comparison of the epochs alone. -/
theorem State.resolutionEnds_sound {s : State} {f : InFlight} (sound : s.BodiesSound) (flies : s.res.inFlight = some f) :
    s.resolutionEnds = s.compareEpoch f := by
  unfold State.resolutionEnds
  rw [flies]
  exact congrArg (State.compareEpoch · f) (State.checkAll_sound sound)

/-- A good result for the current key is in force for it (R44). -/
theorem Resolver.completed_current {r : Resolver} {key : CellKey} (current : r.currentKey = some key) (epoch : BitVec 16)
    (x : Result) : (r.completed key epoch x).force = ⟨x.codes, .cell, some key, some epoch⟩ ∧
      (r.completed key epoch x).currentKey = some key := by
  let entered : Resolver := { r with cache := cacheEnter r.cache epoch ⟨key, x, epoch⟩, inFlight := none }
  have put : entered.putCurrent key epoch x = { entered with force := ⟨x.codes, .cell, some key, some epoch⟩ } :=
    if_pos current
  obtain ⟨queue, inFlight, taken⟩ := ((entered.putCurrent key epoch x).putLook key epoch x).started_eq epoch
  have completed : r.completed key epoch x = _ := taken
  rw [completed, put]
  unfold Resolver.putLook
  split <;> exact ⟨rfl, current⟩

/-- A result of an older epoch has its key, where it is still needed, resolved again (R45). -/
theorem Resolver.redone_current {r : Resolver} {key : CellKey} (current : r.currentKey = some key) (epoch : BitVec 16) :
    r.redone key epoch = { r with inFlight := some ⟨key, epoch⟩ } := by
  have needed : r.needs key = true := by
    unfold Resolver.needs
    rw [decide_eq_true current, Bool.true_or]
  exact if_pos needed

/-- Settles O25: with sound bodies the event is the comparison of the epochs, and the completion makes no lookup for a
current key that stays. -/
theorem resolutionEndPutsInForce : Obligations.ResolutionEndPutsInForce := by
  intro s f mains sound flies cell current present
  have ended : exec .resolutionEnd s = .next (State.settle s (s.compareEpoch f)) := by
    show Host.Outcome.next (s.event State.resolutionEnds) = _
    rw [s.event_runs _ mains.1, State.resolutionEnds_sound sound flies]
  have frame : s.SameRecords (State.settle s (s.compareEpoch f)) := (s.withRes_same _).trans (State.settle_same s _)
  have settled (same : (s.compareEpoch f).res.currentKey = some f.key) :=
    State.settle_sameKey s (s := s.compareEpoch f) mains cell (same.trans (congrArg some present.symm))
  refine ⟨fun epoch => ⟨_, ended, ?_, frame⟩, fun epoch => ⟨_, ended, ?_⟩⟩
  · have result : (s.compareEpoch f).res = s.res.completed f.key s.zones.epoch (s.resolved f.key) := if_pos epoch
    obtain ⟨force, key⟩ := Resolver.completed_current current s.zones.epoch (s.resolved f.key)
    rw [(settled (by rw [result, key])).1, result, force]
    rfl
  · have result : (s.compareEpoch f).res = { s.res with inFlight := some ⟨f.key, s.zones.epoch⟩ } :=
      (if_neg epoch).trans (Resolver.redone_current current _)
    obtain ⟨force, goesOn⟩ := settled (by rw [result]; exact current)
    exact ⟨goesOn _ (by rw [result]), force.trans (by rw [result]), frame⟩

/-! ### FLUSH CACHE (R47) -/

/-- No entry of the cache is valid. -/
def NoneValid (t : Table CacheEntry 16) : Prop := ∀ e ∈ t.cells, e.valid = false

theorem noneValid_cacheInvalidated (t : Table CacheEntry 16) : NoneValid (cacheInvalidated t) := by
  intro e mem
  obtain ⟨old, -, rfl⟩ := List.mem_map.1 mem
  rfl

/-- No lookup hits an emptied cache (R46). -/
theorem NoneValid.cacheFind {t : Table CacheEntry 16} (h : NoneValid t) (epoch : BitVec 16) (key : CellKey) :
    cacheFind t epoch key = none := by
  refine List.findIdx?_eq_none_iff.2 fun e mem => ?_
  unfold CacheEntry.hits CacheEntry.isValid
  rw [h e mem, Bool.false_and, Bool.false_and]

theorem Resolver.lookCurrent_noneValid {r : Resolver} (h : NoneValid r.cache) (epoch : BitVec 16) (key : CellKey) :
    (r.lookCurrent epoch key).cache = r.cache := by
  unfold Resolver.lookCurrent
  rw [h.cacheFind]
  exact Resolver.offer_cache _ _

theorem Resolver.lookAhead_noneValid {r : Resolver} (h : NoneValid r.cache) (epoch : BitVec 16) (key : CellKey) (d : Dir) :
    (r.lookAhead epoch key d).cache = r.cache := by
  unfold Resolver.lookAhead
  rw [h.cacheFind]
  split
  · rfl
  · exact Resolver.offer_cache _ _

/-- The cell path fills and touches no entry of an emptied cache (R40, R41, R46). -/
theorem Resolver.onCell_noneValid {r : Resolver} (h : NoneValid r.cache) (epoch : BitVec 16) (key : CellKey)
    (need : Option (Dir × CellKey)) : (r.onCell epoch key need).cache = r.cache := by
  let formed : Resolver := { r with currentKey := some key, lookKey := need.map Prod.snd }
  have current : (formed.currentFormed r.currentKey epoch key).cache = r.cache := by
    unfold Resolver.currentFormed
    split
    exacts [rfl, Resolver.lookCurrent_noneValid (r := formed) h epoch key]
  have looked (c : Resolver) (hc : NoneValid c.cache) : (c.lookFormed r.lookKey epoch need).cache = c.cache := by
    unfold Resolver.lookFormed
    split
    · rfl
    · split
      exacts [rfl, Resolver.lookAhead_noneValid hc epoch _ _]
  exact (looked _ (by rw [current]; exact h)).trans current

/-- A change completed on mains with an emptied cache leaves it so. -/
theorem State.settle_noneValid (s0 : State) {s : State} (mains : s.OnMains) (h : NoneValid s.res.cache) :
    NoneValid (State.settle s0 s).res.cache := by
  obtain ⟨need, settled⟩ := State.settle_res s0 mains
  have path : (s.pathFollowed need).cache = s.res.cache := by
    unfold State.pathFollowed
    split
    exacts [Resolver.onCell_noneValid h _ _ _, rfl]
  rw [settled, Resolver.started_cache, path]
  exact h

/-- A FLUSH CACHE that its port takes is the cache emptied, answered, and the completion of the change. -/
theorem exec_flushCache_taken {s : State} {f : Frame} (takes : s.TakesEdit f) (fields : f.fields = []) :
    exec (.flushCache f) s = .next (State.settle s ((s.hunt .service).flushed.done.answered flushCacheSpec f .nothing)) := by
  obtain ⟨mains, port, awaits, idle⟩ := takes
  have taken := takeRequest_unguarded (q := flushCacheSpec) (parse := parseNothing) (x := ())
    (s := (s.hunt .service).cabFrame .service) (fun _ t => t.flushed.done) (by rw [port]; rfl) (by rw [fields]; rfl)
    (.inl (State.inHoldup_of_onMains (s := s.hunt .service) mains)) (.inr idle) rfl
  show Host.Outcome.next (s.frameTaken f.port _) = _
  rw [port, s.frameTaken_runs _ _ mains.1 awaits, taken]
  rfl

/-- Settles O26: the request empties the cache, and the lookups of its completion find nothing in an emptied cache. -/
theorem flushCacheInvalidates : Obligations.FlushCacheInvalidates := by
  intro s f takes fields
  let u := (s.hunt .service).flushed.done.answered flushCacheSpec f .nothing
  have answers := State.settle_answers s (s.hunt .service).flushed.done flushCacheSpec f .nothing
  rw [takes.2.1] at answers
  have settled := State.settle_same s u
  refine ⟨_, exec_flushCache_taken takes fields, answers,
    State.settle_noneValid s (s := u) takes.1 (noneValid_cacheInvalidated s.res.cache), settled.zones, ?_⟩
  exact ⟨settled.pending, settled.power, settled.clock, settled.k, settled.fitted, settled.store, settled.commit,
    settled.inputs, settled.chans, settled.supply, settled.guardLeft⟩

end Sys2Proof.Machine
end

section
/-! SUPPORT. A part whose mains return while a TRIPPED motion has a release hold (05 R82, 06 R100, 09 R158): no lawful motion
record has one, but the end of the change recalls it like any other hold, and the motion becomes IDLE. -/

namespace Sys2Proof.Machine

/-- MAINS_RETURN of a part in HOLDUP is the holdup return, and the completion of the change (R158). -/
theorem exec_mainsReturn_onBackup {s : State} (backup : s.OnBackup) : exec .mainsReturn s =
    .next (State.settle s { s with inputs := { s.inputs with mains := true } }.holdupReturn) := by
  have holdup : ({ s with inputs := { s.inputs with mains := true } } : State).inHoldup = true := decide_eq_true backup.2
  show Host.Outcome.next (s.levelEvent _ _) = _
  rw [s.levelEvent_runs _ _ backup.1, if_pos holdup]

/-- A part in HOLDUP without a generator: HOIST is TRIPPED and its release hold has begun, and DRAG waits for its
complement. -/
def State.heldInTrip : State :=
  { State.reset with
    inputs := { Inputs.atRest with mains := false }
    supply := ⟨.holdup, some 0, none, true⟩
    gens := Table.const 12 ⟨.noRecord, 0⟩
    motions :=
      ⟨{ MotionRec.cold with state := .tripped, tripCause := some supplyLost, holdStart := some 0 },
        { MotionRec.cold with state := .acquiring, demand := some .plus }, MotionRec.cold⟩ }

/-- DRAG joins the waiting list of the returned part, no generator is coming, and the recall test ends the one hold there is
(R82). -/
theorem heldInTrip_returned :
    ((State.settle State.heldInTrip
      { State.heldInTrip with inputs := { State.heldInTrip.inputs with mains := true } }.holdupReturn).motions.get
        .hoist).state = .idle := by decide +kernel

/-- Refutes O51: the recall of the completion ends the release hold of the TRIPPED motion, which does not stay TRIPPED. The
statement asks for no lawful motion records (`State.MotionsLawful`), under which no TRIPPED motion has a hold. -/
theorem not_holdupEnds : ¬ Obligations.HoldupEnds := by
  rintro ⟨returns, -⟩
  have backup : State.heldInTrip.OnBackup := ⟨rfl, rfl⟩
  obtain ⟨t, u, taken, -, -, -, -, -, -, -, -, -, -, -, -, -, -, stays, -⟩ := returns State.heldInTrip backup
  obtain rfl := Host.Outcome.next.inj ((exec_mainsReturn_onBackup backup).symm.trans taken)
  have tripped := stays .hoist rfl
  rw [heldInTrip_returned] at tripped
  cases tripped

end Sys2Proof.Machine
end

section
/-! SUPPORT. The alarm table as its own operations make it (08 R136–R148): which table follows from which, and the law that
every record has a class its code can have, kept by each of those operations (R142). -/

namespace Sys2Proof.Machine

/-! ### The operations on the alarm table -/

/-- A table reached from another by the operations of the alarm table: raises, clears and events, what the ports ask of it,
the tick, and the cold start. -/
inductive Alarms.Reaches (a : Alarms) : Alarms → Prop where
  | refl : a.Reaches a
  | raise {b : Alarms} (h : a.Reaches b) (now window : Nat) (key : AlarmKey) (absent : b.isTrue key = false) :
      a.Reaches (b.raiseCondition now window key)
  | clear {b : Alarms} (h : a.Reaches b) (now : Nat) (key : AlarmKey) : a.Reaches (b.clearCondition now key)
  | event {b : Alarms} (h : a.Reaches b) (now window : Nat) (key : AlarmKey) :
      a.Reaches (b.raiseEvent now window key).1
  | acknowledge {b : Alarms} (h : a.Reaches b) (now : Nat) (p : Port) (key : AlarmKey) :
      a.Reaches (b.acknowledge now p key)
  | shelve {b : Alarms} (h : a.Reaches b) (key : AlarmKey) (f : AlarmRec → Option Shelf) :
      a.Reaches (b.onRecord key fun r => some { r with shelf := f r })
  | announce {b : Alarms} (h : a.Reaches b) (x : PerPort Announce) : a.Reaches { b with announce := x }
  | tick {b : Alarms} (h : a.Reaches b) : a.Reaches { b with slots := b.slots.map (Option.map AlarmRec.tick) }
  | cold : a.Reaches Alarms.cold

theorem Alarms.Reaches.trans {a b c : Alarms} (h : a.Reaches b) (g : b.Reaches c) : a.Reaches c := by
  induction g with
  | refl => exact h
  | raise _ now window key absent ih => exact ih.raise now window key absent
  | clear _ now key ih => exact ih.clear now key
  | event _ now window key ih => exact ih.event now window key
  | acknowledge _ now p key ih => exact ih.acknowledge now p key
  | shelve _ key f ih => exact ih.shelve key f
  | announce _ x ih => exact ih.announce x
  | tick _ ih => exact ih.tick
  | cold => exact .cold

/-! ### The classes of the records (R142) -/

/-- A record has a class its code can have (R137, R142). -/
def AlarmRec.ClassLegal (r : AlarmRec) : Prop := classLegal r.key.code r.cls

/-- Every record of the table has a class its code can have (R142). -/
def Alarms.ClassesLegal (a : Alarms) : Prop := ∀ r, some r ∈ a.slots.cells → r.ClassLegal

theorem State.classesLegal_iff (s : State) : s.ClassesLegal ↔ s.alarms.ClassesLegal := Iff.rfl

theorem AlarmRec.fresh_classLegal (key : AlarmKey) (time : Nat) : (AlarmRec.fresh key time).ClassLegal := .inl rfl

/-- No code with an escalation threshold has the base class TRIP (R137). -/
theorem baseClass_of_threshold {code : Nat} (h : (threshold code).isSome = true) : baseClass code ≠ .trip := by
  unfold threshold at h
  split at h
  · decide
  · decide
  · decide
  · cases h

theorem classLegal_ne_trip {code : Nat} {cls : AlarmClass} (h : classLegal code cls) (base : baseClass code ≠ .trip) :
    cls ≠ .trip := by
  rcases h with rfl | ⟨-, notTrip, -⟩
  exacts [base, notTrip]

/-- A class that rises stays legal: it never rises to TRIP, and it does not fall (R142). -/
theorem classLegal_risen {code : Nat} {cls : AlarmClass} (h : classLegal code cls) (rises : (threshold code).isSome = true) :
    classLegal code cls.risen := by
  have notTrip := classLegal_ne_trip h (baseClass_of_threshold rises)
  have within : cls.rank ≤ (baseClass code).rank := by
    rcases h with rfl | ⟨-, -, rank⟩
    exacts [le_rfl, rank]
  refine .inr ⟨rises, ?_, le_trans ?_ within⟩
  · cases cls <;> first | exact absurd rfl notTrip | decide
  · cases cls <;> decide

theorem AlarmRec.threshold_of_rises {r : AlarmRec} {run : Nat} (h : r.rises run = true) :
    (threshold r.key.code).isSome = true := by
  unfold AlarmRec.rises at h
  split at h
  · next held => rw [held]; rfl
  · cases h

theorem AlarmRec.ClassLegal.raised {r : AlarmRec} (h : r.ClassLegal) (now window : Nat) :
    (r.raised now window).ClassLegal := by
  unfold AlarmRec.raised
  split
  · exact h
  · exact h
  · unfold AlarmRec.ClassLegal
    dsimp only
    split
    · next rises => exact classLegal_risen h (AlarmRec.threshold_of_rises rises)
    · exact h

theorem AlarmRec.ClassLegal.clearedAt {r r' : AlarmRec} (h : r.ClassLegal) {now : Nat} (cleared : r.clearedAt now = some r') :
    r'.ClassLegal := by
  unfold AlarmRec.clearedAt at cleared
  split at cleared <;> cases cleared <;> exact h

theorem AlarmRec.ClassLegal.acknowledged {r r' : AlarmRec} (h : r.ClassLegal) {p : Port}
    (acknowledged : r.acknowledged p = some r') : r'.ClassLegal := by
  unfold AlarmRec.acknowledged at acknowledged
  split at acknowledged <;> cases acknowledged <;> exact h

section ClassesLegal

variable {a : Alarms}

theorem Alarms.ClassesLegal.setSlot (h : a.ClassesLegal) (i : Nat) {x : Option AlarmRec}
    (new : ∀ r, x = some r → r.ClassLegal) : (a.setSlot i x).ClassesLegal := by
  intro r mem
  rcases List.mem_or_eq_of_mem_set mem with old | same
  exacts [h r old, new r same.symm]

theorem Alarms.ClassesLegal.onRecord (h : a.ClassesLegal) (key : AlarmKey) {f : AlarmRec → Option AlarmRec}
    (keeps : ∀ r r', r.ClassLegal → f r = some r' → r'.ClassLegal) : (a.onRecord key f).ClassesLegal := by
  unfold Alarms.onRecord
  split
  · next i r _ record => exact h.setSlot i fun r' => keeps r r' (h r (Alarms.record_mem record).1)
  · exact h

theorem Alarms.ClassesLegal.raiseRecord (h : a.ClassesLegal) (now window : Nat) (key : AlarmKey) :
    (a.raiseRecord now window key).1.ClassesLegal := by
  unfold Alarms.raiseRecord
  split
  · exact h.onRecord key fun r r' legal raised => Option.some.inj raised ▸ legal.raised now window
  · split
    · exact h.setSlot _ fun r new => Option.some.inj new ▸ AlarmRec.fresh_classLegal key now
    · exact h

theorem Alarms.ClassesLegal.recordLate (h : a.ClassesLegal) (c : Condition) : (a.recordLate c).ClassesLegal := by
  unfold Alarms.recordLate
  split
  · exact h.setSlot _ fun r new => Option.some.inj new ▸ AlarmRec.fresh_classLegal c.key c.since
  · exact h

theorem Alarms.ClassesLegal.recordLates (h : a.ClassesLegal) (l : List Condition) :
    (l.foldl Alarms.recordLate a).ClassesLegal := by
  induction l generalizing a with
  | nil => exact h
  | cons c l ih => exact ih (h.recordLate c)

theorem Alarms.ClassesLegal.clearBare (h : a.ClassesLegal) (now : Nat) (key : AlarmKey) :
    (a.clearBare now key).ClassesLegal :=
  Alarms.ClassesLegal.onRecord (a := a.dropCondition key) h key fun _ _ legal => legal.clearedAt

theorem Alarms.ClassesLegal.afterRetirement (h : a.ClassesLegal) (now : Nat) : (a.afterRetirement now).ClassesLegal := by
  have recorded := h.recordLates a.unrecordedInOrder
  unfold Alarms.afterRetirement Alarms.fullFollows
  split
  exacts [recorded.clearBare now fullKey, recorded]

theorem Alarms.ClassesLegal.raiseCondition (h : a.ClassesLegal) (now window : Nat) (key : AlarmKey) :
    (a.raiseCondition now window key).ClassesLegal := by
  have raised := h.raiseRecord now window key
  unfold Alarms.raiseCondition
  dsimp only
  split
  · exact raised
  · exact Alarms.ClassesLegal.raiseRecord
      (a := { (a.raiseRecord now window key).1 with conditions := insertCondition _ _ }) raised now window fullKey

theorem Alarms.ClassesLegal.raiseAndClear (h : a.ClassesLegal) (now window : Nat) (key : AlarmKey) :
    (a.raiseAndClear now window key).ClassesLegal := by
  have raised := h.raiseRecord now window key
  unfold Alarms.raiseAndClear
  dsimp only
  split
  exacts [raised, raised.onRecord key fun _ _ legal => legal.clearedAt]

theorem Alarms.ClassesLegal.raiseEvent (h : a.ClassesLegal) (now window : Nat) (key : AlarmKey) :
    (a.raiseEvent now window key).1.ClassesLegal := by
  have raised := h.raiseRecord now window key
  unfold Alarms.raiseEvent
  dsimp only
  split
  · dsimp only
    split
    exacts [raised, raised.onRecord key fun _ _ legal => legal.clearedAt]
  · exact Alarms.ClassesLegal.raiseAndClear (a := { a with lostEvents := min (a.lostEvents + 1) 65535 }) h now window fullKey

theorem Alarms.ClassesLegal.tick (h : a.ClassesLegal) :
    Alarms.ClassesLegal { a with slots := a.slots.map (Option.map AlarmRec.tick) } := by
  intro r mem
  obtain ⟨o, held, ticked⟩ := List.mem_map.1 mem
  obtain ⟨r, rfl, rfl⟩ := Option.map_eq_some_iff.1 ticked
  exact h r held

theorem Alarms.cold_classesLegal : Alarms.cold.ClassesLegal := by
  intro r mem
  cases List.eq_of_mem_replicate mem

/-- The operations of the alarm table keep every class legal (R142). -/
theorem Alarms.ClassesLegal.reaches {b : Alarms} (h : a.ClassesLegal) (reached : a.Reaches b) : b.ClassesLegal := by
  induction reached with
  | refl => exact h
  | raise _ now window key _ ih => exact ih.raiseCondition now window key
  | clear _ now key ih => exact (ih.clearBare now key).afterRetirement now
  | event _ now window key ih => exact ih.raiseEvent now window key
  | acknowledge _ now p key ih => exact (ih.onRecord key fun _ _ legal => legal.acknowledged).afterRetirement now
  | shelve _ key f ih => exact ih.onRecord key fun r r' legal new => Option.some.inj new ▸ legal
  | announce _ x ih => exact ih
  | tick _ ih => exact ih.tick
  | cold => exact Alarms.cold_classesLegal

/-- A key whose code is no TRIP by base does not act as a TRIP (R137, R142). -/
theorem Alarms.ClassesLegal.effectiveClass_ne_trip (h : a.ClassesLegal) {key : AlarmKey} (base : baseClass key.code ≠ .trip) :
    a.effectiveClass key ≠ .trip := by
  unfold Alarms.effectiveClass
  split
  · next r record =>
    obtain ⟨mem, rfl⟩ := Alarms.record_mem record
    exact classLegal_ne_trip (h r mem) base
  · exact base

end ClassesLegal

end Sys2Proof.Machine
end

section
/-! SUPPORT. The alarm table and the generators through raises, clears and the end of a change: every change of the table is
one of its own operations, and after the conditions have their truth no generator changes its standing, which is what the
generator table's conditions read of it (04 R70). -/

namespace Sys2Proof.Machine

/-! ### The alarm table of the state -/

/-- The alarm table after a change is reached by its own operations. -/
def State.Tabled (s t : State) : Prop := s.alarms.Reaches t.alarms

theorem State.Tabled.refl (s : State) : s.Tabled s := Alarms.Reaches.refl

theorem State.Tabled.trans {s t u : State} (h : s.Tabled t) (g : t.Tabled u) : s.Tabled u := Alarms.Reaches.trans h g

theorem State.Tabled.of_eq {s t : State} (h : t.alarms = s.alarms) : s.Tabled t := by
  unfold State.Tabled
  rw [h]
  exact .refl

/-- What other records changed before does not matter. -/
theorem State.Tabled.after {s t u : State} (h : t.Tabled u) (same : t.alarms = s.alarms) : s.Tabled u :=
  (State.Tabled.of_eq same).trans h

theorem State.Tabled.ite {s t u : State} {p : Prop} [Decidable p] (ht : s.Tabled t) (hu : s.Tabled u) :
    s.Tabled (if p then t else u) := by
  split
  exacts [ht, hu]

theorem State.Tabled.foldl {α : Type} {f : State → α → State} (h : ∀ (s : State) (a : α), s.Tabled (f s a)) (l : List α)
    (s : State) : s.Tabled (l.foldl f s) := by
  induction l generalizing s with
  | nil => exact .refl s
  | cons a l ih => exact (h s a).trans (ih (f s a))

theorem State.Tabled.classesLegal {s t : State} (h : s.Tabled t) (legal : s.ClassesLegal) : t.ClassesLegal :=
  Alarms.ClassesLegal.reaches legal h

theorem State.raiseCondition_tabled (s : State) (key : AlarmKey) : s.Tabled (s.raiseCondition key) := by
  unfold State.Tabled
  rw [s.raiseCondition_alarms]
  split
  · exact .refl
  · next absent => exact .raise .refl _ _ key (Bool.eq_false_iff.2 absent)

theorem State.clearCondition_tabled (s : State) (key : AlarmKey) : s.Tabled (s.clearCondition key) := by
  unfold State.Tabled
  rw [s.clearCondition_alarms]
  split
  exacts [.clear .refl _ key, .refl]

theorem State.setCondition_tabled (s : State) (key : AlarmKey) (truth : Bool) : s.Tabled (s.setCondition key truth) :=
  (s.raiseCondition_tabled key).ite (s.clearCondition_tabled key)

theorem State.raiseEvent_tabled (s : State) (key : AlarmKey) : s.Tabled (s.raiseEvent key) := by
  unfold State.Tabled
  rw [s.raiseEvent_alarms]
  exact .event .refl _ _ key

theorem State.syncChannels_tabled (s : State) : s.Tabled s.syncChannels :=
  ((State.Tabled.foldl (fun s _ => (State.Tabled.refl s).ite (s.clearCondition_tabled _)) Motion.all s).trans
    (.foldl (fun s _ => s.setCondition_tabled _ _) Motion.all _)).trans
    (.foldl (fun s _ => s.setCondition_tabled _ _) Motion.all _)

theorem State.gensReport_tabled (s : State) : s.Tabled s.gensReport :=
  ((State.Tabled.foldl (fun s _ => s.setCondition_tabled _ _) gensAll s).trans
    (.foldl (fun s _ => s.setCondition_tabled _ _) gensAll _)).trans (.foldl (fun s _ => s.setCondition_tabled _ _) gensAll _)

theorem State.syncZones_tabled (s : State) : s.Tabled s.syncZones := by
  unfold State.syncZones
  exact (State.Tabled.foldl (fun s _ => s.setCondition_tabled _ _) slotsAll s).trans (State.setCondition_tabled _ _ _)

theorem State.syncConditions_tabled (s : State) : s.Tabled s.syncConditions :=
  (s.syncChannels_tabled.trans ((State.Tabled.refl _).ite (State.gensReport_tabled _))).trans (State.syncZones_tabled _)

/-! ### The standing of a generator -/

/-- What the conditions of the generator table read of a record stays, and a LOCKED OUT record stays whole (R70). -/
structure Gen.Standing (a b : Gen) : Prop where
  keepsTrying : b.keepsTrying = a.keepsTrying
  lockedOut : b.isLockedOut = a.isLockedOut
  whole : a.isLockedOut = true → b = a

theorem Gen.Standing.refl (a : Gen) : a.Standing a := ⟨rfl, rfl, fun _ => rfl⟩

theorem Gen.Standing.trans {a b c : Gen} (h : a.Standing b) (g : b.Standing c) : a.Standing c :=
  ⟨g.keepsTrying.trans h.keepsTrying, g.lockedOut.trans h.lockedOut, fun out =>
    (g.whole (h.lockedOut.trans out)).trans (h.whole out)⟩

theorem Gen.Standing.showsWeld {a b : Gen} (h : a.Standing b) (p : PerMotion Bool) : b.showsWeld p = a.showsWeld p := by
  unfold Gen.showsWeld
  rw [h.lockedOut]

theorem Gen.not_moving_of_lockedOut {g : Gen} (h : g.isLockedOut = true) (v : Move) : g.st ≠ .moving v := by
  intro moving
  unfold Gen.isLockedOut at h
  rw [moving] at h
  cases h

/-- A record that is not LOCKED OUT and becomes one that neither is nor keeps trying, as it did not before. -/
theorem Gen.Standing.of_unlocked {a b : Gen} (a_out : a.isLockedOut = false) (b_out : b.isLockedOut = false)
    (trying : b.keepsTrying = a.keepsTrying) : a.Standing b :=
  ⟨trying, b_out.trans a_out.symm, fun out => absurd (a_out.symm.trans out) nofun⟩

theorem openOut_unlocked (k : Constants) (p : PerMotion Bool) (loop : Motion) (attempts : Nat) :
    (openOut k p loop none attempts).isLockedOut = false ∧ (openOut k p loop none attempts).keepsTrying = false := by
  unfold openOut
  split
  exacts [⟨rfl, rfl⟩, ⟨rfl, rfl⟩]

theorem beginClose_unlocked (k : Constants) (p : PerMotion Bool) {v : Move} (h : v.keepTrying = false)
    (holder target : Motion) (attempts : Nat) : (beginClose k p v holder target attempts).isLockedOut = false ∧
      (beginClose k p v holder target attempts).keepsTrying = false := by
  unfold beginClose
  split
  exacts [⟨rfl, rfl⟩, ⟨rfl, h⟩]

theorem returned_standing (k : Constants) (p : PerMotion Bool) (now : Nat) (g : Gen) : g.Standing (returned k p now g) := by
  obtain ⟨st, attempts⟩ := g
  cases st with
  | granted h =>
    unfold returned
    dsimp only
    split
    · exact .of_unlocked rfl rfl rfl
    · obtain ⟨out, trying⟩ := openOut_unlocked k p h 0
      exact .of_unlocked rfl out trying
  | _ => exact .refl _

theorem withdrawn_standing (m : Motion) (g : Gen) : g.Standing (withdrawn m g) := by
  obtain ⟨st, attempts⟩ := g
  cases st with
  | moving v =>
    unfold withdrawn
    dsimp only
    split
    exacts [.of_unlocked rfl rfl rfl, .refl _]
  | _ => exact .refl _

theorem withdrawnFailing_standing (m : Motion) (g : Gen) : g.Standing (withdrawnFailing m g) := by
  unfold withdrawnFailing
  split
  exacts [withdrawn_standing m g, .refl g]

theorem handOver_standing (k : Constants) (p : PerMotion Bool) (m : Motion) (seq : Nat) (g : Gen) :
    g.Standing (handOver k p m seq g) := by
  have closing {st : GenState} {attempts : Nat} (out : (⟨st, attempts⟩ : Gen).isLockedOut = false)
      (trying : (⟨st, attempts⟩ : Gen).keepsTrying = false) {v : Move} (h : v.keepTrying = false) :
      (⟨st, attempts⟩ : Gen).Standing (beginClose k p v m m 0) := by
    obtain ⟨unlocked, quiet⟩ := beginClose_unlocked k p h m m 0
    exact .of_unlocked out unlocked (quiet.trans trying.symm)
  obtain ⟨st, attempts⟩ := g
  cases st with
  | free => exact closing rfl rfl rfl
  | parked l since =>
    unfold handOver
    dsimp only
    split
    · exact .of_unlocked rfl rfl rfl
    · split
      · exact .of_unlocked rfl rfl rfl
      · exact closing rfl rfl rfl
  | _ => exact .refl _

/-! ### What follows a change -/

/-- What the motions, the walk and the arbiter do when they follow a change: the alarm table goes by its own operations, and
every generator keeps its standing. -/
structure State.Carries (s t : State) : Prop where
  table : s.Tabled t
  standing : ∀ g, (s.gens.get g).Standing (t.gens.get g)

theorem State.Carries.refl (s : State) : s.Carries s := ⟨.refl s, fun _ => .refl _⟩

theorem State.Carries.trans {s t u : State} (h : s.Carries t) (g : t.Carries u) : s.Carries u :=
  ⟨h.table.trans g.table, fun i => (h.standing i).trans (g.standing i)⟩

theorem State.Carries.ite {s t u : State} {p : Prop} [Decidable p] (ht : s.Carries t) (hu : s.Carries u) :
    s.Carries (if p then t else u) := by
  split
  exacts [ht, hu]

theorem State.Carries.foldl {α : Type} {f : State → α → State} (h : ∀ (s : State) (a : α), s.Carries (f s a)) (l : List α)
    (s : State) : s.Carries (l.foldl f s) := by
  induction l generalizing s with
  | nil => exact .refl s
  | cons a l ih => exact (h s a).trans (ih (f s a))

theorem State.Carries.of_eq {s t : State} (alarms : t.alarms = s.alarms) (gens : t.gens = s.gens) : s.Carries t :=
  ⟨.of_eq alarms, fun g => by rw [gens]; exact .refl _⟩

theorem State.onMotion_carries (s : State) (m : Dig) (f : MotionRec → MotionRec) : s.Carries (s.onMotion m f) := .of_eq rfl rfl

theorem State.onMotions_carries (s : State) (f : MotionRec → MotionRec) : s.Carries (s.onMotions f) := .of_eq rfl rfl

theorem State.onWalk_carries (s : State) (f : WalkRec → WalkRec) : s.Carries (s.onWalk f) := .of_eq rfl rfl

theorem State.withArb_carries (s : State) (x : Arbiter) : s.Carries { s with arb := x } := .of_eq rfl rfl

theorem State.onGens_carries (s : State) {f : PerMotion Bool → Gen → Gen} (hf : ∀ p g, Gen.Standing g (f p g)) :
    s.Carries (s.onGens f) := by
  refine ⟨.of_eq rfl, fun g => ?_⟩
  rw [State.onGens_get]
  exact hf _ _

theorem State.onGen_get (s : State) (g : Fin 12) (f : Gen → Gen) (i : Fin 12) :
    (s.onGen g f).gens.get i = if i = g then f (s.gens.get i) else s.gens.get i := by
  split
  · next e => rw [e]; exact Table.get_set_self _ _ _
  · next e => exact Table.get_set_ne _ _ e

theorem State.onGen_carries (s : State) (g : Fin 12) {f : Gen → Gen} (hf : ∀ a : Gen, a.Standing (f a)) :
    s.Carries (s.onGen g f) := by
  refine ⟨.of_eq rfl, fun i => ?_⟩
  rw [State.onGen_get]
  split
  exacts [hf _, .refl _]

theorem State.clearCondition_carries (s : State) (key : AlarmKey) : s.Carries (s.clearCondition key) := by
  refine ⟨s.clearCondition_tabled key, fun g => ?_⟩
  unfold State.clearCondition
  split
  exacts [.refl _, .refl _]

/-! #### The motions and the walk -/

theorem State.returnAll_carries (s : State) (m : Motion) : s.Carries (s.returnAll m) := by
  refine s.onGens_carries fun p g => ?_
  split
  exacts [returned_standing _ _ _ _, .refl g]

theorem State.endHold_carries (s : State) (m : Dig) : s.Carries (s.endHold m) :=
  (s.returnAll_carries _).trans (State.onMotion_carries _ _ _)

theorem State.beginHold_carries (s : State) (m : Dig) : s.Carries (s.beginHold m) :=
  (s.onMotion_carries m _).ite ((s.endHold_carries m).ite (s.onMotion_carries m _))

theorem State.proofPass_carries (s : State) (m : Dig) : s.Carries (s.proofPass m) := by
  unfold State.proofPass
  dsimp only
  split
  · exact (State.Carries.refl s).ite ((s.onMotion_carries m _).trans (State.clearCondition_carries _ _))
  · exact (s.onMotion_carries m _).ite (.refl s)
  · exact .refl s
  · exact .refl s

theorem State.restPass_carries (s : State) (m : Dig) : s.Carries (s.restPass m) :=
  State.Carries.ite ((s.onMotion_carries m _).ite ((s.beginHold_carries m).ite ((s.returnAll_carries _).ite (.refl s))))
    (.refl s)

theorem State.motionPass_carries (s : State) (m : Dig) : s.Carries (s.motionPass m) := by
  have followed : s.Carries (((s.reversalPass m).readyPass m).brakePass m) := .of_eq rfl rfl
  exact (followed.trans (State.proofPass_carries _ m)).trans (State.restPass_carries _ m)

theorem State.motionsPass_carries (s : State) : s.Carries s.motionsPass :=
  ((s.motionPass_carries _).trans (State.motionPass_carries _ _)).trans (State.motionPass_carries _ _)

theorem State.walkFinish_carries (s : State) (o : WalkOutcome) : s.Carries (s.walkFinish o) :=
  ((s.returnAll_carries _).trans (State.onWalk_carries _ _)).trans (State.onMotions_carries _ _)

theorem State.walkProofPass_carries (s : State) : s.Carries s.walkProofPass := by
  unfold State.walkProofPass
  split
  · exact (State.Carries.refl s).ite ((s.onWalk_carries _).trans (State.clearCondition_carries _ _))
  · exact (s.onWalk_carries _).ite (.refl s)
  · exact .refl s
  · exact .refl s

theorem State.walkRestPass_carries (s : State) : s.Carries s.walkRestPass := by
  unfold State.walkRestPass
  dsimp only
  refine State.Carries.ite ?_ (.refl s)
  split
  · exact s.walkFinish_carries _
  · refine (s.returnAll_carries _).ite (State.Carries.ite ?_ ((s.onWalk_carries _).ite (.refl s)))
    split
    exacts [.refl s, s.onWalk_carries _]

theorem State.walkPass_carries (s : State) : s.Carries s.walkPass := by
  have followed : s.Carries s.walkBrakePass := .of_eq rfl rfl
  exact (followed.trans (State.walkProofPass_carries _)).trans (State.walkRestPass_carries _)

theorem State.passes_carries (s : State) : s.Carries s.passes := s.motionsPass_carries.trans (State.walkPass_carries _)

/-! #### The arbiter -/

theorem State.claimsFollowOf_carries (s : State) (m : Motion) : s.Carries (s.claimsFollowOf m) :=
  (s.onGens_carries fun _ g => withdrawn_standing m g).ite
    ((s.onGens_carries fun _ g => withdrawnFailing_standing m g).ite (.refl s))

theorem State.claimsFollow_carries (s : State) : s.Carries s.claimsFollow := .foldl State.claimsFollowOf_carries _ s

theorem State.prune_carries (s : State) : s.Carries s.prune := s.claimsFollow_carries.trans (State.withArb_carries _ _)

theorem State.joinOf_carries (s : State) (m : Motion) : s.Carries (s.joinOf m) := (s.withArb_carries _).ite (.refl s)

theorem State.joins_carries (s : State) : s.Carries s.joins := .foldl State.joinOf_carries _ s

theorem State.grantTo_carries (s : State) (m : Motion) (counted : Option Motion) (count : Nat) (i : Fin 12) :
    s.Carries (s.grantTo m counted count i) :=
  ((s.onGen_carries i fun a => handOver_standing _ _ _ _ a).trans (State.withArb_carries _ _)).trans (State.prune_carries _)

theorem State.grantOne_carries {s t : State} (h : s.grantOne = some t) : s.Carries t := by
  unfold State.grantOne at h
  split at h
  · cases h
  · split at h
    · cases h
    · cases h
      exact s.grantTo_carries _ _ _ _

theorem State.grantLoop_carries (n : Nat) (s : State) : s.Carries (State.grantLoop n s) := by
  induction n generalizing s with
  | zero => exact .refl s
  | succ n ih =>
    unfold State.grantLoop
    split
    · exact .refl s
    · next t h => exact (State.grantOne_carries h).trans (ih t)

theorem State.recallHolds_carries (n : Nat) (s : State) : s.Carries (State.recallHolds n s) := by
  induction n generalizing s with
  | zero => exact .refl s
  | succ n ih =>
    unfold State.recallHolds
    split
    · exact .refl s
    · exact (s.endHold_carries _).ite ((s.endHold_carries _).trans (ih _))

theorem State.recall_carries (s : State) : s.Carries s.recall := (State.recallHolds_carries 3 s).ite (.refl s)

theorem State.arbRun_carries (n : Nat) (s : State) : s.Carries (State.arbRun n s) := by
  induction n generalizing s with
  | zero => exact .refl s
  | succ n ih =>
    have granted := State.grantLoop_carries 12 s
    exact (granted.trans ((State.recall_carries _).trans (ih _))).ite granted

theorem State.arbitrate_carries (s0 s : State) : s.Carries (State.arbitrate s0 s) := by
  have listed : s.Carries s.prune.joins := s.prune_carries.trans (State.joins_carries _)
  exact ((listed.trans (State.arbRun_carries 4 _)).trans (State.prune_carries _)).ite listed

theorem State.starvedSync_carries (s : State) : s.Carries s.starvedSync :=
  .foldl (fun s _ => (State.Carries.refl s).ite (s.clearCondition_carries _)) _ s

/-! #### The end of a change -/

theorem State.resolverFollow_carries (s : State) : s.Carries s.resolverFollow := .of_eq rfl rfl

theorem State.compose_carries (s : State) : s.Carries s.compose := .of_eq rfl rfl

/-- After its conditions have their truth, a running part carries every generator's standing to the end of the change. -/
theorem State.settle_carries (s0 : State) {s : State} (runs : s.power = .running) :
    s.syncConditions.Carries (State.settle s0 s) := by
  unfold State.settle
  rw [runs]
  exact (State.resolverFollow_carries _).ite
    ((((((State.resolverFollow_carries _).trans (State.passes_carries _)).trans (State.arbitrate_carries _ _)).trans
      (State.passes_carries _)).trans (State.starvedSync_carries _)).trans (State.compose_carries _))

theorem State.settle_tabled (s0 s : State) : s.Tabled (State.settle s0 s) := by
  by_cases runs : s.power = .running
  · exact s.syncConditions_tabled.trans (State.settle_carries s0 runs).table
  · rw [State.settle_of_not_running s0 runs]
    exact .refl s

/-! ### The conditions of one generator (R70) -/

/-- A generator's record stands through the raises of the generator and zone conditions: no raise of a lawful table trips it,
or it makes no move that a trip could end (R62, R138). -/
structure State.Shows (s : State) (g : Fin 12) (x : Gen) : Prop where
  gen : s.gens.get g = x
  steady : s.ClassesLegal ∨ ∀ v, x.st ≠ .moving v

theorem State.Shows.of_legal {s : State} (legal : s.ClassesLegal) (g : Fin 12) : s.Shows g (s.gens.get g) := ⟨rfl, .inl legal⟩

theorem trippedMove_not_moving (k : Constants) (p : PerMotion Bool) {g : Gen} (h : ∀ v, g.st ≠ .moving v) :
    trippedMove k p g = g := by
  unfold trippedMove
  split
  · next v moving => exact absurd moving (h v)
  · rfl

/-- A raise leaves the generators, but where it acts as a TRIP, and then it ends their moves (R62, R138). -/
theorem State.raiseCondition_gens (s : State) (key : AlarmKey) (g : Fin 12) :
    (s.raiseCondition key).gens.get g = s.gens.get g ∨
      (s.alarms.raiseCondition s.now s.k.escalationWindow key).effectiveClass key = .trip ∧
        (s.raiseCondition key).gens.get g = trippedMove s.k (s.proofs g) (s.gens.get g) := by
  unfold State.raiseCondition
  dsimp only
  split
  · exact .inl rfl
  split
  · exact .inl rfl
  unfold State.conditionActs
  dsimp only
  split
  · next trip =>
    split
    · exact .inl rfl
    · exact .inr ⟨trip, State.onGens_get _ _ g⟩
  · refine .inl ?_
    unfold State.cabLinkHalts
    split <;> rfl
  · exact .inl rfl
  · exact .inl rfl

section Shows

variable {s : State} {g : Fin 12} {x : Gen}

theorem State.Shows.setCondition (h : s.Shows g x) {code : Nat} (base : baseClass code ≠ .trip) (n : Nat) (truth : Bool) :
    (s.setCondition ⟨code, n⟩ truth).Shows g x := by
  refine ⟨?_, h.steady.imp_left (s.setCondition_tabled ⟨code, n⟩ truth).classesLegal⟩
  unfold State.setCondition
  split
  · rcases s.raiseCondition_gens ⟨code, n⟩ g with same | ⟨trip, tripped⟩
    · exact same.trans h.gen
    · rcases h.steady with legal | still
      · exact absurd trip
          ((Alarms.ClassesLegal.raiseCondition (State.classesLegal_iff s |>.1 legal) _ _ ⟨code, n⟩).effectiveClass_ne_trip base)
      · rw [tripped, h.gen]
        exact trippedMove_not_moving _ _ still
  · refine Eq.trans ?_ h.gen
    unfold State.clearCondition
    split <;> rfl

theorem State.Shows.foldl {α : Type} {f : State → α → State} (hf : ∀ (s : State) (a : α), s.Shows g x → (f s a).Shows g x)
    (l : List α) (h : s.Shows g x) : (l.foldl f s).Shows g x := by
  induction l generalizing s with
  | nil => exact h
  | cons a l ih => exact ih (hf s a h)

theorem State.Shows.syncChannels (h : s.Shows g x) : s.syncChannels.Shows g x := by
  have ended : ∀ (s : State) (c : Motion), s.Shows g x → (s.unreferencedEnds c).Shows g x := by
    intro s c h
    unfold State.unreferencedEnds
    split
    exacts [h, h.setCondition (by decide) c.number false]
  exact ((h.foldl ended Motion.all).foldl (fun s _ h => h.setCondition (by decide) _ _) Motion.all).foldl
    (fun s _ h => h.setCondition (by decide) _ _) Motion.all

theorem State.Shows.syncZones (h : s.Shows g x) : s.syncZones.Shows g x := by
  unfold State.syncZones
  exact (h.foldl (fun s _ h => h.setCondition (by decide) _ _) slotsAll).setCondition (by decide) _ _

/-- In a row of conditions that a generator's record stands through, its own takes the truth that the record gives it. -/
theorem State.Shows.isTrue_row {code : Nat} (base : baseClass code ≠ .trip) (other : code ≠ 21)
    {truth : State → Fin 12 → Bool} {b : Bool} {i : Inputs}
    (value : ∀ t : State, t.inputs = i → t.gens.get g = x → truth t g = b) (l : List (Fin 12)) (h : s.Shows g x)
    (inputs : s.inputs = i) (mem : g ∈ l) :
    (l.foldl (fun s a => s.setCondition ⟨code, a.val + 1⟩ (truth s a)) s).isTrue ⟨code, g.val + 1⟩ = b := by
  have notFull : (⟨code, g.val + 1⟩ : AlarmKey) ≠ fullKey := fun e => other (congrArg AlarmKey.code e)
  induction l generalizing s with
  | nil => cases mem
  | cons a l ih =>
    rw [List.foldl_cons]
    by_cases later : g ∈ l
    · exact ih (h.setCondition base _ _) ((s.setCondition_same _ _).inputs.trans inputs) later
    · obtain rfl : g = a := (List.mem_cons.1 mem).resolve_right later
      have apart : ∀ c ∈ l, (⟨code, g.val + 1⟩ : AlarmKey) ≠ ⟨code, c.val + 1⟩ := fun c hc e =>
        later (Fin.ext (Nat.succ.inj (congrArg AlarmKey.num e)) ▸ hc)
      rw [State.isTrue_row_other (key := fun a : Fin 12 => ⟨code, a.val + 1⟩) l _ notFull apart,
        s.isTrue_setCondition _ _ notFull, if_pos rfl]
      exact value s inputs h.gen

/-- The three conditions of the generator stand at the truth that its record and its proofs give them (R70). -/
structure State.Reports (s : State) (g : Fin 12) (x : Gen) : Prop where
  noProof : s.isTrue ⟨10, g.val + 1⟩ = x.keepsTrying
  welded : s.isTrue ⟨11, g.val + 1⟩ = x.showsWeld (s.proofs g)
  lockedOut : s.isTrue ⟨12, g.val + 1⟩ = x.isLockedOut

theorem State.Reports.kept {codes : List Nat} {t : State} (h : s.Reports g x) (truth : State.TruthBut codes s t)
    (inputs : t.inputs = s.inputs) (ten : 10 ∉ codes) (eleven : 11 ∉ codes) (twelve : 12 ∉ codes) : t.Reports g x := by
  refine ⟨(truth _ ten).trans h.noProof, (truth _ eleven).trans ?_, (truth _ twelve).trans h.lockedOut⟩
  unfold State.proofs
  rw [inputs]
  exact h.welded

theorem State.Shows.gensReport (h : s.Shows g x) : s.gensReport.Shows g x ∧ s.gensReport.Reports g x := by
  have mem : g ∈ gensAll := List.mem_finRange g
  let tried := gensAll.foldl State.syncNoProof s
  let welds := gensAll.foldl State.syncWelded tried
  let outs := gensAll.foldl State.syncLockedOut welds
  have triedShows : tried.Shows g x := h.foldl (fun s _ h => h.setCondition (by decide) _ _) gensAll
  have weldsShows : welds.Shows g x := triedShows.foldl (fun s _ h => h.setCondition (by decide) _ _) gensAll
  have outsShows : outs.Shows g x := weldsShows.foldl (fun s _ h => h.setCondition (by decide) _ _) gensAll
  have triedSame : s.SameRecords tried := .foldl (fun s _ => s.setCondition_same _ _) gensAll s
  have outsSame : tried.SameRecords outs :=
    (State.SameRecords.foldl (fun s _ => s.setCondition_same _ _) gensAll tried).trans
      (.foldl (fun s _ => s.setCondition_same _ _) gensAll welds)
  have noProof : tried.isTrue ⟨10, g.val + 1⟩ = x.keepsTrying :=
    State.Shows.isTrue_row (by decide) (by decide) (truth := fun s g => (s.gens.get g).keepsTrying)
      (fun t _ gen => by rw [gen]) gensAll h rfl mem
  have welded : welds.isTrue ⟨11, g.val + 1⟩ = x.showsWeld (tried.proofs g) :=
    State.Shows.isTrue_row (by decide) (by decide) (truth := fun s g => (s.gens.get g).showsWeld (s.proofs g))
      (fun t inputs gen => by unfold State.proofs; rw [gen, inputs]) gensAll triedShows rfl mem
  have lockedOut : outs.isTrue ⟨12, g.val + 1⟩ = x.isLockedOut :=
    State.Shows.isTrue_row (by decide) (by decide) (truth := fun s g => (s.gens.get g).isLockedOut)
      (fun t _ gen => by rw [gen]) gensAll weldsShows rfl mem
  have later : State.TruthBut [12, 21] welds outs := .foldl (fun s g => .setCondition s _ (by decide) (by decide)) gensAll welds
  have early : State.TruthBut [11, 12, 21] tried outs :=
    (State.TruthBut.foldl (fun s g => .setCondition s _ (by decide) (by decide)) gensAll tried).trans (later.mono (by decide))
  refine ⟨outsShows, (early _ (show 10 ∉ _ by decide)).trans noProof,
    (later _ (show 11 ∉ _ by decide)).trans (welded.trans ?_), lockedOut⟩
  show x.showsWeld (tried.proofs g) = x.showsWeld (outs.proofs g)
  unfold State.proofs
  rw [outsSame.inputs]

/-- A change completed on mains leaves the generator in its standing, with its conditions at the truth of its record. -/
theorem State.Shows.settle (h : s.Shows g x) (s0 : State) (mains : s.OnMains) :
    x.Standing ((State.settle s0 s).gens.get g) ∧ (State.settle s0 s).Reports g x := by
  have synced := s.syncChannels_same
  have reported : s.syncChannels.syncGens = s.syncChannels.gensReport := by
    refine if_neg ?_
    rw [State.inHoldup_of_onMains ⟨synced.power.trans mains.1, by rw [synced.supply]; exact mains.2⟩]
    decide
  obtain ⟨shown, reports⟩ := h.syncChannels.gensReport
  have zoned : s.syncConditions = s.syncChannels.gensReport.syncZones := by
    unfold State.syncConditions
    rw [reported]
  have carried := State.settle_carries s0 mains.1
  have followed := State.settle_follows s0 mains.1
  have settled := State.settle_same s0 s
  have zonesSame := s.syncConditions_same
  rw [zoned] at carried followed zonesSame
  have zonedReports := reports.kept (State.syncZones_truth _) (State.syncZones_same _).inputs (by decide) (by decide)
    (by decide)
  refine ⟨shown.syncZones.gen ▸ carried.standing g, ?_⟩
  exact zonedReports.kept followed.drops.truth (settled.inputs.trans zonesSame.inputs.symm) (by decide) (by decide) (by decide)

end Shows

end Sys2Proof.Machine
end

section
/-! SUPPORT. The alarm table through every command (O9): what a command does of its own to the table goes by the table's
operations, and a command that completes no change moves no cause of the generator table's conditions. -/

namespace Sys2Proof.Machine

/-! ### The own effect of each command -/

/-! #### Zone table and resolver -/

theorem State.onSlot_tabled (s : State) (i : Fin 40) (f : ZoneSlot → ZoneSlot) : s.Tabled (s.onSlot i f) := .of_eq rfl

theorem State.lookDropped_tabled (s : State) : s.Tabled s.lookDropped := by
  unfold State.lookDropped
  split
  exacts [.refl s, .of_eq rfl]

theorem State.markDefective_tabled (s : State) (i : Fin 40) : s.Tabled (s.markDefective i) := by
  have marked : s.Tabled (s.onSlot i ZoneSlot.marked).epochUp := .of_eq rfl
  exact (marked.trans (State.setCondition_tabled _ _ _)).trans (State.setCondition_tabled _ _ _)

theorem State.checkHeld_tabled (s : State) (i : Fin 40) : s.Tabled (s.checkHeld i) := by
  have corrected : s.Tabled (s.onSlot i ZoneSlot.corrected) := .of_eq rfl
  unfold State.checkHeld
  split
  · exact .refl s
  · exact (corrected.trans (State.raiseEvent_tabled _ _)).trans (State.lookDropped_tabled _)
  · exact s.markDefective_tabled i

theorem State.checkBody_tabled (s : State) (i : Fin 40) : s.Tabled (s.checkBody i) := by
  unfold State.checkBody
  split
  exacts [.of_eq rfl, .refl s, s.checkHeld_tabled i, s.checkHeld_tabled i]

theorem State.checkAll_tabled (s : State) : s.Tabled s.checkAll := .foldl State.checkBody_tabled _ s

theorem State.bodiesFault_tabled (s : State) (faults : List StorageFault) : s.Tabled (s.bodiesFault faults) :=
  .foldl (fun s _ => s.onSlot_tabled _ _) faults s

theorem State.compareEpoch_tabled (s : State) (f : InFlight) : s.Tabled (s.compareEpoch f) := .of_eq rfl

theorem State.resolutionEnds_tabled (s : State) : s.Tabled s.resolutionEnds := by
  unfold State.resolutionEnds
  split
  · exact .refl s
  · exact s.checkAll_tabled.trans (State.compareEpoch_tabled _ _)

theorem State.markSites_tabled (s : State) : s.Tabled s.markSites := by
  have marked : s.Tabled s.markStale := by
    unfold State.markStale
    split
    · exact (State.setCondition_tabled _ _ _).after rfl
    · exact .refl s
  exact marked.trans (.of_eq rfl)

/-! #### Generators, brakes and the walk -/

theorem State.onBrake_tabled (s : State) (m : Motion) (f : Brake → Brake) : s.Tabled (s.onBrake m f) := by
  cases m <;> exact .of_eq rfl

theorem State.onWalk_tabled (s : State) (f : WalkRec → WalkRec) : s.Tabled (s.onWalk f) := .of_eq rfl

theorem State.inRun_tabled (s : State) {f : State → State} (hf : s.Tabled (f s)) : s.Tabled (s.inRun f) :=
  (State.Tabled.refl s).ite hf

theorem State.genTakes_tabled (s : State) (g : Fin 12) (f : Gen → GenResult) : s.Tabled (s.genTakes g f) := by
  have set (x : Gen) : s.Tabled (s.onGen g fun _ => x) := .of_eq rfl
  exact ((set _).trans (State.raiseEvent_tabled _ _)).ite (set _)

theorem State.brakeShowsReleased_tabled (s : State) (m : Motion) : s.Tabled (s.brakeShowsReleased m) :=
  s.inRun_tabled (((s.onBrake_tabled m _).trans (State.raiseCondition_tabled _ _)).ite (.refl s))

theorem State.brakeShowsSet_tabled (s : State) (m : Motion) : s.Tabled (s.brakeShowsSet m) :=
  s.inRun_tabled (((s.onBrake_tabled m _).trans (State.raiseEvent_tabled _ _)).ite (.refl s))

theorem State.releaseProofComes_tabled (s : State) (m : Motion) : s.Tabled (s.releaseProofComes m) := by
  have putOff (t : State) : t.Tabled (t.putOff m) := by
    cases m <;> exact .of_eq rfl
  exact s.inRun_tabled (((s.onBrake_tabled m _).trans (putOff _)).ite (s.brakeShowsReleased_tabled m))

theorem State.releaseTimeEnds_tabled (s : State) (m : Motion) : s.Tabled (s.releaseTimeEnds m) :=
  ((s.onBrake_tabled m _).trans (State.raiseEvent_tabled _ _)).ite (.refl s)

theorem State.setTimeEnds_tabled (s : State) (m : Motion) : s.Tabled (s.setTimeEnds m) :=
  (((s.onBrake_tabled m _).trans (State.onBrake_tabled _ m _)).trans (State.raiseCondition_tabled _ _)).ite
    (s.onBrake_tabled m _)

theorem State.prepareTimesOut_tabled (s : State) : s.Tabled s.prepareTimesOut :=
  ((s.onWalk_tabled _).trans (State.raiseEvent_tabled _ _)).ite (.refl s)

theorem State.phaseTimesOut_tabled (s : State) : s.Tabled s.phaseTimesOut := by
  unfold State.phaseTimesOut
  split
  · exact (s.raiseEvent_tabled _).ite (.refl s)
  · exact .refl s

/-! #### Count channels and the tub bearing -/

theorem State.walkPhaseFollows_tabled (s : State) : s.Tabled s.walkPhaseFollows := by
  unfold State.walkPhaseFollows
  dsimp only
  exact State.Tabled.ite (((s.onWalk_tabled _).trans (State.raiseEvent_tabled _ _)).ite (s.onWalk_tabled _)) (.refl s)

theorem State.count?_tabled (s : State) (c : Motion) (d : Option Dir) : s.Tabled (s.count? c d) := by
  have counted (c : Motion) (d : Dir) : s.Tabled (s.countChan c d) := by
    cases c <;> exact .of_eq rfl
  cases d with
  | none => exact .refl s
  | some d =>
    refine State.Tabled.ite ((counted .walk d).trans ?_) (counted c d)
    exact (State.Tabled.refl _).ite (State.walkPhaseFollows_tabled _)

theorem State.quadratureFault_tabled (s : State) (c : Motion) : s.Tabled (s.quadratureFault c) :=
  State.Tabled.ite (.of_eq rfl) (.refl s)

theorem State.windowEnd_tabled (s : State) (c : Motion) : s.Tabled (s.windowEnd c) := by
  have ended : s.Tabled (s.onChan c fun ch => ch.windowEnded (s.k.channel.get c)) := .of_eq rfl
  exact (ended.trans ((State.Tabled.refl _).ite (State.clearCondition_tabled _ _))).trans (State.setCondition_tabled _ _ _)

theorem State.referenceEdge_tabled (s : State) (c : Motion) : s.Tabled (s.referenceEdge c) := by
  unfold State.referenceEdge
  dsimp only
  split
  exacts [.of_eq rfl, .of_eq rfl]

theorem State.switchMade_tabled (s : State) (c : Dig) : s.Tabled (s.switchMade c) := by
  unfold State.switchMade
  split
  · split
    exacts [s.referenceEdge_tabled _, .of_eq rfl]
  · exact .refl s

theorem State.encoderIndex_tabled (s : State) (c : Dig) : s.Tabled (s.encoderIndex c) :=
  State.Tabled.ite ((s.referenceEdge_tabled _).trans (.of_eq rfl)) (.refl s)

theorem State.camIndex_tabled (s : State) : s.Tabled s.camCounted.walkAtIndex := by
  have counted : s.Tabled s.camCounted := (s.referenceEdge_tabled .walk).trans (.of_eq rfl)
  refine counted.trans ?_
  unfold State.walkAtIndex
  dsimp only
  refine State.Tabled.ite (.refl _) (State.Tabled.ite (State.Tabled.ite ?_ ?_) (State.onWalk_tabled _ _))
  · exact (State.onWalk_tabled _ _).trans (State.onWalk_tabled _ _)
  · exact (State.onWalk_tabled _ _).trans (State.walkPhaseFollows_tabled _)

theorem State.walkLiftsOff_tabled (s : State) : s.Tabled s.walkLiftsOff := by
  unfold State.walkLiftsOff
  dsimp only
  exact State.Tabled.ite (.refl s)
    (((State.onWalk_tabled _ _).trans (State.markSites_tabled _)).ite (State.onWalk_tabled _ _))

theorem State.tubLiftsOff_tabled (s : State) : s.Tabled s.tubLiftsOff := (State.walkLiftsOff_tabled _).after rfl

theorem State.tubSetsDown_tabled (s : State) : s.Tabled s.tubSetsDown := by
  have set (t : State) : t.Tabled t.walkSetsDown := (State.Tabled.refl t).ite (t.onWalk_tabled _)
  exact (set _).after rfl

/-! #### Supply, the settings store and the cold start -/

theorem State.starvedCleared_tabled (s : State) : s.Tabled s.starvedCleared :=
  .foldl (fun s _ => s.clearCondition_tabled _) _ s

theorem State.recordsAtEntry_tabled (s : State) : s.Tabled s.recordsAtEntry := .of_eq rfl

theorem State.holdupEntry_tabled (s : State) : s.Tabled s.holdupEntry :=
  (s.recordsAtEntry_tabled.trans (State.raiseCondition_tabled _ _)).trans (State.starvedCleared_tabled _)

theorem State.brakeReturns_tabled (s : State) (m : Motion) : s.Tabled (s.brakeReturns m) := by
  unfold State.brakeReturns
  split
  · exact (s.onBrake_tabled m _).ite ((s.onBrake_tabled m _).trans (State.clearCondition_tabled _ _))
  · exact ((s.onBrake_tabled m _).trans (State.raiseCondition_tabled _ _)).ite (.refl s)
  · exact .refl s
  · exact .refl s

theorem State.gensReturn_tabled (s : State) : s.Tabled s.gensReturn := (State.gensReport_tabled _).after rfl

theorem State.resolverReturns_tabled (s : State) : s.Tabled s.resolverReturns := .of_eq rfl

theorem State.markAtReturn_tabled (s : State) : s.Tabled s.markAtReturn := s.markSites_tabled.ite (.refl s)

theorem State.backInRun_tabled (s : State) : s.Tabled s.backInRun := .of_eq rfl

theorem State.portsReturn_tabled (s : State) : s.Tabled s.portsReturn := .announce .refl _

theorem State.holdupReturn_tabled (s : State) : s.Tabled s.holdupReturn := by
  have records := (s.gensReturn_tabled.trans (State.resolverReturns_tabled _)).trans
    (State.Tabled.foldl State.brakeReturns_tabled Motion.all _)
  exact (((records.trans (State.markAtReturn_tabled _)).trans (State.portsReturn_tabled _)).trans
    (State.clearCondition_tabled _ _)).trans (State.backInRun_tabled _)

theorem State.commitEnds_tabled (s : State) (left : Option Image) : s.Tabled (s.commitEnds left) := by
  unfold State.commitEnds
  split
  · exact .refl s
  · exact (State.setCondition_tabled _ _ _).after rfl

theorem State.coldRaises_tabled (s : State) (found failed : Bool) : s.Tabled (s.coldRaises found failed) := by
  have raised : s.Tabled ((s.setCondition ⟨1, 0⟩ s.inputs.estop).raiseExhausted found) :=
    (s.setCondition_tabled _ _).trans ((State.raiseEvent_tabled _ _).ite (.refl _))
  have channels := raised.trans (.foldl (f := State.syncUnreferenced) (fun s _ => s.setCondition_tabled _ _) Motion.all _)
  have gens := (channels.trans (.foldl (f := State.syncWelded) (fun s _ => s.setCondition_tabled _ _) gensAll _)).trans
    (.foldl (f := State.syncLockedOut) (fun s _ => s.setCondition_tabled _ _) gensAll _)
  exact (gens.trans (State.syncZones_tabled _)).trans (State.setCondition_tabled _ _ _)

/-- The change that the end of a load completes (R180). -/
theorem State.loadEnds_tabled (s : State) :
    s.Tabled (s.loaded.coldRaises s.store.markerFound s.store.goodImage.isNone).mainsAtStart := by
  have loaded : s.Tabled s.loaded := Alarms.Reaches.cold
  exact (loaded.trans (State.coldRaises_tabled _ _ _)).trans ((State.Tabled.refl _).ite (State.holdupEntry_tabled _))

/-! #### Requests -/

theorem State.cabFrame_tabled (s : State) (p : Port) : s.Tabled (s.cabFrame p) := by
  cases p
  · exact (State.Tabled.refl s).ite ((State.clearCondition_tabled _ _).after rfl)
  · exact .refl s

theorem State.readTaken_tabled (s : State) (key : RecordKey) : s.Tabled (s.readTaken key).state := by
  have checked : s.Tabled (s.checkedFor key) := by
    cases key with
    | zone i => exact s.checkBody_tabled i
    | _ => exact .refl s
  unfold State.readTaken
  dsimp only
  split
  exacts [checked, checked]

theorem State.nextTaken_tabled (s : State) (start : NextKey) : s.Tabled (s.nextTaken start).state := by
  unfold State.nextTaken
  split
  exacts [s.readTaken_tabled _, .refl s]

theorem State.giveBack_tabled (s : State) (m : Motion) : s.Tabled (s.giveBack m) := by
  have one (t : State) : t.Tabled (t.giveBackOne m) := by
    unfold State.giveBackOne
    split
    · exact .of_eq rfl
    · split
      exacts [.of_eq rfl, .refl t]
  have loop (n : Nat) (t : State) : t.Tabled (State.giveBackLoop n m t) := by
    induction n generalizing t with
    | zero => exact .refl t
    | succ n ih => exact ((one t).trans (ih _)).ite (.refl t)
  have failing : s.Tabled (s.withdrawFailing m) := .of_eq rfl
  exact (failing.trans (loop 12 _)).ite (.refl s)

theorem State.demandTaken_tabled (s : State) (x : Dig × Option Dir × Complement) : s.Tabled (s.demandTaken x).state := by
  have acts (m : Dig) (d : Option Dir) (c : Complement) : s.Tabled (s.demandActs m d c) := by
    cases d with
    | none => exact .of_eq rfl
    | some d => exact (State.giveBack_tabled _ _).after rfl
  unfold State.demandTaken
  dsimp only
  split
  · exact .refl s
  split
  · exact .refl s
  split
  · exact .refl s
  · exact acts _ _ _

theorem State.armTaken_tabled (s : State) (x : Option Dig) : s.Tabled (s.armTaken x).state := by
  unfold State.armTaken
  split
  · split
    exacts [.refl s, .of_eq rfl]
  · split
    exacts [.of_eq rfl, .refl s]

theorem State.parkTaken_tabled (s : State) : s.Tabled s.parkTaken.state := by
  unfold State.parkTaken
  split
  · split
    exacts [.of_eq rfl, .refl s]
  · exact .refl s

theorem State.walkTaken_tabled (s : State) (o : WalkOrder) : s.Tabled (s.walkTaken o).state := by
  unfold State.walkTaken
  split
  exacts [.refl s, .of_eq rfl]

theorem State.resumeTaken_tabled (s : State) : s.Tabled s.resumeTaken.state := by
  unfold State.resumeTaken
  split
  exacts [.refl s, .of_eq rfl]

theorem State.cancelTaken_tabled (s : State) : s.Tabled s.cancelTaken.state := by
  have cancelled : s.Tabled s.cancelled.cancelReply.state := by
    rw [State.cancelReply_state]
    exact State.Tabled.ite (.of_eq rfl) ((s.onWalk_tabled _).trans (State.walkPass_carries _).table)
  unfold State.cancelTaken
  split
  · exact .refl s
  split
  · exact cancelled
  · split
    exacts [cancelled, .refl s]
  · exact .refl s
  · exact .refl s

theorem State.writeZoneTaken_tabled (s : State) (w : ZoneWrite) : s.Tabled (s.writeZoneTaken w).state := by
  unfold State.writeZoneTaken
  dsimp only
  split
  · exact .refl s
  split
  · exact .refl s
  split
  exacts [.refl s, .of_eq rfl]

theorem State.retireZoneTaken_tabled (s : State) (x : Fin 40 × BitVec 16) : s.Tabled (s.retireZoneTaken x).state := by
  unfold State.retireZoneTaken
  dsimp only
  split
  · exact .refl s
  split
  exacts [.refl s, .of_eq rfl]

theorem State.confirmTaken_tabled (s : State) (x : Option (Fin 40 × Option (BitVec 16))) :
    s.Tabled (s.confirmTaken x).state := by
  unfold State.confirmTaken
  split
  · exact .refl s
  split
  · unfold State.confirmOne
    dsimp only
    split
    · exact .refl s
    split
    exacts [.refl s, .of_eq rfl]
  · unfold State.confirmAll
    split
    exacts [.of_eq rfl, .refl s]

theorem State.referenceResetTaken_tabled (s : State) (c : Motion) : s.Tabled (s.referenceResetTaken c).state := by
  unfold State.referenceResetTaken
  split
  exacts [.refl s, .of_eq rfl]

theorem State.acknowledgeTaken_tabled (s : State) (p : Port) (key : AlarmKey) :
    s.Tabled (s.acknowledgeTaken p key).state := by
  unfold State.acknowledgeTaken
  split
  exacts [.refl s, .acknowledge .refl _ p key]

theorem State.setShelf_tabled (s : State) (key : AlarmKey) (h : Option Shelf) : s.Tabled (s.setShelf key h) :=
  .shelve .refl key fun _ => h

theorem State.shelveTaken_tabled (s : State) (x : AlarmKey × Nat) : s.Tabled (s.shelveTaken x).state := by
  unfold State.shelveTaken
  split
  · exact .refl s
  · split
    exacts [.refl s, .refl s, s.setShelf_tabled _ _, s.setShelf_tabled _ _]

theorem State.unshelveTaken_tabled (s : State) (key : AlarmKey) : s.Tabled (s.unshelveTaken key).state := by
  unfold State.unshelveTaken
  split
  · exact .refl s
  · split
    exacts [.refl s, s.setShelf_tabled _ _]

/-- A count of a shelf changes the shelf alone (R144). -/
theorem AlarmRec.shelfCounted_eq (r : AlarmRec) : { r with shelf := r.shelfCounted.shelf } = r.shelfCounted := by
  unfold AlarmRec.shelfCounted
  split <;> rfl

theorem State.shelfCounts_tabled (s : State) (key : AlarmKey) : s.Tabled (s.shelfCounts key) := by
  have counted : (fun r => some r.shelfCounted) = fun r : AlarmRec => some { r with shelf := r.shelfCounted.shelf } :=
    funext fun r => congrArg some r.shelfCounted_eq.symm
  unfold State.shelfCounts
  rw [counted]
  exact .shelve .refl key fun r => r.shelfCounted.shelf

theorem State.writeConstantTaken_tabled (s : State) (x : ConstKey × Int) : s.Tabled (s.writeConstantTaken x).state := by
  have written (t : State) (key : ConstKey) (old : Constants) : t.Tabled (t.constantWritten key old) := by
    have cpr (c : Motion) : t.Tabled (t.cprWritten c) := State.Tabled.ite (.of_eq rfl) (.refl t)
    unfold State.constantWritten
    split
    · exact State.Tabled.ite (((cpr _).ite (.refl t)).trans (.of_eq rfl)) (.refl t)
    · exact State.Tabled.ite (.of_eq rfl) (State.Tabled.ite (.of_eq rfl) (.refl t))
  unfold State.writeConstantTaken
  dsimp only
  split
  · exact .refl s
  split
  · exact .refl s
  · exact (written _ _ _).after rfl

theorem State.commitBegun_tabled (s : State) : s.Tabled s.commitBegun := by
  have begun (t : State) (x : CommitRun) : t.Tabled { t with commit := some x } := .of_eq rfl
  exact s.checkAll_tabled.trans (begun _ _)

theorem takeRequest_tabled {α : Type} (q : Spec) (parse : State → List Byte → Field α) {act : α → State → Taken}
    (ha : ∀ (t : State) (x : α), t.Tabled (act x t).state) (f : Frame) (s : State) :
    s.Tabled (takeRequest q parse act f s) := by
  unfold takeRequest
  split
  · exact .of_eq rfl
  · split
    · next x _ =>
      unfold guardTest
      split
      · exact .of_eq rfl
      · exact (ha s x).trans (.of_eq rfl)
    · exact .of_eq rfl

theorem State.answerLeaves_tabled (s : State) (p : Port) : s.Tabled (s.answerLeaves p) := by
  unfold State.answerLeaves
  split
  · exact .refl s
  · next a _ =>
    cases a.after
    exacts [.of_eq rfl, .of_eq rfl, Alarms.Reaches.cold]

theorem State.cabLinkEnds_tabled (s : State) : s.Tabled s.cabLinkEnds := by
  unfold State.cabLinkEnds
  split
  · exact (State.raiseCondition_tabled _ _).after rfl
  · exact .refl s
  · exact .refl s

theorem State.checkFails_tabled (s : State) (p : Port) (tag code : Byte) : s.Tabled (s.checkFails p tag code) :=
  State.Tabled.ite (.of_eq rfl) (.of_eq rfl)

/-! ### How every command ends -/

/-- What leaves the generator table's conditions as they were: the conditions and the inputs are the same, and every
generator has its standing. -/
structure State.SameStanding (s t : State) : Prop where
  mains : t.OnMains → s.OnMains
  conditions : t.alarms.conditions = s.alarms.conditions
  inputs : t.inputs = s.inputs
  standing : ∀ g, (s.gens.get g).Standing (t.gens.get g)

theorem State.SameStanding.refl (s : State) : s.SameStanding s := ⟨id, rfl, rfl, fun _ => .refl _⟩

/-- A command's end: a change completed on a table reached from the table before, or no change of the generators on mains. -/
def State.Concludes (s t : State) : Prop :=
  (∃ s0 u, s.Tabled u ∧ t = State.settle s0 u) ∨ s.Tabled t ∧ (t.OnMains → s.SameStanding t)

theorem State.Concludes.refl (s : State) : s.Concludes s := .inr ⟨.refl s, fun _ => .refl s⟩

theorem State.Concludes.of_off {s t : State} (table : s.Tabled t) (off : t.power ≠ .running) : s.Concludes t :=
  .inr ⟨table, fun mains => absurd mains.1 off⟩

/-- A part whose records are lost has a cold table, and does not run (R160, R180). -/
theorem State.dark_concludes (s : State) {power : Power} (off : power ≠ .running) {pending : List Instr} {store : Store}
    {inputs : Inputs} : s.Concludes (State.dark power pending store inputs) := .of_off Alarms.Reaches.cold off

theorem State.Concludes.ite {s t u : State} {p : Prop} [Decidable p] (ht : s.Concludes t) (hu : s.Concludes u) :
    s.Concludes (if p then t else u) := by
  split
  exacts [ht, hu]

theorem State.event_concludes (s : State) {f : State → State} (hf : s.Tabled (f s)) : s.Concludes (s.event f) := by
  unfold State.event
  split
  exacts [.inl ⟨_, _, hf, rfl⟩, .refl s, .refl s]

theorem State.levelEvent_concludes (s : State) {l : Inputs → Inputs} {f : State → State} (hf : ∀ t : State, t.Tabled (f t)) :
    s.Concludes (s.levelEvent l f) := by
  have moved : s.Tabled { s with inputs := l s.inputs } := .of_eq rfl
  unfold State.levelEvent
  dsimp only
  split
  · exact .inl ⟨_, _, moved.trans (hf _), rfl⟩
  · next loading => exact .of_off moved (by rw [loading]; decide)
  · next stopped => exact .of_off moved (by rw [stopped]; decide)

theorem State.frameTaken_concludes (s : State) (p : Port) {take : State → State} (ht : ∀ t : State, t.Tabled (take t)) :
    s.Concludes (s.frameTaken p take) := by
  have hunted : s.Tabled (s.hunt p) := .of_eq rfl
  unfold State.frameTaken
  split
  · split
    · exact .inr ⟨hunted, fun mains => ⟨fun _ => mains, rfl, rfl, fun _ => .refl _⟩⟩
    · exact .inl ⟨_, _, (hunted.trans (State.cabFrame_tabled _ p)).trans (ht _), rfl⟩
  · exact .refl s
  · exact .refl s

theorem request_concludes {α : Type} (q : Spec) (parse : State → List Byte → Field α) (act : α → State → Taken) (f : Frame)
    (s : State) (ha : ∀ (t : State) (x : α), t.Tabled (act x t).state) : s.Concludes (request q parse act f s) :=
  s.frameTaken_concludes f.port fun t => takeRequest_tabled q parse ha f t

theorem Gen.tick_standing (g : Gen) : g.Standing g.tick := by
  obtain ⟨st, attempts⟩ := g
  cases st with
  | moving v => exact .of_unlocked rfl rfl rfl
  | _ => exact .refl _

theorem State.tick_concludes (s : State) : s.Concludes s.tick := by
  have ticked : s.Tabled s.tickBoth := .tick .refl
  unfold State.tick
  split
  · refine State.Concludes.ite (.inr ⟨ticked, fun mains => ⟨fun _ => mains, rfl, rfl, fun _ => .refl _⟩⟩)
      (.inr ⟨ticked, fun mains => ⟨fun _ => mains, rfl, rfl, fun g => ?_⟩⟩)
    show (s.gens.get g).Standing ((s.gens.map Gen.tick).get g)
    rw [Table.get_map]
    exact Gen.tick_standing _
  · next loading => exact .of_off (.of_eq rfl) (by show s.power ≠ .running; rw [loading]; decide)
  · exact .refl s

/-- Every command ends so. -/
theorem exec_concludes (c : Instr) (s : State) : ∃ t, exec c s = .next t ∧ s.Concludes t := by
  cases c with
  | read f => exact ⟨_, rfl, request_concludes _ _ _ f s fun t key => t.readTaken_tabled key⟩
  | next f => exact ⟨_, rfl, request_concludes _ _ _ f s fun t start => t.nextTaken_tabled start⟩
  | demand f => exact ⟨_, rfl, request_concludes _ _ _ f s fun t x => t.demandTaken_tabled x⟩
  | arm f => exact ⟨_, rfl, request_concludes _ _ _ f s fun t x => t.armTaken_tabled x⟩
  | parkMachine f => exact ⟨_, rfl, request_concludes _ _ _ f s fun t _ => t.parkTaken_tabled⟩
  | walk f => exact ⟨_, rfl, request_concludes _ _ _ f s fun t o => t.walkTaken_tabled o⟩
  | walkResume f => exact ⟨_, rfl, request_concludes _ _ _ f s fun t _ => t.resumeTaken_tabled⟩
  | walkCancel f => exact ⟨_, rfl, request_concludes _ _ _ f s fun t _ => t.cancelTaken_tabled⟩
  | writeZone f => exact ⟨_, rfl, request_concludes _ _ _ f s fun t w => t.writeZoneTaken_tabled w⟩
  | retireZone f => exact ⟨_, rfl, request_concludes _ _ _ f s fun t x => t.retireZoneTaken_tabled x⟩
  | confirmZones f => exact ⟨_, rfl, request_concludes _ _ _ f s fun t x => t.confirmTaken_tabled x⟩
  | referenceReset f => exact ⟨_, rfl, request_concludes _ _ _ f s fun t c => t.referenceResetTaken_tabled c⟩
  | acknowledge f => exact ⟨_, rfl, request_concludes _ _ _ f s fun t key => t.acknowledgeTaken_tabled f.port key⟩
  | shelve f => exact ⟨_, rfl, request_concludes _ _ _ f s fun t x => t.shelveTaken_tabled x⟩
  | unshelve f => exact ⟨_, rfl, request_concludes _ _ _ f s fun t key => t.unshelveTaken_tabled key⟩
  | setAnnounce f => exact ⟨_, rfl, request_concludes _ _ _ f s fun _ _ => .announce .refl _⟩
  | writeConstant f => exact ⟨_, rfl, request_concludes _ _ _ f s fun t x => t.writeConstantTaken_tabled x⟩
  | commit f => exact ⟨_, rfl, request_concludes _ _ _ f s fun t _ => t.commitBegun_tabled⟩
  | status f | stopAll f | walkHalt f | flushCache f | lockOutGenerator f | returnGenerator f | openGuard f | restart f =>
    exact ⟨_, rfl, request_concludes _ _ _ f s fun _ _ => .of_eq rfl⟩
  | unknown f code => exact ⟨_, rfl, s.frameTaken_concludes _ fun _ => .of_eq rfl⟩
  | check p tag code => exact ⟨_, rfl, s.event_concludes (s.checkFails_tabled p tag code)⟩
  | lengthOutOfRange p length | frameGap p byte | lineBreakOrFramingError p | frameDiscarded p | guardWindowEnd
  | markerWriteDone => exact ⟨_, rfl, s.event_concludes (.of_eq rfl)⟩
  | answerSent p => exact ⟨_, rfl, s.event_concludes (s.answerLeaves_tabled p)⟩
  | cabLinkPeriodEnd => exact ⟨_, rfl, s.event_concludes s.cabLinkEnds_tabled⟩
  | quadratureCount c input level => exact ⟨_, rfl, s.levelEvent_concludes fun t => t.count?_tabled c _⟩
  | countDirectionCount c input level => exact ⟨_, rfl, s.levelEvent_concludes fun t => t.count?_tabled c _⟩
  | quadratureError c => exact ⟨_, rfl, s.levelEvent_concludes fun t => t.quadratureFault_tabled c⟩
  | rateWindowEnd c => exact ⟨_, rfl, s.event_concludes (s.windowEnd_tabled c)⟩
  | referenceSwitchMake c => exact ⟨_, rfl, s.levelEvent_concludes fun t => t.switchMade_tabled c⟩
  | referenceSwitchBreak c => exact ⟨_, rfl, s.levelEvent_concludes fun _ => .of_eq rfl⟩
  | encoderIndex c => exact ⟨_, rfl, s.event_concludes (s.encoderIndex_tabled c)⟩
  | camIndex => exact ⟨_, rfl, s.event_concludes s.camIndex_tabled⟩
  | tubLiftOff => exact ⟨_, rfl, s.levelEvent_concludes State.tubLiftsOff_tabled⟩
  | tubSetDown => exact ⟨_, rfl, s.levelEvent_concludes State.tubSetsDown_tabled⟩
  | scrubVisit faults =>
    have checked := (s.bodiesFault_tabled faults).trans (State.checkBody_tabled _ s.zones.scrub)
    exact ⟨_, rfl, s.event_concludes (checked.trans (.of_eq rfl))⟩
  | resolutionEnd => exact ⟨_, rfl, s.event_concludes s.resolutionEnds_tabled⟩
  | closureProof g loop | dropOutProof g loop | strayOrLostProof g loop present | lockedOutProofChange g loop present =>
    exact ⟨_, rfl, s.levelEvent_concludes fun t => t.inRun_tabled (t.genTakes_tabled g _)⟩
  | openingProofTimeEnd g | failedClose g => exact ⟨_, rfl, s.event_concludes (s.inRun_tabled (s.genTakes_tabled g _))⟩
  | releaseHoldExpiry m =>
    have ended : s.Tabled (s.holdExpires m) := State.Tabled.ite (.of_eq rfl) (.refl s)
    exact ⟨_, rfl, s.event_concludes (s.inRun_tabled ended)⟩
  | starveTimeEnd m =>
    have starves : s.Tabled (s.starves m) := (s.raiseCondition_tabled _).ite (.refl s)
    exact ⟨_, rfl, s.event_concludes (s.inRun_tabled starves)⟩
  | brakeReleaseProof m => exact ⟨_, rfl, s.levelEvent_concludes fun t => t.releaseProofComes_tabled m⟩
  | brakeSetProof m => exact ⟨_, rfl, s.levelEvent_concludes fun t => t.brakeShowsSet_tabled m⟩
  | releaseProofLost m => exact ⟨_, rfl, s.levelEvent_concludes fun t => t.brakeShowsSet_tabled m⟩
  | brakeLiftWithoutCommand m => exact ⟨_, rfl, s.levelEvent_concludes fun t => t.brakeShowsReleased_tabled m⟩
  | brakeReleaseTimeEnd m => exact ⟨_, rfl, s.event_concludes (s.inRun_tabled (s.releaseTimeEnds_tabled m))⟩
  | brakeSetTimeEnd m => exact ⟨_, rfl, s.event_concludes (s.inRun_tabled (s.setTimeEnds_tabled m))⟩
  | stopTimeout m => exact ⟨_, rfl, s.event_concludes (s.inRun_tabled (s.onBrake_tabled m _))⟩
  | prepareTimeout => exact ⟨_, rfl, s.event_concludes (s.inRun_tabled s.prepareTimesOut_tabled)⟩
  | phaseTimeout => exact ⟨_, rfl, s.event_concludes (s.inRun_tabled s.phaseTimesOut_tabled)⟩
  | dwellEnd =>
    have ended : s.Tabled s.dwellEnds := (s.onWalk_tabled _).ite (.refl s)
    exact ⟨_, rfl, s.event_concludes (s.inRun_tabled ended)⟩
  | emergencyStopInput stop => exact ⟨_, rfl, s.levelEvent_concludes fun t => t.setCondition_tabled _ _⟩
  | shelfMinute key => exact ⟨_, rfl, s.event_concludes (s.shelfCounts_tabled key)⟩
  | mainsLoss => exact ⟨_, rfl, s.levelEvent_concludes fun t => (State.Tabled.refl t).ite t.holdupEntry_tabled⟩
  | mainsReturn => exact ⟨_, rfl, s.levelEvent_concludes fun t => t.holdupReturn_tabled.ite (.refl t)⟩
  | commitWriteEnd left => exact ⟨_, rfl, s.event_concludes (s.commitEnds_tabled left)⟩
  | holdupExhausted => exact ⟨_, rfl, (s.dark_concludes (power := .stopped) nofun).ite (.refl s)⟩
  | powerOn => exact ⟨_, rfl, (State.Concludes.refl s).ite (s.dark_concludes (power := .loading) nofun)⟩
  | resetLine =>
    have started : s.Concludes s.coldStart := s.dark_concludes (power := .loading) nofun
    refine ⟨_, rfl, ?_⟩
    split
    exacts [started, started, .refl s]
  | settingsLoadEnd =>
    refine ⟨_, rfl, ?_⟩
    split
    exacts [.inl ⟨_, _, s.loadEnds_tabled, rfl⟩, .refl s, .refl s]

theorem step_concludes {s t : State} (stepped : step s = .next t) : s.Concludes t := by
  unfold step at stepped
  split at stepped
  · next c rest _ =>
    obtain ⟨u, run, ends⟩ := exec_concludes c { s with pending := rest }
    rw [run] at stepped
    cases stepped
    exact ends.imp_right fun ⟨table, stands⟩ => ⟨table, fun mains =>
      have same := stands mains
      ⟨same.mains, same.conditions, same.inputs, same.standing⟩⟩
  · cases stepped
    exact s.tick_concludes

/-! ### The generator conditions through every step (R70, R142) -/

theorem State.Reports.conditions {s : State} {g : Fin 12} {x : Gen} (h : s.Reports g x)
    (standing : x.Standing (s.gens.get g)) : (s.isTrue ⟨10, g.val + 1⟩ = true ↔ (s.gens.get g).keepsTrying = true) ∧
      (s.isTrue ⟨11, g.val + 1⟩ = true ↔ (s.gens.get g).showsWeld (s.proofs g) = true) ∧
      (s.isTrue ⟨12, g.val + 1⟩ = true ↔ (s.gens.get g).isLockedOut = true) := by
  rw [h.noProof, h.welded, h.lockedOut, standing.keepsTrying, standing.showsWeld, standing.lockedOut]
  exact ⟨Iff.rfl, Iff.rfl, Iff.rfl⟩

theorem State.GeneratorConditions.sameStanding {s t : State} (h : s.GeneratorConditions) (same : s.SameStanding t) :
    t.GeneratorConditions := by
  have truth (k : AlarmKey) : t.isTrue k = s.isTrue k := by
    unfold State.isTrue Alarms.isTrue
    rw [same.conditions]
  intro g
  have standing := same.standing g
  unfold State.proofs
  rw [truth, truth, truth, same.inputs, standing.keepsTrying, standing.showsWeld, standing.lockedOut]
  exact h g

/-- Settles O9: the table goes by its own operations alone, which keep the classes legal. So no code of the generator or zone
table acts as a TRIP, and what the completion of a change sets on mains is not moved again before its end. -/
theorem generatorConditionsFollow : Obligations.GeneratorConditionsFollow := by
  intro s t legal before stepped
  rcases step_concludes stepped with ⟨s0, u, table, rfl⟩ | ⟨table, stands⟩
  · refine ⟨(table.trans (State.settle_tabled s0 u)).classesLegal legal, fun mains g => ?_⟩
    have settled := State.settle_same s0 u
    have uMains : u.OnMains := ⟨settled.power.symm.trans mains.1, (congrArg Supply.state settled.supply).symm.trans mains.2⟩
    obtain ⟨standing, reports⟩ := (State.Shows.of_legal (table.classesLegal legal) g).settle s0 uMains
    exact reports.conditions standing
  · refine ⟨table.classesLegal legal, fun mains => ?_⟩
    have same := stands mains
    exact (before (same.mains mains)).sameStanding same

end Sys2Proof.Machine
end

section
/-! SUPPORT. The contactor sequencer's steps (04 R53–R64): what each operation on one generator record does by case, and the
proof inputs and proof times that bring it. -/

namespace Sys2Proof.Machine

/-! ### The beginning of a step (R56, R57) -/

/-- An opening with target OPEN on a loop that shows its proof (R56). -/
theorem openOut_present {p : PerMotion Bool} {loop : Motion} (h : p.get loop = true) (k : Constants)
    (pending : Option PendingCause) (attempts : Nat) : openOut k p loop pending attempts =
      ⟨.moving { holder := none, step := .opening, on := loop, loop := some loop, target := none, afterFail := .no,
                 lockPending := pending, keepTrying := false, seq := 0, timer := some k.contactorProofTime }, attempts⟩ :=
  if_pos h

theorem openOut_absent {p : PerMotion Bool} {loop : Motion} (h : p.get loop = false) (k : Constants)
    (pending : Option PendingCause) (attempts : Nat) : openOut k p loop pending attempts = ⟨openedTo pending, attempts⟩ :=
  if_neg (Bool.eq_false_iff.1 h)

theorem beginClose_absent {p : PerMotion Bool} {target : Motion} (h : p.get target = false) (k : Constants) (v : Move)
    (holder : Motion) (attempts : Nat) : beginClose k p v holder target attempts =
      ⟨.moving { v with step := .closing, on := target, loop := none, target := some target, afterFail := .no,
                        timer := some k.contactorProofTime }, attempts⟩ := if_neg (Bool.eq_false_iff.1 h)

/-! ### The end of a CLOSING step (R57, R60, R64) -/

section Closure

variable {k : Constants} {p : PerMotion Bool} {now : Nat} {v : Move} {n : Nat}

theorem closure_granted {h : Motion} (free : v.lockPending = none) (holder : v.holder = some h) :
    closure k p now v n = ⟨.granted h, n⟩ := by
  unfold closure
  rw [free, holder]

theorem closure_parked (free : v.lockPending = none) (holder : v.holder = none) (policy : k.parkPolicy = .parkLast) :
    closure k p now v n = ⟨.parked v.on now, n⟩ := by
  unfold closure
  rw [free, holder]
  dsimp only
  rw [policy]

/-- A pending lock-out, or the policy OPEN without a holder, opens the contactor again (R60, R64). -/
theorem closure_opens (h : v.lockPending ≠ none ∨ (v.holder = none ∧ k.parkPolicy = .openContactor)) :
    closure k p now v n = openOut k p v.on v.lockPending n := by
  unfold closure
  cases pending : v.lockPending with
  | some c => rfl
  | none =>
    obtain ⟨holder, policy⟩ := h.resolve_left fun ne => ne pending
    rw [holder]
    dsimp only
    rw [policy]

end Closure

/-! ### The end of an OPENING step (R56, R58, R59, R61, R64) -/

section Opening

variable {k : Constants} {p : PerMotion Bool} {v : Move} {n : Nat}

theorem endFailed_lockOut (failed : v.afterFail = .lockOut) :
    endFailed k p v n = ⟨⟨.lockedOut .noProof none, n⟩, true⟩ := if_pos failed

/-- The close begins again for a holder (R58, R59). -/
theorem endFailed_closes {h : Motion} (again : v.afterFail ≠ .lockOut) (free : v.lockPending = none)
    (holder : v.holder = some h) : endFailed k p v n =
      (beginClose k p { v with keepTrying := decide (v.afterFail = .keepTrying) } h v.on n).quiet := by
  unfold endFailed
  rw [if_neg again, free, holder]

/-- Without a holder, or with a lock-out pending, no close begins again (R61, R64). -/
theorem endFailed_opened (again : v.afterFail ≠ .lockOut) (h : v.holder = none ∨ v.lockPending ≠ none) :
    endFailed k p v n = Gen.quiet ⟨openedTo v.lockPending, n⟩ := by
  unfold endFailed
  rw [if_neg again]
  split
  · next h' free holder =>
    rcases h with none | pending
    · rw [none] at holder
      cases holder
    · exact absurd free pending
  · rfl

theorem dropOut_failed (failed : v.afterFail ≠ .no) : dropOut k p v n = endFailed k p v n := if_pos failed

/-- The close on the target begins for a holder (R56). -/
theorem dropOut_closes {h target : Motion} (fresh : v.afterFail = .no) (free : v.lockPending = none)
    (holder : v.holder = some h) (aims : v.target = some target) :
    dropOut k p v n = (beginClose k p v h target n).quiet := by
  unfold dropOut
  rw [if_neg fun ne => ne fresh, free, holder, aims]

/-- A move that no longer closes anywhere ends at its opening (R56, R61, R64). -/
theorem dropOut_opened (fresh : v.afterFail = .no) (h : v.lockPending ≠ none ∨ v.holder = none ∨ v.target = none) :
    dropOut k p v n = Gen.quiet ⟨openedTo v.lockPending, n⟩ := by
  unfold dropOut
  rw [if_neg fun ne => ne fresh]
  split
  · next h' target free holder aims =>
    rcases h with pending | none | none
    · exact absurd free pending
    · rw [none] at holder
      cases holder
    · rw [none] at aims
      cases aims
  · rfl

/-- The move of a failed close, in the opening on its target (R58). -/
def Move.failed (v : Move) (k : Constants) (attempts : Nat) : Move :=
  { v with step := .opening, loop := none, afterFail := afterFailedClose k attempts, timer := some k.contactorProofTime }

theorem failedClose_present (closing : v.step = .closing) (h : p.get v.on = true) :
    failedClose k p ⟨.moving v, n⟩ =
      Gen.quiet ⟨.moving (v.failed k (min (n + 1) k.transferAttempts)), min (n + 1) k.transferAttempts⟩ := by
  unfold failedClose
  dsimp only
  rw [closing]
  exact if_pos h

theorem failedClose_absent (closing : v.step = .closing) (h : p.get v.on = false) :
    failedClose k p ⟨.moving v, n⟩ =
      endFailed k p (v.failed k (min (n + 1) k.transferAttempts)) (min (n + 1) k.transferAttempts) := by
  unfold failedClose
  dsimp only
  rw [closing]
  exact if_neg (Bool.eq_false_iff.1 h)

/-- What a failed close makes of its attempts, by whether they reach the constant (R58, R59). -/
theorem afterFailedClose_counted (k : Constants) (n : Nat) : afterFailedClose k (min (n + 1) k.transferAttempts) =
    if n + 1 < k.transferAttempts then .again
    else if k.attemptPolicy = .lockOut then .lockOut
    else .keepTrying := by
  by_cases below : n + 1 < k.transferAttempts
  · rw [if_pos below, Nat.min_eq_left below.le, afterFailedClose_again below]
  · have reached : k.transferAttempts ≤ min (n + 1) k.transferAttempts := le_min (Nat.not_lt.1 below) le_rfl
    rw [if_neg below]
    cases policy : k.attemptPolicy with
    | lockOut => rw [afterFailedClose_lockOut reached policy, if_pos rfl]
    | keepTrying => rw [afterFailedClose_keepTrying reached policy, if_neg (by decide)]

theorem Move.failed_afterFail_reached (reached : k.transferAttempts ≤ n + 1) (policy : k.attemptPolicy = .lockOut) :
    (v.failed k (min (n + 1) k.transferAttempts)).afterFail = .lockOut := by
  refine (afterFailedClose_counted k n).trans ?_
  rw [if_neg (Nat.not_lt.2 reached), if_pos policy]

theorem Move.failed_afterFail_ne_lockOut (h : n + 1 < k.transferAttempts ∨ k.attemptPolicy = .keepTrying) :
    (v.failed k (min (n + 1) k.transferAttempts)).afterFail ≠ .lockOut := by
  show afterFailedClose k (min (n + 1) k.transferAttempts) ≠ .lockOut
  rw [afterFailedClose_counted]
  split
  · decide
  · next reached => rw [if_neg (by rw [h.resolve_left reached]; decide)]; decide

/-- At the constant under LOCK OUT the generator is LOCKED OUT with cause NO PROOF, and the event is raised, whatever the move
was for (R59, log entry 15). -/
theorem failedClose_locksOut (closing : v.step = .closing) (absent : p.get v.on = false)
    (reached : k.transferAttempts ≤ n + 1) (policy : k.attemptPolicy = .lockOut) :
    failedClose k p ⟨.moving v, n⟩ = ⟨⟨.lockedOut .noProof none, k.transferAttempts⟩, true⟩ := by
  rw [failedClose_absent closing absent, endFailed_lockOut (Move.failed_afterFail_reached reached policy),
    Nat.min_eq_right reached]

/-- Else the close begins again for a holder, as a failing claim once the attempts have reached the constant (R58, R59). -/
theorem failedClose_closes {h : Motion} (closing : v.step = .closing) (absent : p.get v.on = false)
    (free : v.lockPending = none) (holder : v.holder = some h)
    (again : n + 1 < k.transferAttempts ∨ k.attemptPolicy = .keepTrying) :
    failedClose k p ⟨.moving v, n⟩ = Gen.quiet ⟨.moving
      { v with loop := none, target := some v.on, afterFail := .no, keepTrying := decide (k.transferAttempts ≤ n + 1),
               timer := some k.contactorProofTime }, min (n + 1) k.transferAttempts⟩ := by
  have trying : decide ((v.failed k (min (n + 1) k.transferAttempts)).afterFail = .keepTrying) =
      decide (k.transferAttempts ≤ n + 1) := by
    refine decide_eq_decide.2 ?_
    show afterFailedClose k (min (n + 1) k.transferAttempts) = .keepTrying ↔ _
    rw [afterFailedClose_counted]
    by_cases below : n + 1 < k.transferAttempts
    · simp [below]
    · simp [below, again.resolve_left below, Nat.not_lt.1 below]
  have still : p.get (v.failed k (min (n + 1) k.transferAttempts)).on = false := absent
  rw [failedClose_absent closing absent, endFailed_closes (Move.failed_afterFail_ne_lockOut again) free holder, trying,
    beginClose_absent still, closing]
  rfl

end Opening

/-! ### A proof input and a proof time on the state -/

theorem State.inRun_onMains {s : State} (mains : s.OnMains) (f : State → State) : s.inRun f = f s :=
  if_neg (by rw [State.inHoldup_of_onMains mains]; decide)

section Takes

variable {s : State} {g : Fin 12} {loop : Motion} {x : Gen}

theorem State.genTakes_quiet {f : Gen → GenResult} (own : f (s.gens.get g) = x.quiet) :
    s.genTakes g f = { s with gens := s.gens.set g x } := by
  unfold State.genTakes
  dsimp only
  rw [own]
  rfl

theorem State.genTakes_event {f : Gen → GenResult} (own : f (s.gens.get g) = ⟨x, true⟩) :
    s.genTakes g f = State.raiseEvent { s with gens := s.gens.set g x } ⟨10, g.val + 1⟩ := by
  unfold State.genTakes
  dsimp only
  rw [own]
  rfl

/-- What the sequencer makes of a proof that takes a level (R54). -/
def proofTaken (k : Constants) (p : PerMotion Bool) (now : Nat) (loop : Motion) (present : Bool) (r : Gen) : GenResult :=
  if present then proofAppears k p now loop r else proofLost k p loop r

/-- On mains the sequencer compares the record with the proofs as they now are (R54). -/
theorem State.proofEvent_onMains (mains : s.OnMains) (g : Fin 12) (loop : Motion) (present : Bool) :
    s.proofEvent g loop present = State.settle s (({ s with inputs := s.inputs.setProof g loop present } : State).genTakes g
      (proofTaken s.k ((s.proofs g).set loop present) s.now loop present)) := by
  have proofs : ({ s with inputs := s.inputs.setProof g loop present } : State).proofs g =
      (s.proofs g).set loop present := Table.get_set_self _ _ _
  unfold State.proofEvent
  rw [s.levelEvent_runs _ _ mains.1]
  unfold State.proofChanges
  rw [State.inRun_onMains (s := { s with inputs := s.inputs.setProof g loop present }) mains, proofs]
  rfl

theorem State.proofEvent_quiet (mains : s.OnMains) {present : Bool}
    (own : proofTaken s.k ((s.proofs g).set loop present) s.now loop present (s.gens.get g) = x.quiet) :
    s.proofEvent g loop present = State.settle s { s with
      inputs := s.inputs.setProof g loop present, gens := s.gens.set g x } :=
  (State.proofEvent_onMains mains g loop present).trans (congrArg (State.settle s) (State.genTakes_quiet own))

theorem State.proofEvent_event (mains : s.OnMains) {present : Bool}
    (own : proofTaken s.k ((s.proofs g).set loop present) s.now loop present (s.gens.get g) = ⟨x, true⟩) :
    s.proofEvent g loop present = State.settle s (State.raiseEvent { s with
      inputs := s.inputs.setProof g loop present, gens := s.gens.set g x } ⟨10, g.val + 1⟩) :=
  (State.proofEvent_onMains mains g loop present).trans (congrArg (State.settle s) (State.genTakes_event own))

theorem exec_failedClose_quiet (mains : s.OnMains) (own : failedClose s.k (s.proofs g) (s.gens.get g) = x.quiet) :
    exec (.failedClose g) s = .next (State.settle s { s with gens := s.gens.set g x }) := by
  show Host.Outcome.next (s.event _) = _
  rw [s.event_runs _ mains.1, State.inRun_onMains mains, State.genTakes_quiet (x := x) own]

theorem exec_failedClose_event (mains : s.OnMains) (own : failedClose s.k (s.proofs g) (s.gens.get g) = ⟨x, true⟩) :
    exec (.failedClose g) s =
      .next (State.settle s (State.raiseEvent { s with gens := s.gens.set g x } ⟨10, g.val + 1⟩)) := by
  show Host.Outcome.next (s.event _) = _
  rw [s.event_runs _ mains.1, State.inRun_onMains mains, State.genTakes_event (x := x) own]

end Takes

/-! ### The proofs that a move waits for (R56–R60, R64) -/

section Awaited

variable {k : Constants} {p : PerMotion Bool} {now : Nat} {v : Move} {n : Nat}

theorem proofTaken_closing (closing : v.step = .closing) :
    proofTaken k p now v.on true ⟨.moving v, n⟩ = (closure k p now v n).quiet := by
  show proofAppears k p now v.on ⟨.moving v, n⟩ = _
  unfold proofAppears
  dsimp only
  rw [if_pos rfl, closing]

theorem proofTaken_opening (opening : v.step = .opening) :
    proofTaken k p now v.on false ⟨.moving v, n⟩ = dropOut k p v n := by
  show proofLost k p v.on ⟨.moving v, n⟩ = _
  unfold proofLost
  dsimp only
  rw [if_pos rfl, opening]

end Awaited

section Moving

variable {s : State} {g : Fin 12} {v : Move} {n : Nat} {x : Gen}

theorem exec_closureProof_awaited (mains : s.OnMains) (moving : s.gens.get g = ⟨.moving v, n⟩) (closing : v.step = .closing)
    (own : closure s.k ((s.proofs g).set v.on true) s.now v n = x) : exec (.closureProof g v.on) s =
      .next (State.settle s { s with inputs := s.inputs.setProof g v.on true, gens := s.gens.set g x }) := by
  refine congrArg Host.Outcome.next (State.proofEvent_quiet mains ?_)
  rw [moving, proofTaken_closing closing, own]

theorem exec_dropOutProof_awaited (mains : s.OnMains) (moving : s.gens.get g = ⟨.moving v, n⟩) (opening : v.step = .opening)
    (own : dropOut s.k ((s.proofs g).set v.on false) v n = x.quiet) : exec (.dropOutProof g v.on) s =
      .next (State.settle s { s with inputs := s.inputs.setProof g v.on false, gens := s.gens.set g x }) := by
  refine congrArg Host.Outcome.next (State.proofEvent_quiet mains ?_)
  rw [moving, proofTaken_opening opening, own]

end Moving

/-- Settles O27: the proof that a step waits for is that of the loop of its move, and each operation on the record has one
equation for each clause. -/
theorem proofsEndMoveSteps : Obligations.ProofsEndMoveSteps := by
  refine ⟨?closing, ?opening, ?reopening⟩
  case closing =>
    rintro s g _ v n mains moving closing rfl
    refine ⟨fun h free holder => ?_, fun free holder policy => ?_, fun opens => ?_⟩
    all_goals refine exec_closureProof_awaited mains moving closing ?_
    · exact closure_granted free holder
    · exact closure_parked free holder policy
    · rw [closure_opens opens, openOut_present (PerMotion.get_set_self _ _ _)]
  case opening =>
    rintro s g _ v n mains moving opening rfl fresh
    refine ⟨fun h target free holder aims apart absent => ?_, fun free none => ?_, fun c pending => ?_⟩
    all_goals refine exec_dropOutProof_awaited mains moving opening ?_
    · have still : ((s.proofs g).set v.on false).get target = false := (PerMotion.get_set_ne _ _ apart).trans absent
      rw [dropOut_closes fresh free holder aims, beginClose_absent still]
    · rw [dropOut_opened fresh (.inr none), free]
      rfl
    · rw [dropOut_opened fresh (.inl (by rw [pending]; nofun)), pending]
      rfl
  case reopening =>
    rintro s g _ v n mains moving opening rfl failed
    refine ⟨fun out => ?_, fun h again free holder => ?_, fun again free holder => ?_, fun c again pending => ?_⟩
    · refine congrArg Host.Outcome.next (State.proofEvent_event mains ?_)
      rw [moving, proofTaken_opening opening, dropOut_failed failed, endFailed_lockOut out]
    all_goals
      refine exec_dropOutProof_awaited mains moving opening ?_
      rw [dropOut_failed failed]
    · rw [endFailed_closes again free holder, beginClose_absent (PerMotion.get_set_self _ _ _)]
    · rw [endFailed_opened again (.inl holder), free]
      rfl
    · rw [endFailed_opened again (.inr (by rw [pending]; nofun)), pending]
      rfl

/-! ### Stray and lost proofs (R54, R63, R70) -/

/-- No record expects the proof that appears: the contactor is welded (R63). -/
theorem proofTaken_stray {g : Gen} {loop : Motion} (k : Constants) (p : PerMotion Bool) (now : Nat)
    (h : g.st = .free ∨ (∃ l since, g.st = .parked l since ∧ l ≠ loop) ∨ ∃ holder, g.st = .granted holder ∧ holder ≠ loop) :
    proofTaken k p now loop true g = Gen.quiet { g with st := .lockedOut .welded (some loop) } := by
  show proofAppears k p now loop g = _
  unfold proofAppears
  rcases h with free | ⟨l, since, parked, other⟩ | ⟨holder, granted, other⟩
  · rw [free]
  · rw [parked]
    exact if_neg other
  · rw [granted]
    exact if_neg other

/-- Settles O28: by the record that takes the stray or the lost proof. -/
theorem strayAndLostProofs : Obligations.StrayAndLostProofs := by
  intro s g loop n mains
  refine ⟨fun record => congrArg Host.Outcome.next (State.proofEvent_quiet mains ?_),
    fun since parked => congrArg Host.Outcome.next (State.proofEvent_event mains ?_),
    fun granted => congrArg Host.Outcome.next (State.proofEvent_event mains ?_)⟩
  · rcases record with free | ⟨l, since, parked, other⟩ | ⟨holder, granted, other⟩
    · rw [free]
      exact proofTaken_stray _ _ _ (.inl rfl)
    · rw [parked]
      exact proofTaken_stray _ _ _ (.inr (.inl ⟨l, since, rfl, other⟩))
    · rw [granted]
      exact proofTaken_stray _ _ _ (.inr (.inr ⟨holder, rfl, other⟩))
  · rw [parked]
    exact if_pos rfl
  · rw [granted]
    exact if_pos rfl

theorem proofTaken_lockedOut (k : Constants) (p : PerMotion Bool) (now : Nat) (loop : Motion) (present : Bool)
    (cause : LockCause) (l : Option Motion) (n : Nat) :
    proofTaken k p now loop present ⟨.lockedOut cause l, n⟩ = Gen.quiet ⟨.lockedOut cause l, n⟩ := by
  cases present <;> rfl

theorem provenLoops_isEmpty_iff (p : PerMotion Bool) : (provenLoops p).isEmpty = true ↔ ∀ m, p.get m = false := by
  unfold provenLoops
  rw [List.isEmpty_iff, List.filter_eq_nil_iff]
  exact ⟨fun none m => Bool.eq_false_iff.2 (none m (Motion.mem_all m)), fun none m _ => Bool.eq_false_iff.1 (none m)⟩

theorem Gen.showsWeld_iff {g : Gen} (out : g.isLockedOut = true) (p : PerMotion Bool) :
    g.showsWeld p = true ↔ ∃ m, p.get m = true := by
  unfold Gen.showsWeld
  rw [out, Bool.true_and, Bool.not_eq_true', Bool.eq_false_iff, ne_eq, provenLoops_isEmpty_iff]
  simp

/-- A generator that a change leaves LOCKED OUT is still so at the end of it, and its conditions stand (R54, R70). -/
theorem State.settle_lockedOut (s0 : State) {s : State} (mains : s.OnMains) {g : Fin 12}
    (out : (s.gens.get g).isLockedOut = true) :
    (State.settle s0 s).gens.get g = s.gens.get g ∧ (State.settle s0 s).Reports g (s.gens.get g) := by
  have shows : s.Shows g (s.gens.get g) := ⟨rfl, .inr (Gen.not_moving_of_lockedOut out)⟩
  obtain ⟨standing, reports⟩ := shows.settle s0 mains
  exact ⟨standing.whole out, reports⟩

/-- Settles O29. -/
theorem lockedOutProofSetsWelded : Obligations.LockedOutProofSetsWelded := by
  intro s g loop present cause l n mains locked
  let u : State := { s with inputs := s.inputs.setProof g loop present, gens := s.gens.set g ⟨.lockedOut cause l, n⟩ }
  have record : u.gens.get g = ⟨.lockedOut cause l, n⟩ := Table.get_set_self _ _ _
  have out : (u.gens.get g).isLockedOut = true := by rw [record]; rfl
  have taken : exec (.lockedOutProofChange g loop present) s = .next (State.settle s u) := by
    refine congrArg Host.Outcome.next (State.proofEvent_quiet mains ?_)
    rw [locked]
    exact proofTaken_lockedOut _ _ _ _ _ _ _ _
  obtain ⟨same, reports⟩ := State.settle_lockedOut s (s := u) mains out
  have settled := State.settle_same s u
  refine ⟨_, taken, same.trans record, settled.inputs, ?_, reports.lockedOut.trans out, settled.chans, settled.zones⟩
  rw [reports.welded]
  exact Gen.showsWeld_iff out _

/-! ### Proof times that end (R56, R58, R59) -/

theorem exec_openingProofTimeEnd (s : State) (g : Fin 12) (v : Move) (n : Nat) (mains : s.OnMains)
    (moving : s.gens.get g = ⟨.moving v, n⟩) (opening : v.step = .opening) :
    exec (.openingProofTimeEnd g) s =
      .next (State.settle s { s with gens := s.gens.set g ⟨.lockedOut .welded (some v.on), n⟩ }) := by
  have own : (weldedAtTimeEnd (s.gens.get g)).quiet = Gen.quiet ⟨.lockedOut .welded (some v.on), n⟩ := by
    rw [moving]
    unfold weldedAtTimeEnd
    dsimp only
    rw [opening]
  show Host.Outcome.next (s.event _) = _
  rw [s.event_runs _ mains.1, State.inRun_onMains mains, State.genTakes_quiet own]

/-- Settles O30: the clauses follow the move of a failed close by its attempts, its holder and its pending lock-out. -/
theorem proofTimesEndMoveSteps : Obligations.ProofTimesEndMoveSteps := by
  refine ⟨?opening, ?claim, ?unclaimed, ?shown⟩
  case opening =>
    intro s g v n mains moving opening
    let u : State := { s with gens := s.gens.set g ⟨.lockedOut .welded (some v.on), n⟩ }
    have record : u.gens.get g = ⟨.lockedOut .welded (some v.on), n⟩ := Table.get_set_self _ _ _
    have out : (u.gens.get g).isLockedOut = true := by rw [record]; rfl
    obtain ⟨same, reports⟩ := State.settle_lockedOut s (s := u) mains out
    exact ⟨_, exec_openingProofTimeEnd s g v n mains moving opening, same.trans record, reports.lockedOut.trans out,
      (s.withGens_same _).trans (State.settle_same s u)⟩
  case claim =>
    intro s g v h n mains moving closing holder free absent
    refine ⟨fun below => exec_failedClose_quiet mains ?_, fun reached policy => exec_failedClose_event mains ?_,
      fun reached policy => exec_failedClose_quiet mains ?_⟩
    all_goals rw [moving]
    · rw [failedClose_closes closing absent free holder (.inl below), decide_eq_false (Nat.not_le.2 below),
        Nat.min_eq_left below.le]
    · exact failedClose_locksOut closing absent reached policy
    · rw [failedClose_closes closing absent free holder (.inr policy), decide_eq_true reached, Nat.min_eq_right reached]
  case unclaimed =>
    intro s g v n mains moving closing ended absent
    refine ⟨fun reached policy => exec_failedClose_event mains ?_, fun again => ?_⟩
    · rw [moving]
      exact failedClose_locksOut closing absent reached policy
    · have opened : failedClose s.k (s.proofs g) (s.gens.get g) =
          Gen.quiet ⟨openedTo v.lockPending, min (n + 1) s.k.transferAttempts⟩ := by
        rw [moving, failedClose_absent closing absent]
        exact endFailed_opened (Move.failed_afterFail_ne_lockOut again) ended
      rw [exec_failedClose_quiet mains opened]
      cases v.lockPending <;> rfl
  case shown =>
    intro s g v n mains moving closing shown
    refine exec_failedClose_quiet mains ?_
    rw [moving, failedClose_present closing shown]
    unfold Move.failed
    rw [afterFailedClose_counted]

end Sys2Proof.Machine
end

section
/-! SUPPORT. The requests on generators (04 R64–R66): a request that its port takes on mains, LOCK OUT GENERATOR and RETURN
GENERATOR by the state of the record, and PARK MACHINE. -/

namespace Sys2Proof.Machine

/-! ### A request taken on mains (R163, R164) -/

theorem State.SameRecords.butPorts {s t : State} (h : s.SameRecords t) : s.SameButPorts t :=
  ⟨h.pending, h.power, h.clock, h.k, h.fitted, h.store, h.commit, h.inputs, h.chans, h.zones, h.supply⟩

theorem State.SameButPorts.trans {s t u : State} (h : s.SameButPorts t) (g : t.SameButPorts u) : s.SameButPorts u where
  pending := g.pending.trans h.pending
  power := g.power.trans h.power
  clock := g.clock.trans h.clock
  k := g.k.trans h.k
  fitted := g.fitted.trans h.fitted
  store := g.store.trans h.store
  commit := g.commit.trans h.commit
  inputs := g.inputs.trans h.inputs
  chans := g.chans.trans h.chans
  zones := g.zones.trans h.zones
  supply := g.supply.trans h.supply

theorem State.SameButPorts.settled {s u : State} (h : s.SameButPorts u) (s0 : State) :
    s.SameButPorts (State.settle s0 u) := h.trans (State.settle_same s0 u).butPorts

theorem State.SameButPorts.onMains {s t : State} (h : s.SameButPorts t) (mains : s.OnMains) : t.OnMains :=
  ⟨h.power.trans mains.1, (congrArg Supply.state h.supply).trans mains.2⟩

theorem State.answer_butPorts (s : State) (p : Port) (a : Answer) : s.SameButPorts (s.answer p a) := by
  constructor <;> rfl

/-- What a frame's arrival leaves of the records that a request reads (R161, R173). -/
structure State.Arrives (s t : State) : Prop where
  same : s.SameButPorts t
  gens : t.gens = s.gens
  motions : t.motions = s.motions
  walk : t.walk = s.walk
  guardLeft : t.guardLeft = s.guardLeft

theorem State.atRequest_arrives (s : State) (p : Port) : s.Arrives (s.atRequest p) := by
  have hunted : s.Arrives (s.hunt p) := by constructor <;> first | rfl | (constructor <;> rfl)
  cases p with
  | service => exact hunted
  | cab =>
    unfold State.atRequest State.cabFrame State.clearCondition
    dsimp only
    split
    · exact hunted
    · split
      all_goals constructor <;> first | rfl | (constructor <;> rfl)

section Request

variable {α : Type} {q : Spec} {parse : State → List Byte → Field α} {act : α → State → Taken}
variable {s : State} {f : Frame} {x : α}

/-- A request that its port takes on mains, and that no test stops, has its own part and its answer (R164). -/
theorem request_onMains (mains : s.OnMains) (awaits : s.Awaits f.port) (allowed : q.allows f.port = true)
    (parsed : parse (s.atRequest f.port) f.fields = .ok x) (store : q.store = false)
    (guarded : q.guarded = false ∨ s.guardLeft ≠ none) : request q parse act f s =
      State.settle s ((act x (s.atRequest f.port)).answered q f q.after) := by
  have arrives := s.atRequest_arrives f.port
  have tests : firstTests q (.ok x) f.port (s.atRequest f.port) = none :=
    firstTests_none allowed (.inl (State.inHoldup_of_onMains (arrives.same.onMains mains))) (.inl store)
  have passes : (q.guarded && !(s.atRequest f.port).guardOpen) = false := by
    rcases guarded with unguarded | opened
    · rw [unguarded, Bool.false_and]
    · unfold State.guardOpen
      rw [arrives.guardLeft, Option.isSome_iff_ne_none.2 opened, Bool.not_true, Bool.and_false]
  have taken : takeRequest q parse act f (s.atRequest f.port) = (act x (s.atRequest f.port)).answered q f q.after := by
    unfold takeRequest
    simp only [parsed, tests]
    unfold guardTest
    rw [passes]
    rfl
  exact (s.frameTaken_runs _ _ mains.1 awaits).trans (congrArg (State.settle s) taken)

theorem Taken.answered_answers (t : Taken) (q : Spec) (f : Frame) (after : AfterSent) :
    (t.answered q f after).Answers f.port f.tag q.code t.reply.status t.reply.reason := by
  unfold State.Answers Taken.answered
  rw [State.answer_ports, PerPort.get_set_self]
  exact ⟨_, rfl, rfl, rfl, rfl, rfl⟩

end Request

/-! ### LOCK OUT GENERATOR and RETURN GENERATOR by the record (R64, R65) -/

section Service

variable {k : Constants} {p : PerMotion Bool} {g : Gen}

theorem lockedOutBy_free (h : g.st = .free) :
    lockedOutBy k p g = ({ g with st := .lockedOut .service none }, .done, .none) := by
  unfold lockedOutBy
  rw [h]

theorem lockedOutBy_parked {l : Motion} {since : Nat} (h : g.st = .parked l since) :
    lockedOutBy k p g = (openOut k p l (some .service) 0, .accepted, .none) := by
  unfold lockedOutBy
  rw [h]

theorem lockedOutBy_moving {v : Move} (h : g.st = .moving v) (free : v.lockPending = none) :
    lockedOutBy k p g = ({ g with st := .moving (v.pendLockOut .service) }, .accepted, .none) := by
  unfold lockedOutBy
  rw [h]
  dsimp only
  rw [free]

theorem lockedOutBy_pending {v : Move} (h : g.st = .moving v) (pending : v.lockPending ≠ none) :
    lockedOutBy k p g = (g, .accepted, .none) := by
  obtain ⟨c, held⟩ := Option.ne_none_iff_exists'.1 pending
  unfold lockedOutBy
  rw [h]
  dsimp only
  rw [held]

theorem lockedOutBy_granted {holder : Motion} (h : g.st = .granted holder) :
    lockedOutBy k p g = (g, .refused, .granted) := by
  unfold lockedOutBy
  rw [h]

theorem lockedOutBy_lockedOut {c : LockCause} {l : Option Motion} (h : g.st = .lockedOut c l) :
    lockedOutBy k p g = (g, .refused, .state) := by
  unfold lockedOutBy
  rw [h]

/-- A PARKED or MOVING generator is taken by LOCK OUT GENERATOR with ACCEPTED (R64). -/
theorem lockedOutBy_accepted (h : (∃ l since, g.st = .parked l since) ∨ ∃ v, g.st = .moving v) :
    (lockedOutBy k p g).2 = (.accepted, .none) := by
  rcases h with ⟨l, since, parked⟩ | ⟨v, moving⟩
  · rw [lockedOutBy_parked parked]
  · by_cases free : v.lockPending = none
    · rw [lockedOutBy_moving moving free]
    · rw [lockedOutBy_pending moving free]

theorem returnedToService_done {c : LockCause} {l : Option Motion} (h : g.st = .lockedOut c l) (other : c ≠ .withdrawn)
    (absent : ∀ m, p.get m = false) : returnedToService p g = (⟨.free, 0⟩, .done, .none) := by
  unfold returnedToService
  rw [h]
  dsimp only
  rw [if_neg other, if_pos ((provenLoops_isEmpty_iff p).2 absent)]

theorem returnedToService_shown {c : LockCause} {l : Option Motion} (h : g.st = .lockedOut c l) (other : c ≠ .withdrawn)
    {m : Motion} (shown : p.get m = true) : returnedToService p g = (g, .refused, .condition) := by
  have some : ¬ (provenLoops p).isEmpty = true := fun none =>
    Bool.eq_false_iff.1 ((provenLoops_isEmpty_iff p).1 none m) shown
  unfold returnedToService
  rw [h]
  dsimp only
  rw [if_neg other, if_neg some]

theorem returnedToService_refused (fitted : g.st ≠ .noRecord)
    (h : g.isLockedOut = false ∨ ∃ l, g.st = .lockedOut .withdrawn l) : returnedToService p g = (g, .refused, .state) := by
  unfold returnedToService
  rcases h with unlocked | ⟨l, withdrawn⟩
  · unfold Gen.isLockedOut at unlocked
    split at unlocked
    · cases unlocked
    · next other =>
      split
      · next cause loop locked => exact absurd locked (other cause loop)
      · rfl
      · rfl
      · rfl
      · rfl
      · next none => exact absurd none fitted
  · rw [withdrawn]
    rfl

end Service

/-! ### A service request on the state -/

/-- A generator's record set by a service request, with its answer. -/
def State.serviced (s : State) (q : Spec) (f : Frame) (g : Fin 12) (r : Gen × Status × Reason) : State :=
  ((s.hunt .service).genReplies g r).answered q f q.after

section Serviced

variable {s : State} {q : Spec} {f : Frame} {g : Fin 12} {r : Gen × Status × Reason}

@[simp] theorem State.serviced_gens : (s.serviced q f g r).gens = s.gens.set g r.1 := rfl

theorem State.serviced_get : (s.serviced q f g r).gens.get g = r.1 := Table.get_set_self _ _ _

theorem State.serviced_same : s.SameButPorts (s.serviced q f g r) := by constructor <;> rfl

theorem State.serviced_answers (port : f.port = .service) :
    (s.serviced q f g r).Answers .service f.tag q.code r.2.1 r.2.2 := by
  have answers := Taken.answered_answers ((s.hunt .service).genReplies g r) q f q.after
  rw [port] at answers
  exact answers

theorem State.settle_serviced_answers (port : f.port = .service) :
    (State.settle s (s.serviced q f g r)).Answers .service f.tag q.code r.2.1 r.2.2 := by
  unfold State.Answers
  rw [(State.settle_same s _).ports]
  exact State.serviced_answers port

theorem exec_lockOutGenerator (takes : s.Takes f .service) (parsed : parseGenerator s f.fields = .ok g) :
    exec (.lockOutGenerator f) s = .next (State.settle s
      (s.serviced lockOutGeneratorSpec f g (lockedOutBy s.k (s.proofs g) (s.gens.get g)))) := by
  obtain ⟨mains, port, awaits⟩ := takes
  rw [← port] at awaits
  have taken := request_onMains (q := lockOutGeneratorSpec) (parse := parseGenerator) (x := g)
    (act := fun g t => t.genReplies g (lockedOutBy t.k (t.proofs g) (t.gens.get g))) mains awaits (by rw [port]; rfl)
    (by rw [port]; exact parsed) rfl (.inl rfl)
  rw [port] at taken
  exact congrArg Host.Outcome.next taken

theorem exec_returnGenerator (takes : s.Takes f .service) (parsed : parseGenerator s f.fields = .ok g)
    (opened : s.guardLeft ≠ none) : exec (.returnGenerator f) s = .next (State.settle s
      (s.serviced returnGeneratorSpec f g (returnedToService (s.proofs g) (s.gens.get g)))) := by
  obtain ⟨mains, port, awaits⟩ := takes
  rw [← port] at awaits
  have taken := request_onMains (q := returnGeneratorSpec) (parse := parseGenerator) (x := g)
    (act := fun g t => t.genReplies g (returnedToService (t.proofs g) (t.gens.get g))) mains awaits (by rw [port]; rfl)
    (by rw [port]; exact parsed) rfl (.inr opened)
  rw [port] at taken
  exact congrArg Host.Outcome.next taken

end Serviced

/-- LOCK OUT GENERATOR on a FREE generator (R64). -/
theorem lockOutGenerator_free {s : State} {f : Frame} {g : Fin 12} (takes : s.Takes f .service)
    (parsed : parseGenerator s f.fields = .ok g) (free : (s.gens.get g).st = .free) :
    ∃ t, exec (.lockOutGenerator f) s = .next t ∧ t.Answers .service f.tag 21 .done .none ∧
      (t.gens.get g).st = .lockedOut .service none ∧ t.isTrue ⟨12, g.val + 1⟩ = true ∧ s.SameButPorts t := by
  refine ⟨_, exec_lockOutGenerator takes parsed, ?_⟩
  rw [lockedOutBy_free free]
  let r : Gen × Status × Reason := ({ s.gens.get g with st := .lockedOut .service none }, .done, .none)
  have record : (s.serviced lockOutGeneratorSpec f g r).gens.get g = r.1 := State.serviced_get
  have out : ((s.serviced lockOutGeneratorSpec f g r).gens.get g).isLockedOut = true := by rw [record]; rfl
  obtain ⟨same, reports⟩ := State.settle_lockedOut s (State.serviced_same.onMains takes.1) out
  exact ⟨State.settle_serviced_answers takes.2.1, congrArg Gen.st (same.trans record), reports.lockedOut.trans out,
    State.serviced_same.settled s⟩

/-- RETURN GENERATOR on a LOCKED OUT generator that shows no proof (R65): it is FREE, and the grant that may follow in the
same change does not lock it out again. -/
theorem returnGenerator_done {s : State} {f : Frame} {g : Fin 12} (takes : s.Takes f .service)
    (parsed : parseGenerator s f.fields = .ok g) (opened : s.guardLeft ≠ none) {c : LockCause} {l : Option Motion}
    (locked : (s.gens.get g).st = .lockedOut c l) (other : c ≠ .withdrawn) (absent : ∀ m, (s.proofs g).get m = false) :
    ∃ t, exec (.returnGenerator f) s = .next t ∧ t.Answers .service f.tag 22 .done .none ∧
      (t.gens.get g).isLockedOut = false ∧ t.isTrue ⟨12, g.val + 1⟩ = false ∧ s.SameButPorts t := by
  refine ⟨_, exec_returnGenerator takes parsed opened, ?_⟩
  rw [returnedToService_done locked other absent]
  have shows : (s.serviced returnGeneratorSpec f g (⟨.free, 0⟩, .done, .none)).Shows g ⟨.free, 0⟩ :=
    ⟨State.serviced_get, .inr fun _ => nofun⟩
  obtain ⟨standing, reports⟩ := shows.settle s (State.serviced_same.onMains takes.1)
  exact ⟨State.settle_serviced_answers takes.2.1, standing.lockedOut, reports.lockedOut, State.serviced_same.settled s⟩

/-- A request that is refused sets the record to itself. -/
theorem State.serviced_gens_self (s : State) (q : Spec) (f : Frame) (g : Fin 12) (r : Status × Reason) :
    (s.serviced q f g (s.gens.get g, r)).gens = s.gens := Table.set_get_self _ _

/-- Settles O31: each clause is the model's own answer on the record, put on the state by one lemma for each request. -/
theorem serviceRequestsOnGenerators : Obligations.ServiceRequestsOnGenerators := by
  refine ⟨fun s f g takes parsed => ⟨lockOutGenerator_free takes parsed, fun record => ?_, fun h granted => ?_,
    fun c l locked => ?_⟩, fun s f g takes parsed opened fitted =>
    ⟨fun c l locked other absent => returnGenerator_done takes parsed opened locked other absent,
      fun c l m locked other shown => ?_, fun refused => ?_⟩⟩
  · have accepted := lockedOutBy_accepted (k := s.k) (p := s.proofs g) record
    have answers : (s.serviced lockOutGeneratorSpec f g (lockedOutBy s.k (s.proofs g) (s.gens.get g))).Answers .service
        f.tag 21 (lockedOutBy s.k (s.proofs g) (s.gens.get g)).2.1 (lockedOutBy s.k (s.proofs g) (s.gens.get g)).2.2 :=
      State.serviced_answers takes.2.1
    rw [accepted] at answers
    refine ⟨_, exec_lockOutGenerator takes parsed, answers, State.serviced_same,
      fun j other => Table.get_set_ne _ _ other, fun l since parked => ⟨fun shown => ?_, fun absent => ?_⟩,
      fun v moving => ⟨fun free => ?_, fun pending => ?_⟩⟩
    all_goals rw [State.serviced_get]
    · rw [lockedOutBy_parked parked, openOut_present shown]
    · rw [lockedOutBy_parked parked, openOut_absent absent]
      rfl
    · rw [lockedOutBy_moving moving free]
      rfl
    · rw [lockedOutBy_pending moving pending]
  · refine ⟨_, exec_lockOutGenerator takes parsed, ?_⟩
    rw [lockedOutBy_granted granted]
    exact ⟨State.serviced_answers takes.2.1, s.serviced_gens_self _ _ _ _, State.serviced_same⟩
  · refine ⟨_, exec_lockOutGenerator takes parsed, ?_⟩
    rw [lockedOutBy_lockedOut locked]
    have record := s.serviced_gens_self lockOutGeneratorSpec f g (.refused, .state)
    have out : ((s.serviced lockOutGeneratorSpec f g (s.gens.get g, .refused, .state)).gens.get g).isLockedOut = true := by
      rw [record]
      unfold Gen.isLockedOut
      rw [locked]
    have same := (State.settle_lockedOut s (State.serviced_same.onMains takes.1) out).1
    exact ⟨State.settle_serviced_answers takes.2.1, same.trans (by rw [record]), State.serviced_same.settled s⟩
  · refine ⟨_, exec_returnGenerator takes parsed opened, ?_⟩
    rw [returnedToService_shown locked other shown]
    exact ⟨State.settle_serviced_answers takes.2.1, State.serviced_same.settled s⟩
  · refine ⟨_, exec_returnGenerator takes parsed opened, ?_⟩
    rw [returnedToService_refused fitted refused]
    exact ⟨State.settle_serviced_answers takes.2.1, State.serviced_same.settled s⟩

/-! ### PARK MACHINE (R66) -/

theorem Table.any_iff {α : Type} {n : Nat} (t : Table α n) (p : α → Bool) :
    t.cells.any p = true ↔ ∃ i, p (t.get i) = true := by
  rw [List.any_eq_true]
  constructor
  · rintro ⟨x, mem, holds⟩
    obtain ⟨i, hi, rfl⟩ := List.getElem_of_mem mem
    exact ⟨⟨i, t.size ▸ hi⟩, holds⟩
  · rintro ⟨i, holds⟩
    exact ⟨t.get i, List.get_mem _ _, holds⟩

theorem State.mayPark_iff (s : State) : s.mayPark = true ↔
    (∀ m, (s.motions.get m).state = .idle ∨ (s.motions.get m).state = .tripped) ∧ s.walk.state = .idle := by
  have every (p : Dig → Bool) : Dig.all.all p = true ↔ ∀ m, p m = true := by
    rw [List.all_eq_true]
    exact ⟨fun h m => h m (by cases m <;> decide), fun h m _ => h m⟩
  unfold State.mayPark
  rw [Bool.and_eq_true, every]
  simp only [decide_eq_true_eq]

theorem parkMachineOne_parked {g : Gen} {l : Motion} {since : Nat} (h : g.st = .parked l since) (k : Constants)
    (p : PerMotion Bool) : parkMachineOne k p g = openOut k p l none 0 := by
  unfold parkMachineOne
  rw [h]

theorem parkMachineOne_other {g : Gen} (h : g.isParked = false) (k : Constants) (p : PerMotion Bool) :
    parkMachineOne k p g = g := by
  unfold Gen.isParked at h
  unfold parkMachineOne
  split
  · next l since parked =>
    rw [parked] at h
    cases h
  · rfl

section Park

variable {s : State}

/-- At rest every record takes PARK MACHINE, which changes the PARKED ones alone (R66). -/
theorem State.parkTaken_gens (rest : s.mayPark = true) (g : Fin 12) :
    s.parkTaken.state.gens.get g = parkMachineOne s.k (s.proofs g) (s.gens.get g) := by
  unfold State.parkTaken
  rw [if_pos rest]
  split
  · exact State.onGens_get _ _ g
  · next none =>
    have unparked : (s.gens.get g).isParked = false :=
      Bool.eq_false_iff.2 fun parked => none ((Table.any_iff _ _).2 ⟨g, parked⟩)
    exact (parkMachineOne_other unparked _ _).symm

theorem State.parkTaken_reply (rest : s.mayPark = true) :
    s.parkTaken.reply = Reply.of (if ∃ g, (s.gens.get g).isParked = true then .accepted else .done) := by
  unfold State.parkTaken
  rw [if_pos rest]
  split
  · next some => rw [if_pos ((Table.any_iff _ _).1 some)]; rfl
  · next none => rw [if_neg fun some => none ((Table.any_iff _ _).2 some)]; rfl

theorem State.parkTaken_refused (busy : ¬ s.mayPark = true) : s.parkTaken = s.refuses .state := if_neg busy

theorem exec_parkMachine {f : Frame} (mains : s.OnMains) (awaits : s.Awaits f.port) (fields : f.fields = []) :
    exec (.parkMachine f) s =
      .next (State.settle s ((s.atRequest f.port).parkTaken.answered parkMachineSpec f .nothing)) := by
  have allowed : parkMachineSpec.allows f.port = true := by cases f.port <;> rfl
  exact congrArg Host.Outcome.next (request_onMains (q := parkMachineSpec) (parse := parseNothing) (x := ())
    (act := fun _ t => t.parkTaken) mains awaits allowed (by rw [fields]; rfl) rfl (.inl rfl))

end Park

/-- Settles O32. -/
theorem parkMachineOpensParked : Obligations.ParkMachineOpensParked := by
  intro s f mains awaits fields
  have taken := exec_parkMachine mains awaits fields
  have arrives := s.atRequest_arrives f.port
  have answers := Taken.answered_answers (s.atRequest f.port).parkTaken parkMachineSpec f .nothing
  have same : (s.atRequest f.port).SameButPorts ((s.atRequest f.port).parkTaken.answered parkMachineSpec f .nothing) :=
    (State.parkTaken_same _).butPorts.trans (State.answer_butPorts _ _ _)
  have rest : (s.atRequest f.port).mayPark = true ↔
      (∀ m, (s.motions.get m).state = .idle ∨ (s.motions.get m).state = .tripped) ∧ s.walk.state = .idle := by
    rw [State.mayPark_iff, arrives.motions, arrives.walk]
  have proofs (g : Fin 12) : (s.atRequest f.port).proofs g = s.proofs g := by
    unfold State.proofs
    rw [arrives.same.inputs]
  refine ⟨fun motions walk => ?_, fun busy => ?_⟩
  · have parks := rest.2 ⟨motions, walk⟩
    have record (g : Fin 12) : ((s.atRequest f.port).parkTaken.answered parkMachineSpec f .nothing).gens.get g =
        parkMachineOne s.k (s.proofs g) (s.gens.get g) := by
      have own := State.parkTaken_gens parks g
      rw [arrives.same.k, proofs, arrives.gens] at own
      exact own
    rw [State.parkTaken_reply parks, arrives.gens] at answers
    refine ⟨_, taken, same, answers, fun g l since parked => ⟨fun absent => ?_, fun shown => ?_⟩, fun g other => ?_⟩
    · rw [record, parkMachineOne_parked parked, openOut_absent absent]
      rfl
    · rw [record, parkMachineOne_parked parked, openOut_present shown]
    · rw [record, parkMachineOne_other other]
  · rw [State.parkTaken_refused (mt rest.1 busy)] at taken answers same
    refine ⟨_, taken, ?_, (arrives.same.trans same).settled s⟩
    unfold State.Answers
    rw [(State.settle_same s _).ports]
    exact answers

end Sys2Proof.Machine
end

section
/-! SUPPORT. The waiting list and the condition set as every change leaves them (05 R72, 08 R136): a list without two entries of
one motion, through each operation that writes it and past each that does not, and the keys of the condition set, through the
operations of the alarm table. -/

namespace Sys2Proof.Machine

/-! ### The keys of the condition set (R136) -/

theorem insertCondition_perm (c : Condition) (l : List Condition) : (insertCondition c l).Perm (c :: l) := by
  induction l with
  | nil => exact .refl _
  | cons d ds ih =>
    unfold insertCondition
    split
    · exact .refl _
    · exact (ih.cons d).trans (.swap c d ds)

/-- A key that is not among the true ones is inserted without a second entry. -/
theorem nodup_insertCondition {c : Condition} {l : List Condition} (new : c.key ∉ l.map Condition.key)
    (h : (l.map Condition.key).Nodup) : ((insertCondition c l).map Condition.key).Nodup :=
  ((insertCondition_perm c l).map Condition.key).nodup_iff.2 (List.nodup_cons.2 ⟨new, h⟩)

theorem Alarms.nodup_raiseCondition {a : Alarms} (h : a.keys.Nodup) (now window : Nat) {key : AlarmKey}
    (absent : a.isTrue key = false) : (a.raiseCondition now window key).keys.Nodup := by
  have notIn : key ∉ a.keys := fun mem => Bool.eq_false_iff.1 absent ((a.isTrue_iff key).2 mem)
  have raised (b : Bool) : ((insertCondition ⟨key, now, b⟩ (a.raiseRecord now window key).1.conditions).map
      Condition.key).Nodup := by
    have keys := a.keys_raiseRecord now window key
    exact nodup_insertCondition (by rw [← keys] at notIn; exact notIn) (by rw [← keys] at h; exact h)
  unfold Alarms.raiseCondition
  dsimp only
  split
  · exact raised _
  · next unstored =>
    let c : Alarms := { (a.raiseRecord now window key).1 with
      conditions := insertCondition ⟨key, now, !(a.raiseRecord now window key).2⟩
        (a.raiseRecord now window key).1.conditions }
    have keys : (c.raiseRecord now window fullKey).1.keys = c.keys := c.keys_raiseRecord now window fullKey
    have notFull : fullKey ∉ c.keys := fun mem =>
      unstored (by rw [(c.isTrue_iff fullKey).2 mem, Bool.or_true])
    have distinct : c.keys.Nodup := raised _
    rw [← keys] at notFull distinct
    exact nodup_insertCondition notFull distinct

theorem Alarms.nodup_afterRetirement {a : Alarms} (h : a.keys.Nodup) (now : Nat) : (a.afterRetirement now).keys.Nodup := by
  unfold Alarms.afterRetirement Alarms.fullFollows
  split
  · rw [Alarms.keys_clearBare, Alarms.keys_recordLates]
    exact h.filter _
  · rw [Alarms.keys_recordLates]
    exact h

/-- No operation of the alarm table makes a key true twice (R136). -/
theorem Alarms.Reaches.nodup {a b : Alarms} (reached : a.Reaches b) (h : a.keys.Nodup) : b.keys.Nodup := by
  induction reached with
  | refl => exact h
  | raise _ now window key absent ih => exact nodup_raiseCondition ih now window absent
  | clear _ now key ih =>
    obtain ⟨p, keys, -⟩ := Alarms.keys_clearCondition _ now key
    rw [keys]
    exact ih.filter p
  | event _ now window key ih =>
    rw [Alarms.keys_raiseEvent]
    exact ih
  | acknowledge _ now p key ih => exact nodup_afterRetirement (by rw [Alarms.keys_onRecord]; exact ih) now
  | shelve _ key f ih =>
    rw [Alarms.keys_onRecord]
    exact ih
  | announce _ x ih => exact ih
  | tick _ ih => exact ih
  | cold => exact List.nodup_nil

theorem State.Tabled.conditionsDistinct {s t : State} (h : s.Tabled t) (distinct : s.ConditionsDistinct) :
    t.ConditionsDistinct := Alarms.Reaches.nodup h distinct

theorem State.Concludes.tabled {s t : State} (h : s.Concludes t) : s.Tabled t := by
  rcases h with ⟨s0, u, table, rfl⟩ | ⟨table, -⟩
  exacts [table.trans (State.settle_tabled s0 u), table]

/-! ### What keeps one entry for each motion (R72) -/

/-- A change after which the waiting list has no two entries of one motion, if it had none before. -/
def State.KeepsList (s t : State) : Prop := s.ListDistinct → t.ListDistinct

theorem State.KeepsList.refl (s : State) : s.KeepsList s := id

theorem State.KeepsList.trans {s t u : State} (h : s.KeepsList t) (g : t.KeepsList u) : s.KeepsList u := g ∘ h

theorem State.KeepsList.of_list {s t : State} (h : t.arb.list = s.arb.list) : s.KeepsList t := by
  unfold State.KeepsList State.ListDistinct
  rw [h]
  exact id

/-- What other records changed before does not matter. -/
theorem State.KeepsList.after {s t u : State} (h : t.KeepsList u) (same : t.arb.list = s.arb.list) : s.KeepsList u :=
  (State.KeepsList.of_list same).trans h

theorem State.KeepsList.ite {s t u : State} {p : Prop} [Decidable p] (ht : s.KeepsList t) (hu : s.KeepsList u) :
    s.KeepsList (if p then t else u) := by
  split
  exacts [ht, hu]

theorem State.KeepsList.foldl {α : Type} {f : State → α → State} (h : ∀ (s : State) (a : α), s.KeepsList (f s a))
    (l : List α) (s : State) : s.KeepsList (l.foldl f s) := by
  induction l generalizing s with
  | nil => exact .refl s
  | cons a l ih => exact (h s a).trans (ih (f s a))

/-! #### Raises and clears -/

theorem State.clearCondition_list (s : State) (key : AlarmKey) : s.KeepsList (s.clearCondition key) :=
  State.KeepsList.ite (.of_list rfl) (.refl s)

theorem State.conditionActs_list (s : State) (b : Alarms) (key : AlarmKey) : s.KeepsList (s.conditionActs b key) := by
  unfold State.conditionActs
  dsimp only
  split
  · exact (State.KeepsList.refl s).ite (.of_list rfl)
  · exact State.KeepsList.ite (.of_list rfl) (.of_list rfl)
  · exact .refl s
  · exact .refl s

theorem State.raiseCondition_list (s : State) (key : AlarmKey) : s.KeepsList (s.raiseCondition key) :=
  (State.KeepsList.refl s).ite (State.KeepsList.ite (.of_list rfl) ((State.conditionActs_list _ _ key).after rfl))

theorem State.setCondition_list (s : State) (key : AlarmKey) (truth : Bool) : s.KeepsList (s.setCondition key truth) :=
  (s.raiseCondition_list key).ite (s.clearCondition_list key)

theorem State.raiseEvent_list (s : State) (key : AlarmKey) : s.KeepsList (s.raiseEvent key) := by
  unfold State.raiseEvent
  dsimp only
  split
  · exact .of_list rfl
  · cases (s.alarms.raiseEvent s.now s.k.escalationWindow key).2 <;> exact .of_list rfl

theorem State.gensReport_list (s : State) : s.KeepsList s.gensReport :=
  ((State.KeepsList.foldl (fun s _ => s.setCondition_list _ _) gensAll s).trans
    (.foldl (fun s _ => s.setCondition_list _ _) gensAll _)).trans (.foldl (fun s _ => s.setCondition_list _ _) gensAll _)

theorem State.syncZones_list (s : State) : s.KeepsList s.syncZones := by
  unfold State.syncZones
  exact (State.KeepsList.foldl (fun s _ => s.setCondition_list _ _) slotsAll s).trans (State.setCondition_list _ _ _)

theorem State.syncConditions_list (s : State) : s.KeepsList s.syncConditions := by
  have channels : s.KeepsList s.syncChannels :=
    ((State.KeepsList.foldl (fun s _ => (State.KeepsList.refl s).ite (s.clearCondition_list _)) Motion.all s).trans
      (.foldl (fun s _ => s.setCondition_list _ _) Motion.all _)).trans
      (.foldl (fun s _ => s.setCondition_list _ _) Motion.all _)
  exact (channels.trans ((State.KeepsList.refl _).ite (State.gensReport_list _))).trans (State.syncZones_list _)

/-! #### The motions and the walk -/

theorem State.proofPass_list (s : State) (m : Dig) : s.KeepsList (s.proofPass m) := by
  unfold State.proofPass
  dsimp only
  split
  · exact (State.KeepsList.refl s).ite ((State.clearCondition_list _ _).after rfl)
  · exact State.KeepsList.ite (.of_list rfl) (.refl s)
  · exact .refl s
  · exact .refl s

theorem State.restPass_list (s : State) (m : Dig) : s.KeepsList (s.restPass m) := by
  have hold : s.KeepsList (s.beginHold m) :=
    State.KeepsList.ite (.of_list rfl) (State.KeepsList.ite (.of_list rfl) (.of_list rfl))
  exact State.KeepsList.ite
    (State.KeepsList.ite (.of_list rfl) (hold.ite (State.KeepsList.ite (.of_list rfl) (.refl s)))) (.refl s)

theorem State.motionPass_list (s : State) (m : Dig) : s.KeepsList (s.motionPass m) :=
  ((State.proofPass_list _ m).trans (State.restPass_list _ m)).after rfl

theorem State.walkProofPass_list (s : State) : s.KeepsList s.walkProofPass := by
  unfold State.walkProofPass
  split
  · exact (State.KeepsList.refl s).ite ((State.clearCondition_list _ _).after rfl)
  · exact State.KeepsList.ite (.of_list rfl) (.refl s)
  · exact .refl s
  · exact .refl s

theorem State.walkRestPass_list (s : State) : s.KeepsList s.walkRestPass := by
  unfold State.walkRestPass
  dsimp only
  refine State.KeepsList.ite ?_ (.refl s)
  split
  · exact .of_list rfl
  · refine State.KeepsList.ite (.of_list rfl) (State.KeepsList.ite ?_ (State.KeepsList.ite (.of_list rfl) (.refl s)))
    split
    exacts [.refl s, .of_list rfl]

theorem State.walkPass_list (s : State) : s.KeepsList s.walkPass :=
  ((State.walkProofPass_list _).trans (State.walkRestPass_list _)).after rfl

theorem State.passes_list (s : State) : s.KeepsList s.passes :=
  (((s.motionPass_list _).trans (State.motionPass_list _ _)).trans (State.motionPass_list _ _)).trans (State.walkPass_list _)

/-! #### The arbiter -/

theorem State.onGens_list (s : State) (f : PerMotion Bool → Gen → Gen) : s.KeepsList (s.onGens f) := .of_list rfl

theorem State.claimsFollow_list (s : State) : s.KeepsList s.claimsFollow :=
  .foldl (fun s _ => (s.onGens_list _).ite ((s.onGens_list _).ite (.refl s))) _ s

/-- The entries that stay on the list are some of the list's, in its order (R74). -/
theorem State.pruned_motions (s : State) :
    (s.pruned.map Entry.motion) = (s.arb.list.filter fun e => s.wants e.motion).map Entry.motion := by
  unfold State.pruned
  rw [List.map_map]
  rfl

theorem State.prune_list (s : State) : s.KeepsList s.prune := by
  intro h
  have followed : s.claimsFollow.ListDistinct := s.claimsFollow_list h
  show (s.claimsFollow.pruned.map Entry.motion).Nodup
  rw [State.pruned_motions]
  exact followed.sublist (List.filter_sublist.map _)

theorem State.waiting_iff (s : State) (m : Motion) : s.waiting m = true ↔ m ∈ s.arb.list.map Entry.motion := by
  simp [State.waiting]

/-- A motion joins only when it has no entry (R73). -/
theorem State.joinOf_list (s : State) (m : Motion) : s.KeepsList (s.joinOf m) := by
  intro h
  unfold State.joinOf
  split
  · next joins =>
    obtain ⟨-, absent⟩ := Bool.and_eq_true_iff.1 joins
    have new : m ∉ s.arb.list.map Entry.motion := by
      rw [← s.waiting_iff m]
      exact Bool.eq_false_iff.1 (by simpa using absent)
    show ((s.arb.list ++ [s.joinEntry m]).map Entry.motion).Nodup
    rw [List.map_append]
    exact List.nodup_append_comm.1 (List.nodup_cons.2 ⟨new, h⟩)
  · exact h

theorem State.grantOne_list {s t : State} (h : s.grantOne = some t) : s.KeepsList t := by
  unfold State.grantOne at h
  split at h
  · cases h
  · split at h
    · cases h
    · cases h
      exact (State.prune_list _).after rfl

theorem State.grantLoop_list (n : Nat) (s : State) : s.KeepsList (State.grantLoop n s) := by
  induction n generalizing s with
  | zero => exact .refl s
  | succ n ih =>
    unfold State.grantLoop
    split
    · exact .refl s
    · next t h => exact (State.grantOne_list h).trans (ih t)

theorem State.recallHolds_list (n : Nat) (s : State) : s.KeepsList (State.recallHolds n s) := by
  induction n generalizing s with
  | zero => exact .refl s
  | succ n ih =>
    unfold State.recallHolds
    split
    · exact .refl s
    · exact State.KeepsList.ite (.of_list rfl) ((ih _).after rfl)

theorem State.arbRun_list (n : Nat) (s : State) : s.KeepsList (State.arbRun n s) := by
  induction n generalizing s with
  | zero => exact .refl s
  | succ n ih =>
    have granted := State.grantLoop_list 12 s
    exact (granted.trans (((State.recallHolds_list 3 _).ite (.refl _)).trans (ih _))).ite granted

theorem State.arbitrate_list (s0 s : State) : s.KeepsList (State.arbitrate s0 s) := by
  have listed : s.KeepsList s.prune.joins := s.prune_list.trans (.foldl State.joinOf_list _ _)
  exact ((listed.trans (State.arbRun_list 4 _)).trans (State.prune_list _)).ite listed

/-! #### The end of a change -/

theorem State.starvedSync_list (s : State) : s.KeepsList s.starvedSync :=
  .foldl (fun s _ => (State.KeepsList.refl s).ite (s.clearCondition_list _)) _ s

theorem State.resolverFollow_list (s : State) : s.KeepsList s.resolverFollow := .of_list rfl

theorem State.compose_list (s : State) : s.KeepsList s.compose := .of_list rfl

theorem State.settleInRun_list (s0 s : State) : s.KeepsList (State.settleInRun s0 s) :=
  (((((s.syncConditions_list.trans (State.resolverFollow_list _)).trans (State.passes_list _)).trans
    (State.arbitrate_list s0 _)).trans (State.passes_list _)).trans (State.starvedSync_list _)).trans (State.compose_list _)

theorem State.settle_list (s0 s : State) : s.KeepsList (State.settle s0 s) := by
  have inHoldup : s.KeepsList s.settleInHoldup := s.syncConditions_list.trans (State.resolverFollow_list _)
  unfold State.settle
  split
  exacts [inHoldup.ite (State.settleInRun_list s0 s), .refl s, .refl s]

end Sys2Proof.Machine
end

section
/-! SUPPORT. The waiting list through every command (05 R72): the own effect of each command leaves the list or empties it, and
the completion of the change keeps one entry for each motion. -/

namespace Sys2Proof.Machine

/-! ### The own effect of each command -/

/-! #### Zone table and resolver -/

theorem State.onSlot_list (s : State) (i : Fin 40) (f : ZoneSlot → ZoneSlot) : s.KeepsList (s.onSlot i f) := .of_list rfl

theorem State.lookDropped_list (s : State) : s.KeepsList s.lookDropped := by
  unfold State.lookDropped
  split
  exacts [.refl s, .of_list rfl]

theorem State.checkHeld_list (s : State) (i : Fin 40) : s.KeepsList (s.checkHeld i) := by
  unfold State.checkHeld
  split
  · exact .refl s
  · exact ((State.raiseEvent_list _ _).trans (State.lookDropped_list _)).after rfl
  · exact ((State.setCondition_list _ _ _).trans (State.setCondition_list _ _ _)).after rfl

theorem State.checkBody_list (s : State) (i : Fin 40) : s.KeepsList (s.checkBody i) := by
  unfold State.checkBody
  split
  exacts [.of_list rfl, .refl s, s.checkHeld_list i, s.checkHeld_list i]

theorem State.checkAll_list (s : State) : s.KeepsList s.checkAll := .foldl State.checkBody_list _ s

theorem State.bodiesFault_list (s : State) (faults : List StorageFault) : s.KeepsList (s.bodiesFault faults) :=
  .foldl (fun s _ => s.onSlot_list _ _) faults s

theorem State.compareEpoch_list (s : State) (f : InFlight) : s.KeepsList (s.compareEpoch f) := .of_list rfl

theorem State.resolutionEnds_list (s : State) : s.KeepsList s.resolutionEnds := by
  unfold State.resolutionEnds
  split
  exacts [.refl s, s.checkAll_list.trans (State.compareEpoch_list _ _)]

theorem State.markSites_list (s : State) : s.KeepsList s.markSites := by
  have marked : s.KeepsList s.markStale := State.KeepsList.ite ((State.setCondition_list _ _ _).after rfl) (.refl s)
  exact marked.trans (.of_list rfl)

/-! #### Generators, brakes and the walk -/

theorem State.onBrake_list (s : State) (m : Motion) (f : Brake → Brake) : s.KeepsList (s.onBrake m f) := by
  cases m <;> exact .of_list rfl

theorem State.putOff_list (s : State) (m : Motion) : s.KeepsList (s.putOff m) := by
  cases m <;> exact .of_list rfl

theorem State.inRun_list (s : State) {f : State → State} (hf : s.KeepsList (f s)) : s.KeepsList (s.inRun f) :=
  (State.KeepsList.refl s).ite hf

theorem State.genTakes_list (s : State) (g : Fin 12) (f : Gen → GenResult) : s.KeepsList (s.genTakes g f) :=
  State.KeepsList.ite ((State.raiseEvent_list _ _).after rfl) (.of_list rfl)

theorem State.brakeShowsReleased_list (s : State) (m : Motion) : s.KeepsList (s.brakeShowsReleased m) :=
  s.inRun_list (((s.onBrake_list m _).trans (State.raiseCondition_list _ _)).ite (.refl s))

theorem State.brakeShowsSet_list (s : State) (m : Motion) : s.KeepsList (s.brakeShowsSet m) :=
  s.inRun_list (((s.onBrake_list m _).trans (State.raiseEvent_list _ _)).ite (.refl s))

theorem State.releaseProofComes_list (s : State) (m : Motion) : s.KeepsList (s.releaseProofComes m) :=
  s.inRun_list (((s.onBrake_list m _).trans (State.putOff_list _ m)).ite (s.brakeShowsReleased_list m))

theorem State.releaseTimeEnds_list (s : State) (m : Motion) : s.KeepsList (s.releaseTimeEnds m) :=
  ((s.onBrake_list m _).trans (State.raiseEvent_list _ _)).ite (.refl s)

theorem State.setTimeEnds_list (s : State) (m : Motion) : s.KeepsList (s.setTimeEnds m) :=
  (((s.onBrake_list m _).trans (State.onBrake_list _ m _)).trans (State.raiseCondition_list _ _)).ite (s.onBrake_list m _)

theorem State.prepareTimesOut_list (s : State) : s.KeepsList s.prepareTimesOut :=
  State.KeepsList.ite ((State.raiseEvent_list _ _).after rfl) (.refl s)

theorem State.phaseTimesOut_list (s : State) : s.KeepsList s.phaseTimesOut := by
  unfold State.phaseTimesOut
  split
  exacts [(s.raiseEvent_list _).ite (.refl s), .refl s]

/-! #### Count channels and the tub bearing -/

theorem State.walkPhaseFollows_list (s : State) : s.KeepsList s.walkPhaseFollows := by
  unfold State.walkPhaseFollows
  dsimp only
  exact State.KeepsList.ite (State.KeepsList.ite ((State.raiseEvent_list _ _).after rfl) (.of_list rfl)) (.refl s)

theorem State.count?_list (s : State) (c : Motion) (d : Option Dir) : s.KeepsList (s.count? c d) := by
  have counted (c : Motion) (d : Dir) : s.KeepsList (s.countChan c d) := by
    cases c <;> exact .of_list rfl
  cases d with
  | none => exact .refl s
  | some d =>
    exact State.KeepsList.ite ((counted .walk d).trans ((State.KeepsList.refl _).ite (State.walkPhaseFollows_list _)))
      (counted c d)

theorem State.windowEnd_list (s : State) (c : Motion) : s.KeepsList (s.windowEnd c) := by
  have ended (t : State) : t.KeepsList (t.unreferencedEnds c) := (State.KeepsList.refl t).ite (t.clearCondition_list _)
  exact ((ended _).trans (State.setCondition_list _ _ _)).after rfl

theorem State.referenceEdge_list (s : State) (c : Motion) : s.KeepsList (s.referenceEdge c) :=
  State.KeepsList.ite (.of_list rfl) (.of_list rfl)

theorem State.switchMade_list (s : State) (c : Dig) : s.KeepsList (s.switchMade c) := by
  unfold State.switchMade
  split
  · split
    exacts [s.referenceEdge_list _, .of_list rfl]
  · exact .refl s

theorem State.encoderIndex_list (s : State) (c : Dig) : s.KeepsList (s.encoderIndex c) :=
  State.KeepsList.ite ((s.referenceEdge_list _).trans (.of_list rfl)) (.refl s)

theorem State.camIndex_list (s : State) : s.KeepsList s.camCounted.walkAtIndex := by
  have counted : s.KeepsList s.camCounted := (s.referenceEdge_list .walk).trans (.of_list rfl)
  refine counted.trans ?_
  unfold State.walkAtIndex
  dsimp only
  exact State.KeepsList.ite (.refl _) (State.KeepsList.ite
    (State.KeepsList.ite (.of_list rfl) ((State.walkPhaseFollows_list _).after rfl)) (.of_list rfl))

theorem State.tubLiftsOff_list (s : State) : s.KeepsList s.tubLiftsOff := by
  have walks (t : State) : t.KeepsList t.walkLiftsOff := by
    unfold State.walkLiftsOff
    dsimp only
    exact (State.KeepsList.refl t).ite (State.KeepsList.ite ((State.markSites_list _).after rfl) (.of_list rfl))
  exact (walks _).after rfl

theorem State.tubSetsDown_list (s : State) : s.KeepsList s.tubSetsDown :=
  State.KeepsList.ite (.of_list rfl) (.of_list rfl)

/-! #### Supply, the settings store and the cold start -/

/-- A list without entries has no two of one motion. -/
theorem State.ListDistinct.of_nil {s : State} (h : s.arb.list = []) : s.ListDistinct := by
  unfold State.ListDistinct
  rw [h]
  exact List.nodup_nil

/-- Holdup entry empties the list (R84). -/
theorem State.holdupEntry_list (s : State) : s.KeepsList s.holdupEntry := by
  have entered : s.KeepsList s.recordsAtEntry := fun _ => .of_nil rfl
  exact (entered.trans (State.raiseCondition_list _ _)).trans (.foldl (fun s _ => s.clearCondition_list _) _ _)

theorem State.brakeReturns_list (s : State) (m : Motion) : s.KeepsList (s.brakeReturns m) := by
  unfold State.brakeReturns
  split
  · exact (s.onBrake_list m _).ite ((s.onBrake_list m _).trans (State.clearCondition_list _ _))
  · exact ((s.onBrake_list m _).trans (State.raiseCondition_list _ _)).ite (.refl s)
  · exact .refl s
  · exact .refl s

/-- Holdup return begins with an empty list (R84, R158). -/
theorem State.holdupReturn_list (s : State) : s.KeepsList s.holdupReturn := by
  have emptied : s.KeepsList { s with
      gens := s.gensAtReturn
      arb := { s.arb with list := [], countedMotion := none, count := 0 } } := fun _ => .of_nil rfl
  have gens : s.KeepsList s.gensReturn := emptied.trans (State.gensReport_list _)
  have looked (t : State) : t.KeepsList t.resolverReturns := .of_list rfl
  have brakes : s.KeepsList (Motion.all.foldl State.brakeReturns s.gensReturn.resolverReturns) :=
    (gens.trans (looked _)).trans (.foldl State.brakeReturns_list Motion.all _)
  have marked (t : State) : t.KeepsList t.markAtReturn := t.markSites_list.ite (.refl t)
  have quieted (t : State) : t.KeepsList (t.portsReturn.clearCondition ⟨3, 0⟩) := (State.clearCondition_list _ _).after rfl
  have back (t : State) : t.KeepsList t.backInRun := .of_list rfl
  exact ((brakes.trans (marked _)).trans (quieted _)).trans (back _)

theorem State.commitEnds_list (s : State) (left : Option Image) : s.KeepsList (s.commitEnds left) := by
  unfold State.commitEnds
  split
  exacts [.refl s, (State.setCondition_list _ _ _).after rfl]

theorem State.coldRaises_list (s : State) (found failed : Bool) : s.KeepsList (s.coldRaises found failed) := by
  have raised : s.KeepsList ((s.setCondition ⟨1, 0⟩ s.inputs.estop).raiseExhausted found) :=
    (s.setCondition_list _ _).trans ((State.raiseEvent_list _ _).ite (.refl _))
  have channels := raised.trans (.foldl (f := State.syncUnreferenced) (fun s _ => s.setCondition_list _ _) Motion.all _)
  have gens := (channels.trans (.foldl (f := State.syncWelded) (fun s _ => s.setCondition_list _ _) gensAll _)).trans
    (.foldl (f := State.syncLockedOut) (fun s _ => s.setCondition_list _ _) gensAll _)
  exact (gens.trans (State.syncZones_list _)).trans (State.setCondition_list _ _ _)

/-- The change that the end of a load completes begins with an empty list (R84, R180). -/
theorem State.loadEnds_list (s : State) : s.KeepsList s.loadEnds := by
  have loaded : s.KeepsList s.loaded := fun _ => .of_nil rfl
  have mains (t : State) : t.KeepsList t.mainsAtStart := (State.KeepsList.refl t).ite t.holdupEntry_list
  exact ((loaded.trans (State.coldRaises_list _ _ _)).trans (mains _)).trans (State.settle_list _ _)

/-! #### Requests -/

theorem State.cabFrame_list (s : State) (p : Port) : s.KeepsList (s.cabFrame p) := by
  cases p
  · exact (State.KeepsList.refl s).ite ((State.clearCondition_list _ _).after rfl)
  · exact .refl s

theorem State.readTaken_list (s : State) (key : RecordKey) : s.KeepsList (s.readTaken key).state := by
  have checked : s.KeepsList (s.checkedFor key) := by
    cases key with
    | zone i => exact s.checkBody_list i
    | _ => exact .refl s
  unfold State.readTaken
  dsimp only
  split
  exacts [checked, checked]

theorem State.nextTaken_list (s : State) (start : NextKey) : s.KeepsList (s.nextTaken start).state := by
  unfold State.nextTaken
  split
  exacts [s.readTaken_list _, .refl s]

theorem State.giveBack_list (s : State) (m : Motion) : s.KeepsList (s.giveBack m) := by
  have one (t : State) : t.KeepsList (t.giveBackOne m) := by
    unfold State.giveBackOne
    split
    · exact .of_list rfl
    · split
      exacts [.of_list rfl, .refl t]
  have loop (n : Nat) (t : State) : t.KeepsList (State.giveBackLoop n m t) := by
    induction n generalizing t with
    | zero => exact .refl t
    | succ n ih => exact ((one t).trans (ih _)).ite (.refl t)
  exact ((s.onGens_list _).trans (loop 12 _)).ite (.refl s)

theorem State.demandTaken_list (s : State) (x : Dig × Option Dir × Complement) : s.KeepsList (s.demandTaken x).state := by
  have acts (m : Dig) (d : Option Dir) (c : Complement) : s.KeepsList (s.demandActs m d c) := by
    cases d with
    | none => exact .of_list rfl
    | some d => exact (State.giveBack_list _ _).after rfl
  unfold State.demandTaken
  dsimp only
  split
  · exact .refl s
  split
  · exact .refl s
  split
  exacts [.refl s, acts _ _ _]

theorem State.armTaken_list (s : State) (x : Option Dig) : s.KeepsList (s.armTaken x).state := by
  unfold State.armTaken
  split
  · split
    exacts [.refl s, .of_list rfl]
  · split
    exacts [.of_list rfl, .refl s]

theorem State.parkTaken_list (s : State) : s.KeepsList s.parkTaken.state := by
  unfold State.parkTaken
  split
  · split
    exacts [.of_list rfl, .refl s]
  · exact .refl s

theorem State.walkTaken_list (s : State) (o : WalkOrder) : s.KeepsList (s.walkTaken o).state := by
  unfold State.walkTaken
  split
  exacts [.refl s, .of_list rfl]

theorem State.resumeTaken_list (s : State) : s.KeepsList s.resumeTaken.state := by
  unfold State.resumeTaken
  split
  exacts [.refl s, .of_list rfl]

theorem State.cancelTaken_list (s : State) : s.KeepsList s.cancelTaken.state := by
  have cancelled : s.KeepsList s.cancelled.cancelReply.state := by
    rw [State.cancelReply_state]
    exact State.KeepsList.ite (.of_list rfl) ((State.walkPass_list _).after rfl)
  unfold State.cancelTaken
  split
  · exact .refl s
  split
  · exact cancelled
  · split
    exacts [cancelled, .refl s]
  · exact .refl s
  · exact .refl s

theorem State.writeZoneTaken_list (s : State) (w : ZoneWrite) : s.KeepsList (s.writeZoneTaken w).state := by
  unfold State.writeZoneTaken
  dsimp only
  split
  · exact .refl s
  split
  · exact .refl s
  split
  exacts [.refl s, .of_list rfl]

theorem State.retireZoneTaken_list (s : State) (x : Fin 40 × BitVec 16) : s.KeepsList (s.retireZoneTaken x).state := by
  unfold State.retireZoneTaken
  dsimp only
  split
  · exact .refl s
  split
  exacts [.refl s, .of_list rfl]

theorem State.confirmTaken_list (s : State) (x : Option (Fin 40 × Option (BitVec 16))) :
    s.KeepsList (s.confirmTaken x).state := by
  unfold State.confirmTaken
  split
  · exact .refl s
  split
  · unfold State.confirmOne
    dsimp only
    split
    · exact .refl s
    split
    exacts [.refl s, .of_list rfl]
  · unfold State.confirmAll
    split
    exacts [.of_list rfl, .refl s]

theorem State.referenceResetTaken_list (s : State) (c : Motion) : s.KeepsList (s.referenceResetTaken c).state := by
  unfold State.referenceResetTaken
  split
  exacts [.refl s, .of_list rfl]

theorem State.acknowledgeTaken_list (s : State) (p : Port) (key : AlarmKey) :
    s.KeepsList (s.acknowledgeTaken p key).state := by
  unfold State.acknowledgeTaken
  split
  exacts [.refl s, .of_list rfl]

theorem State.shelveTaken_list (s : State) (x : AlarmKey × Nat) : s.KeepsList (s.shelveTaken x).state := by
  unfold State.shelveTaken
  split
  · exact .refl s
  · split
    exacts [.refl s, .refl s, .of_list rfl, .of_list rfl]

theorem State.unshelveTaken_list (s : State) (key : AlarmKey) : s.KeepsList (s.unshelveTaken key).state := by
  unfold State.unshelveTaken
  split
  · exact .refl s
  · split
    exacts [.refl s, .of_list rfl]

theorem State.writeConstantTaken_list (s : State) (x : ConstKey × Int) : s.KeepsList (s.writeConstantTaken x).state := by
  have written (t : State) (key : ConstKey) (old : Constants) : t.KeepsList (t.constantWritten key old) := by
    have cpr (c : Motion) : t.KeepsList (t.cprWritten c) := State.KeepsList.ite (.of_list rfl) (.refl t)
    unfold State.constantWritten
    split
    · exact State.KeepsList.ite (((cpr _).ite (.refl t)).trans (.of_list rfl)) (.refl t)
    · exact State.KeepsList.ite (.of_list rfl) (State.KeepsList.ite (.of_list rfl) (.refl t))
  unfold State.writeConstantTaken
  dsimp only
  split
  · exact .refl s
  split
  exacts [.refl s, (written _ _ _).after rfl]

theorem State.commitBegun_list (s : State) : s.KeepsList s.commitBegun := by
  have begun (t : State) (x : CommitRun) : t.KeepsList { t with commit := some x } := .of_list rfl
  exact s.checkAll_list.trans (begun _ _)

theorem State.answerLeaves_list (s : State) (p : Port) : s.KeepsList (s.answerLeaves p) := by
  unfold State.answerLeaves
  split
  · exact .refl s
  · next a _ =>
    cases a.after
    exacts [.of_list rfl, .of_list rfl, fun _ => .of_nil rfl]

theorem State.cabLinkEnds_list (s : State) : s.KeepsList s.cabLinkEnds := by
  unfold State.cabLinkEnds
  split
  exacts [(State.raiseCondition_list _ _).after rfl, .refl s, .refl s]

/-! ### Every command keeps one entry for each motion -/

theorem State.event_list (s : State) {f : State → State} (hf : s.KeepsList (f s)) : s.KeepsList (s.event f) := by
  unfold State.event
  split
  exacts [hf.trans (State.settle_list _ _), .refl s, .refl s]

theorem State.levelEvent_list (s : State) {l : Inputs → Inputs} {f : State → State} (hf : ∀ t : State, t.KeepsList (f t)) :
    s.KeepsList (s.levelEvent l f) := by
  unfold State.levelEvent
  dsimp only
  split
  exacts [((hf _).trans (State.settle_list _ _)).after rfl, .of_list rfl, .of_list rfl]

theorem State.frameTaken_list (s : State) (p : Port) {take : State → State} (ht : ∀ t : State, t.KeepsList (take t)) :
    s.KeepsList (s.frameTaken p take) := by
  unfold State.frameTaken
  split
  · exact State.KeepsList.ite (.of_list rfl)
      ((((State.cabFrame_list _ p).trans (ht _)).trans (State.settle_list _ _)).after rfl)
  · exact .refl s
  · exact .refl s

theorem request_list {α : Type} (q : Spec) (parse : State → List Byte → Field α) (act : α → State → Taken) (f : Frame)
    (s : State) (ha : ∀ (t : State) (x : α), t.KeepsList (act x t).state) : s.KeepsList (request q parse act f s) := by
  refine s.frameTaken_list f.port fun t => ?_
  unfold takeRequest
  split
  · exact .of_list rfl
  · split
    · exact State.KeepsList.ite (.of_list rfl) ((ha t _).trans (.of_list rfl))
    · exact .of_list rfl

theorem State.tick_list (s : State) : s.KeepsList s.tick := by
  unfold State.tick
  split
  exacts [State.KeepsList.ite (.of_list rfl) (.of_list rfl), .of_list rfl, .refl s]

/-- Every command keeps one entry for each motion (R72). -/
theorem exec_list (c : Instr) (s : State) : ∃ t, exec c s = .next t ∧ s.KeepsList t := by
  cases c with
  | read f => exact ⟨_, rfl, request_list _ _ _ f s fun t key => t.readTaken_list key⟩
  | next f => exact ⟨_, rfl, request_list _ _ _ f s fun t start => t.nextTaken_list start⟩
  | demand f => exact ⟨_, rfl, request_list _ _ _ f s fun t x => t.demandTaken_list x⟩
  | arm f => exact ⟨_, rfl, request_list _ _ _ f s fun t x => t.armTaken_list x⟩
  | parkMachine f => exact ⟨_, rfl, request_list _ _ _ f s fun t _ => t.parkTaken_list⟩
  | walk f => exact ⟨_, rfl, request_list _ _ _ f s fun t o => t.walkTaken_list o⟩
  | walkResume f => exact ⟨_, rfl, request_list _ _ _ f s fun t _ => t.resumeTaken_list⟩
  | walkCancel f => exact ⟨_, rfl, request_list _ _ _ f s fun t _ => t.cancelTaken_list⟩
  | writeZone f => exact ⟨_, rfl, request_list _ _ _ f s fun t w => t.writeZoneTaken_list w⟩
  | retireZone f => exact ⟨_, rfl, request_list _ _ _ f s fun t x => t.retireZoneTaken_list x⟩
  | confirmZones f => exact ⟨_, rfl, request_list _ _ _ f s fun t x => t.confirmTaken_list x⟩
  | referenceReset f => exact ⟨_, rfl, request_list _ _ _ f s fun t c => t.referenceResetTaken_list c⟩
  | acknowledge f => exact ⟨_, rfl, request_list _ _ _ f s fun t key => t.acknowledgeTaken_list f.port key⟩
  | shelve f => exact ⟨_, rfl, request_list _ _ _ f s fun t x => t.shelveTaken_list x⟩
  | unshelve f => exact ⟨_, rfl, request_list _ _ _ f s fun t x => t.unshelveTaken_list x⟩
  | writeConstant f => exact ⟨_, rfl, request_list _ _ _ f s fun t x => t.writeConstantTaken_list x⟩
  | commit f => exact ⟨_, rfl, request_list _ _ _ f s fun t _ => t.commitBegun_list⟩
  | status f | stopAll f | walkHalt f | flushCache f | setAnnounce f | lockOutGenerator f | returnGenerator f | openGuard f
  | restart f => exact ⟨_, rfl, request_list _ _ _ f s fun _ _ => .of_list rfl⟩
  | unknown f code => exact ⟨_, rfl, s.frameTaken_list _ fun _ => .of_list rfl⟩
  | check p tag code =>
    have fails : s.KeepsList (s.checkFails p tag code) := State.KeepsList.ite (.of_list rfl) (.of_list rfl)
    exact ⟨_, rfl, s.event_list fails⟩
  | lengthOutOfRange p length | frameGap p byte | lineBreakOrFramingError p | frameDiscarded p | guardWindowEnd
  | markerWriteDone | shelfMinute key => exact ⟨_, rfl, s.event_list (.of_list rfl)⟩
  | answerSent p => exact ⟨_, rfl, s.event_list (s.answerLeaves_list p)⟩
  | cabLinkPeriodEnd => exact ⟨_, rfl, s.event_list s.cabLinkEnds_list⟩
  | quadratureCount c input level | countDirectionCount c input level =>
    exact ⟨_, rfl, s.levelEvent_list fun t => t.count?_list c _⟩
  | quadratureError c =>
    have fault (t : State) : t.KeepsList (t.quadratureFault c) := State.KeepsList.ite (.of_list rfl) (.refl t)
    exact ⟨_, rfl, s.levelEvent_list fault⟩
  | rateWindowEnd c => exact ⟨_, rfl, s.event_list (s.windowEnd_list c)⟩
  | referenceSwitchMake c => exact ⟨_, rfl, s.levelEvent_list fun t => t.switchMade_list c⟩
  | referenceSwitchBreak c => exact ⟨_, rfl, s.levelEvent_list fun _ => .of_list rfl⟩
  | encoderIndex c => exact ⟨_, rfl, s.event_list (s.encoderIndex_list c)⟩
  | camIndex => exact ⟨_, rfl, s.event_list s.camIndex_list⟩
  | tubLiftOff => exact ⟨_, rfl, s.levelEvent_list State.tubLiftsOff_list⟩
  | tubSetDown => exact ⟨_, rfl, s.levelEvent_list State.tubSetsDown_list⟩
  | scrubVisit faults =>
    have checked := (s.bodiesFault_list faults).trans (State.checkBody_list _ s.zones.scrub)
    exact ⟨_, rfl, s.event_list (checked.trans (.of_list rfl))⟩
  | resolutionEnd => exact ⟨_, rfl, s.event_list s.resolutionEnds_list⟩
  | closureProof g loop | dropOutProof g loop | strayOrLostProof g loop present | lockedOutProofChange g loop present =>
    exact ⟨_, rfl, s.levelEvent_list fun t => t.inRun_list (t.genTakes_list g _)⟩
  | openingProofTimeEnd g | failedClose g => exact ⟨_, rfl, s.event_list (s.inRun_list (s.genTakes_list g _))⟩
  | releaseHoldExpiry m =>
    have ended : s.KeepsList (s.holdExpires m) := State.KeepsList.ite (.of_list rfl) (.refl s)
    exact ⟨_, rfl, s.event_list (s.inRun_list ended)⟩
  | starveTimeEnd m =>
    have starves : s.KeepsList (s.starves m) := (s.raiseCondition_list _).ite (.refl s)
    exact ⟨_, rfl, s.event_list (s.inRun_list starves)⟩
  | brakeReleaseProof m => exact ⟨_, rfl, s.levelEvent_list fun t => t.releaseProofComes_list m⟩
  | brakeSetProof m | releaseProofLost m => exact ⟨_, rfl, s.levelEvent_list fun t => t.brakeShowsSet_list m⟩
  | brakeLiftWithoutCommand m => exact ⟨_, rfl, s.levelEvent_list fun t => t.brakeShowsReleased_list m⟩
  | brakeReleaseTimeEnd m => exact ⟨_, rfl, s.event_list (s.inRun_list (s.releaseTimeEnds_list m))⟩
  | brakeSetTimeEnd m => exact ⟨_, rfl, s.event_list (s.inRun_list (s.setTimeEnds_list m))⟩
  | stopTimeout m => exact ⟨_, rfl, s.event_list (s.inRun_list (s.onBrake_list m _))⟩
  | prepareTimeout => exact ⟨_, rfl, s.event_list (s.inRun_list s.prepareTimesOut_list)⟩
  | phaseTimeout => exact ⟨_, rfl, s.event_list (s.inRun_list s.phaseTimesOut_list)⟩
  | dwellEnd =>
    have ended : s.KeepsList s.dwellEnds := State.KeepsList.ite (.of_list rfl) (.refl s)
    exact ⟨_, rfl, s.event_list (s.inRun_list ended)⟩
  | emergencyStopInput stop => exact ⟨_, rfl, s.levelEvent_list fun t => t.setCondition_list _ _⟩
  | mainsLoss => exact ⟨_, rfl, s.levelEvent_list fun t => (State.KeepsList.refl t).ite t.holdupEntry_list⟩
  | mainsReturn => exact ⟨_, rfl, s.levelEvent_list fun t => t.holdupReturn_list.ite (.refl t)⟩
  | commitWriteEnd left => exact ⟨_, rfl, s.event_list (s.commitEnds_list left)⟩
  | holdupExhausted => exact ⟨_, rfl, State.KeepsList.ite (fun _ => .of_nil rfl) (.refl s)⟩
  | powerOn => exact ⟨_, rfl, (State.KeepsList.refl s).ite fun _ => .of_nil rfl⟩
  | resetLine =>
    refine ⟨_, rfl, ?_⟩
    split
    exacts [fun _ => .of_nil rfl, fun _ => .of_nil rfl, .refl s]
  | settingsLoadEnd =>
    refine ⟨_, rfl, ?_⟩
    split
    exacts [s.loadEnds_list, .refl s, .refl s]

theorem step_list {s t : State} (stepped : step s = .next t) : s.KeepsList t := by
  unfold step at stepped
  split at stepped
  · next c rest _ =>
    obtain ⟨u, run, keeps⟩ := exec_list c { s with pending := rest }
    rw [run] at stepped
    cases stepped
    exact keeps.after rfl
  · cases stepped
    exact s.tick_list

/-- Settles O12: a motion joins the list only when it has no entry, and a key is inserted only when it is not true; no other
operation adds an entry or a key. -/
theorem listAndConditionsStayDistinct : Obligations.ListAndConditionsStayDistinct := fun _ _ list conditions stepped =>
  ⟨step_list stepped list, (step_concludes stepped).tabled.conditionsDistinct conditions⟩

end Sys2Proof.Machine
end

section
/-! SUPPORT. The two choices of a grant (05 R78, R79): the motion by priority and rotation, the generator by its distance from
the motion's loop. -/

namespace Sys2Proof.Machine

/-- What a search of an ordered list finds is the first of those it could find. -/
theorem find?_first {α : Type} {r : α → α → Prop} {p : α → Bool} {l : List α} {a : α} (ordered : l.Pairwise r)
    (found : l.find? p = some a) : p a = true ∧ ∀ b ∈ l, p b = true → b = a ∨ r a b := by
  obtain ⟨holds, before, after, rfl, none⟩ := List.find?_eq_some_iff_append.1 found
  have later := (List.pairwise_cons.1 (List.pairwise_append.1 ordered).2.1).1
  refine ⟨holds, fun b mem found => ?_⟩
  rcases List.mem_append.1 mem with early | rest
  · have notFound := none b early
    rw [found] at notFound
    cases notFound
  · exact (List.mem_cons.1 rest).imp_right (later b)

/-! ### The choice of a motion (R78) -/

/-- The motions in the order of their priority. -/
theorem motions_by_priority :
    ([.walk, .hoist, .drag, .swing] : List Motion).Pairwise fun a b => priority a < priority b := by decide

theorem mem_motions_by_priority (m : Motion) : m ∈ ([.walk, .hoist, .drag, .swing] : List Motion) := by
  cases m <;> decide

theorem highest_eq_none_iff (l : List Entry) : highest l = none ↔ l = [] := by
  refine ⟨fun none => List.eq_nil_iff_forall_not_mem.2 fun e mem => ?_, fun empty => by rw [empty]; rfl⟩
  have absent := List.find?_eq_none.1 none e.motion (mem_motions_by_priority e.motion)
  exact absent (List.any_eq_true.2 ⟨e, mem, decide_eq_true rfl⟩)

/-- The highest motion has an entry, and no entry is of a higher one (R78). -/
theorem highest_eq_some {l : List Entry} {h : Motion} (found : highest l = some h) :
    (∃ e ∈ l, e.motion = h) ∧ ∀ e ∈ l, priority h ≤ priority e.motion := by
  obtain ⟨entered, first⟩ := find?_first motions_by_priority found
  obtain ⟨e, mem, same⟩ := List.any_eq_true.1 entered
  refine ⟨⟨e, mem, of_decide_eq_true same⟩, fun e mem => ?_⟩
  rcases first e.motion (mem_motions_by_priority _) (List.any_eq_true.2 ⟨e, mem, decide_eq_true rfl⟩) with same | lower
  exacts [same ▸ le_rfl, lower.le]

section Choice

variable {a : Arbiter} {rotation : Nat} {h : Motion}

theorem chooseMotion_empty (empty : a.list = []) : chooseMotion a rotation = none := by
  unfold chooseMotion
  rw [(highest_eq_none_iff _).2 empty]

/-- With no entry below it the highest motion is served, and the counter restarts (R78). -/
theorem chooseMotion_alone (found : highest a.list = some h) (alone : below a.list h = []) :
    chooseMotion a rotation = some (h, none, 0) := by
  unfold chooseMotion
  rw [found]
  dsimp only
  rw [alone]

/-- With an entry below it the highest motion is served and counted, until its count is at the rotation count (R78). -/
theorem chooseMotion_above {e : Entry} {rest : List Entry} (found : highest a.list = some h)
    (waits : below a.list h = e :: rest) : chooseMotion a rotation =
      if a.countedMotion = some h then
        if rotation ≤ a.count then some (e.motion, none, 0) else some (h, some h, a.count + 1)
      else some (h, some h, 1) := by
  unfold chooseMotion
  rw [found]
  dsimp only
  rw [waits]

end Choice

/-- Settles O33: the highest motion is the first of the priority order that has an entry, and the choice goes by whether an
entry waits below it and by the counter. -/
theorem grantsGoByPriorityAndRotation : Obligations.GrantsGoByPriorityAndRotation := by
  refine ⟨by decide, highest_eq_none_iff, fun _ _ => rfl, fun _ _ => chooseMotion_empty, fun a rotation h found _ => ?_⟩
  obtain ⟨entered, top⟩ := highest_eq_some found
  refine ⟨entered, top, fun e rest waits counted full => ?_, fun waits counted less => ?_, fun waits other => ?_,
    chooseMotion_alone found⟩
  · rw [chooseMotion_above found waits, if_pos counted, if_pos full.ge]
  · obtain ⟨e, rest, waits⟩ := List.exists_cons_of_ne_nil waits
    rw [chooseMotion_above found waits, if_pos counted, if_neg less.not_ge]
  · obtain ⟨e, rest, waits⟩ := List.exists_cons_of_ne_nil waits
    rw [chooseMotion_above found waits, if_neg other]

/-! ### The choice of a generator (R79) -/

theorem Gen.isAvailable_iff (g : Gen) : g.isAvailable = true ↔ g.st = .free ∨ ∃ l since, g.st = .parked l since := by
  obtain ⟨st, attempts⟩ := g
  cases st <;> simp [Gen.isAvailable]

theorem Gen.isParkedOn_iff (g : Gen) (m : Motion) : g.isParkedOn m = true ↔ ∃ since, g.st = .parked m since := by
  obtain ⟨st, attempts⟩ := g
  cases st <;> simp [Gen.isParkedOn]

theorem Gen.isFree_iff (g : Gen) : g.isFree = true ↔ g.st = .free := decide_eq_true_iff

theorem Gen.parkedSince_iff (g : Gen) (t : Nat) : g.parkedSince = some t ↔ ∃ l, g.st = .parked l t := by
  obtain ⟨st, attempts⟩ := g
  cases st <;> simp [Gen.parkedSince]

theorem gensAll_ordered : gensAll.Pairwise (· < ·) := List.pairwise_lt_finRange 12

theorem mem_gensAll (i : Fin 12) : i ∈ gensAll := List.mem_finRange i

/-- A search of the generators finds the lowest number it could find. -/
theorem find?_gensAll {p : Fin 12 → Bool} {i : Fin 12} (found : gensAll.find? p = some i) :
    p i = true ∧ ∀ j, p j = true → i ≤ j := by
  obtain ⟨holds, first⟩ := find?_first gensAll_ordered found
  exact ⟨holds, fun j h => (first j (mem_gensAll j) h).elim (fun same => same.ge) le_of_lt⟩

theorem find?_gensAll_none {p : Fin 12 → Bool} (absent : gensAll.find? p = none) (j : Fin 12) : p j = false :=
  Bool.eq_false_iff.2 (List.find?_eq_none.1 absent j (mem_gensAll j))

/-- Of some generators the one parked longest, the lowest number among equals, with its time; none where none is PARKED
(R79). -/
def ParkedLongest (gens : Table Gen 12) (l : List (Fin 12)) : Option (Fin 12 × Nat) → Prop
  | none => ∀ j ∈ l, (gens.get j).parkedSince = none
  | some (i, t) => i ∈ l ∧ (gens.get i).parkedSince = some t ∧
      ∀ j ∈ l, ∀ u, (gens.get j).parkedSince = some u → t < u ∨ t = u ∧ i ≤ j

section OlderParked

variable {gens : Table Gen 12} {j : Fin 12}

theorem olderParked_unparked (h : (gens.get j).parkedSince = none) (best : Option (Fin 12 × Nat)) :
    olderParked gens best j = best := by
  unfold olderParked
  rw [h]

theorem olderParked_first {t : Nat} (h : (gens.get j).parkedSince = some t) : olderParked gens none j = some (j, t) := by
  unfold olderParked
  rw [h]

theorem olderParked_next {t : Nat} (h : (gens.get j).parkedSince = some t) (i : Fin 12) (u : Nat) :
    olderParked gens (some (i, u)) j = if t < u then some (j, t) else some (i, u) := by
  unfold olderParked
  rw [h]

end OlderParked

/-- One more generator, of a number above those before it. -/
theorem ParkedLongest.step {gens : Table Gen 12} {l : List (Fin 12)} {best : Option (Fin 12 × Nat)}
    (h : ParkedLongest gens l best) {j : Fin 12} (above : ∀ i ∈ l, i < j) :
    ParkedLongest gens (l ++ [j]) (olderParked gens best j) := by
  cases parked : (gens.get j).parkedSince with
  | none =>
    rw [olderParked_unparked parked]
    cases best with
    | none => exact List.forall_mem_append.2 ⟨h, List.forall_mem_singleton.2 parked⟩
    | some b =>
      obtain ⟨mem, since, first⟩ := h
      refine ⟨List.mem_append_left _ mem, since, List.forall_mem_append.2 ⟨first, List.forall_mem_singleton.2 fun u held => ?_⟩⟩
      rw [parked] at held
      cases held
  | some t =>
    have self : ∀ u, (gens.get j).parkedSince = some u → u = t := fun u held => Option.some.inj (held.symm.trans parked)
    cases best with
    | none =>
      rw [olderParked_first parked]
      refine ⟨List.mem_append_right _ (List.mem_singleton_self j), parked, List.forall_mem_append.2
        ⟨fun i mem u held => ?_, List.forall_mem_singleton.2 fun u held => .inr ⟨(self u held).symm, le_rfl⟩⟩⟩
      rw [h i mem] at held
      cases held
    | some b =>
      obtain ⟨i, v⟩ := b
      obtain ⟨mem, since, first⟩ := h
      rw [olderParked_next parked]
      split
      · next longer =>
        refine ⟨List.mem_append_right _ (List.mem_singleton_self j), parked, List.forall_mem_append.2
          ⟨fun n memN u held => ?_, List.forall_mem_singleton.2 fun u held => .inr ⟨(self u held).symm, le_rfl⟩⟩⟩
        have := first n memN u held
        omega
      · next shorter =>
        refine ⟨List.mem_append_left _ mem, since, List.forall_mem_append.2
          ⟨first, List.forall_mem_singleton.2 fun u held => ?_⟩⟩
        have same := self u held
        have lower := (above i mem).le
        omega

theorem parkedLongest_foldl (gens : Table Gen 12) {l : List (Fin 12)} (ordered : l.Pairwise (· < ·)) :
    ParkedLongest gens l (l.foldl (olderParked gens) none) := by
  induction l using List.reverseRecOn with
  | nil => exact fun _ => nofun
  | append_singleton l j ih =>
    obtain ⟨before, -, above⟩ := List.pairwise_append.1 ordered
    rw [List.foldl_append]
    exact (ih before).step fun i mem => above i mem j (List.mem_singleton_self j)

/-- The generator parked longest, the lowest number among equals (R79, third choice). -/
theorem longestParked_eq_some {gens : Table Gen 12} {i : Fin 12} (found : longestParked gens = some i) :
    ∃ t, (gens.get i).parkedSince = some t ∧
      ∀ j u, (gens.get j).parkedSince = some u → t < u ∨ t = u ∧ i ≤ j := by
  obtain ⟨⟨n, t⟩, best, rfl⟩ := Option.map_eq_some_iff.1 found
  have longest := parkedLongest_foldl gens gensAll_ordered
  rw [best] at longest
  obtain ⟨-, since, first⟩ := longest
  exact ⟨t, since, fun j => first j (mem_gensAll j)⟩

theorem longestParked_eq_none {gens : Table Gen 12} (absent : longestParked gens = none) (j : Fin 12) :
    (gens.get j).parkedSince = none := by
  have longest := parkedLongest_foldl gens gensAll_ordered
  rw [Option.map_eq_none_iff.1 absent] at longest
  exact longest j (mem_gensAll j)

/-- What the choice of a generator finds: PARKED on the loop, else FREE, else parked longest, each by its own order; it finds
none only where none is PARKED or FREE (R79). -/
theorem chooseGen_cases (gens : Table Gen 12) (m : Motion) :
    (∃ i, chooseGen gens m = some i ∧ (gens.get i).isParkedOn m = true ∧
        ∀ j, (gens.get j).isParkedOn m = true → i ≤ j) ∨
      (∀ j, (gens.get j).isParkedOn m = false) ∧
        ((∃ i, chooseGen gens m = some i ∧ (gens.get i).isFree = true ∧ ∀ j, (gens.get j).isFree = true → i ≤ j) ∨
          (∀ j, (gens.get j).isFree = false) ∧ chooseGen gens m = longestParked gens) := by
  unfold chooseGen
  split
  · next i found => exact .inl ⟨i, rfl, find?_gensAll found⟩
  · next noneParked =>
    refine .inr ⟨find?_gensAll_none noneParked, ?_⟩
    split
    · next i found => exact .inl ⟨i, rfl, find?_gensAll found⟩
    · next noneFree => exact .inr ⟨find?_gensAll_none noneFree, rfl⟩

/-- An available generator is chosen from (R79). -/
theorem chooseGen_isSome {gens : Table Gen 12} {j : Fin 12} (available : (gens.get j).isAvailable = true) (m : Motion) :
    ∃ i, chooseGen gens m = some i := by
  rcases chooseGen_cases gens m with ⟨i, found, -⟩ | ⟨-, ⟨i, found, -⟩ | ⟨noneFree, longest⟩⟩
  · exact ⟨i, found⟩
  · exact ⟨i, found⟩
  · rw [longest]
    refine Option.ne_none_iff_exists'.1 fun absent => ?_
    rcases (Gen.isAvailable_iff _).1 available with free | ⟨l, since, parked⟩
    · exact Bool.eq_false_iff.1 (noneFree j) ((Gen.isFree_iff _).2 free)
    · have unparked := longestParked_eq_none absent j
      rw [(Gen.parkedSince_iff _ since).2 ⟨l, parked⟩] at unparked
      cases unparked

/-- Settles O34: by which of the three searches finds the generator. -/
theorem grantsTakeNearestGenerator : Obligations.GrantsTakeNearestGenerator := by
  refine ⟨fun gens m ⟨j, available⟩ => chooseGen_isSome available m, Gen.isAvailable_iff, fun gens m i chosen => ?_⟩
  rcases chooseGen_cases gens m with ⟨n, found, parked, first⟩ | ⟨noneParked, rest⟩
  · obtain rfl : n = i := Option.some.inj (found.symm.trans chosen)
    obtain ⟨since, held⟩ := (Gen.isParkedOn_iff _ _).1 parked
    have clash (none : ∀ j, (gens.get j).isParkedOn m = false) : False := Bool.eq_false_iff.1 (none n) parked
    exact ⟨(Gen.isAvailable_iff _).2 (.inr ⟨m, since, held⟩), fun _ => ⟨parked, first⟩, fun none => (clash none).elim,
      fun none => (clash none).elim⟩
  · refine ⟨?_, fun ⟨j, parked⟩ => (Bool.eq_false_iff.1 (noneParked j) parked).elim, fun _ ⟨j, free⟩ => ?_, fun _ noneFree => ?_⟩
    all_goals rcases rest with ⟨n, found, isFree, first⟩ | ⟨noneFree', longest⟩
    · obtain rfl : n = i := Option.some.inj (found.symm.trans chosen)
      exact (Gen.isAvailable_iff _).2 (.inl ((Gen.isFree_iff _).1 isFree))
    · obtain ⟨t, since, -⟩ := longestParked_eq_some (longest.symm.trans chosen)
      obtain ⟨l, parked⟩ := (Gen.parkedSince_iff _ t).1 since
      exact (Gen.isAvailable_iff _).2 (.inr ⟨l, t, parked⟩)
    · obtain rfl : n = i := Option.some.inj (found.symm.trans chosen)
      exact ⟨isFree, first⟩
    · exact (Bool.eq_false_iff.1 (noneFree' j) free).elim
    · exact (Bool.eq_false_iff.1 (noneFree n) isFree).elim
    · obtain ⟨t, since, first⟩ := longestParked_eq_some (longest.symm.trans chosen)
      intro j a b sinceI sinceJ
      obtain rfl : t = a := Option.some.inj (since.symm.trans sinceI)
      exact first j b sinceJ

end Sys2Proof.Machine
end

section
/-! SUPPORT. A dig motion through the completion of a change (05 R72–R82, 06 R90–R104, R136): where every condition follows its
record, the completion raises and clears nothing before the motions follow; a motion that is IDLE, ACQUIRING or READY with no
release hold keeps its demand and its complement, and its lease moves by the arbiter alone. -/

namespace Sys2Proof.Machine

/-! ### Conditions that follow their records already (R136) -/

theorem State.setCondition_of_truth {s : State} {key : AlarmKey} {b : Bool} (h : s.isTrue key = b) :
    s.setCondition key b = s := by
  unfold State.setCondition State.raiseCondition State.clearCondition
  cases b
  · rw [h]
    rfl
  · rw [h]
    rfl

/-- Where every condition follows its record, nothing is left to raise or clear (R17, R36, R70). -/
theorem State.ConditionsFollow.synced {s : State} (h : s.ConditionsFollow) : s.syncConditions = s := by
  obtain ⟨channels, ⟨defective, stale⟩, gens⟩ := h
  have decided {b : Bool} {p : Prop} [Decidable p] (iff : b = true ↔ p) : b = decide p := by
    rw [Bool.eq_iff_iff, decide_eq_true_iff]
    exact iff
  have ended (c : Motion) : s.unreferencedEnds c = s := by
    unfold State.unreferencedEnds
    split
    · rfl
    · next other => exact State.setCondition_of_truth (b := false) (Bool.eq_false_iff.2 (mt (channels c).2.1 other))
  have suspect (c : Motion) : s.syncSuspect c = s := State.setCondition_of_truth (decided (channels c).1)
  have unreferenced (c : Motion) : s.syncUnreferenced c = s := State.setCondition_of_truth (decided (channels c).2)
  have noProof (g : Fin 12) : s.syncNoProof g = s := State.setCondition_of_truth (Bool.eq_iff_iff.2 (gens g).1)
  have welded (g : Fin 12) : s.syncWelded g = s := State.setCondition_of_truth (Bool.eq_iff_iff.2 (gens g).2.1)
  have lockedOut (g : Fin 12) : s.syncLockedOut g = s := State.setCondition_of_truth (Bool.eq_iff_iff.2 (gens g).2.2)
  have zoneDefective (i : Fin 40) : s.syncDefective i = s := State.setCondition_of_truth (decided (defective i))
  have zonesStale : s.syncStale = s := State.setCondition_of_truth (Bool.eq_iff_iff.2 (stale.trans s.anyStale_iff.symm))
  unfold State.syncConditions State.syncGens State.syncChannels State.gensReport State.syncZones
  simp only [List.foldl_fixed' ended, List.foldl_fixed' suspect, List.foldl_fixed' unreferenced, List.foldl_fixed' noProof,
    List.foldl_fixed' welded, List.foldl_fixed' lockedOut, List.foldl_fixed' zoneDefective, zonesStale, ite_self]

/-- What leaves every condition following its record: the causes stay, and of the conditions CAB LINK LOST and ALARM TABLE FULL
alone may change. -/
theorem State.ConditionsFollow.kept {s t : State} (h : s.ConditionsFollow) (truth : State.TruthBut [2, 21] s t)
    (same : s.SameButPorts t) (standing : ∀ g, (s.gens.get g).Standing (t.gens.get g)) : t.ConditionsFollow := by
  obtain ⟨channels, zones, gens⟩ := h
  refine ⟨channels.kept truth same.chans (by decide) (by decide), zones.kept truth same.zones (by decide) (by decide),
    fun g => ?_⟩
  unfold State.proofs
  rw [truth ⟨10, g.val + 1⟩ (show 10 ∉ [2, 21] by decide), truth ⟨11, g.val + 1⟩ (show 11 ∉ [2, 21] by decide),
    truth ⟨12, g.val + 1⟩ (show 12 ∉ [2, 21] by decide),
    (standing g).keepsTrying, (standing g).showsWeld, (standing g).lockedOut, same.inputs]
  exact gens g

/-! ### Counts of generators (R71) -/

theorem Table.countP_congr {α : Type} {n : Nat} {t u : Table α n} {p q : α → Bool} (h : ∀ i, p (t.get i) = q (u.get i)) :
    t.cells.countP p = u.cells.countP q := by
  have same : t.cells.map p = u.cells.map q := by
    refine List.ext_getElem (by simp [t.size, u.size]) fun i ht hu => ?_
    rw [List.getElem_map, List.getElem_map]
    exact h ⟨i, t.size ▸ (by simpa using ht)⟩
  calc t.cells.countP p = (t.cells.map p).countP id := by rw [List.countP_map]; rfl
    _ = (u.cells.map q).countP id := by rw [same]
    _ = u.cells.countP q := by rw [List.countP_map]; rfl

theorem Table.countP_eq_zero {α : Type} {n : Nat} {t : Table α n} {p : α → Bool} (h : ∀ i, p (t.get i) = false) :
    t.cells.countP p = 0 :=
  List.countP_eq_zero.2 fun x mem holds => by
    obtain ⟨i, hi⟩ := (Table.any_iff t p).1 (List.any_eq_true.2 ⟨x, mem, holds⟩)
    rw [h i] at hi
    cases hi

/-- A record that keeps what a motion holds of it: GRANTED to the motion as before, and its claim as before (R71). -/
structure Gen.SameLease (m : Motion) (a b : Gen) : Prop where
  granted : b.isGrantedTo m = a.isGrantedTo m
  claim : b.isClaimOf m = a.isClaimOf m

theorem Gen.SameLease.refl (m : Motion) (a : Gen) : Gen.SameLease m a a := ⟨rfl, rfl⟩

theorem Gen.SameLease.trans {m : Motion} {a b c : Gen} (h : Gen.SameLease m a b) (g : Gen.SameLease m b c) :
    Gen.SameLease m a c := ⟨g.granted.trans h.granted, g.claim.trans h.claim⟩

theorem State.proven_of_lease {s t : State} {m : Motion} (supply : t.supply = s.supply)
    (lease : ∀ g, Gen.SameLease m (s.gens.get g) (t.gens.get g)) : t.proven m = s.proven m := by
  unfold State.proven State.inHoldup
  rw [supply, Table.countP_congr (q := fun g => g.isGrantedTo m) fun g => (lease g).granted]

theorem openOut_lease (k : Constants) (p : PerMotion Bool) (loop m : Motion) (pending : Option PendingCause) (attempts : Nat) :
    (openOut k p loop pending attempts).isGrantedTo m = false ∧ (openOut k p loop pending attempts).isClaimOf m = false := by
  unfold openOut
  split
  · exact ⟨rfl, rfl⟩
  · cases pending <;> exact ⟨rfl, rfl⟩

/-- A returned generator is no motion's (R60). -/
theorem returned_lease (k : Constants) (p : PerMotion Bool) (now : Nat) (m : Motion) {g : Gen} {h : Motion}
    (granted : g.st = .granted h) :
    (returned k p now g).isGrantedTo m = false ∧ (returned k p now g).isClaimOf m = false := by
  unfold returned
  rw [granted]
  dsimp only
  split
  exacts [⟨rfl, rfl⟩, openOut_lease k p h m none 0]

theorem Gen.isGrantedTo_iff (g : Gen) (m : Motion) : g.isGrantedTo m = true ↔ g.st = .granted m := decide_eq_true_iff

theorem Gen.isClaimOf_of_granted {g : Gen} {h : Motion} (granted : g.st = .granted h) (m : Motion) :
    g.isClaimOf m = false := by
  unfold Gen.isClaimOf
  rw [granted]

/-- The return of what one motion is granted leaves another's lease (R80). -/
theorem State.returnAll_lease (s : State) {n m : Motion} (other : n ≠ m) (g : Fin 12) :
    Gen.SameLease m (s.gens.get g) ((s.returnAll n).gens.get g) := by
  unfold State.returnAll
  rw [State.onGens_get]
  split
  · next granted =>
    have held := (Gen.isGrantedTo_iff _ _).1 granted
    obtain ⟨ungranted, unclaimed⟩ := returned_lease s.k (s.proofs g) s.now m held
    refine ⟨ungranted.trans ?_, unclaimed.trans (Gen.isClaimOf_of_granted held m).symm⟩
    exact (decide_eq_false (by rw [held]; exact fun same => other (GenState.granted.inj same))).symm
  · exact .refl _ _

/-! ### A motion that stands (R87, R91) -/

/-- IDLE, ACQUIRING or READY, with no release hold. -/
structure MotionRec.Steady (r : MotionRec) : Prop where
  state : r.state = .idle ∨ r.state = .acquiring ∨ r.state = .ready
  holdStart : r.holdStart = none

theorem MotionRec.Steady.not_releasing {r : MotionRec} (h : r.Steady) : r.state ≠ .releasing := by
  rcases h.state with e | e | e <;> rw [e] <;> decide

theorem MotionRec.Steady.not_tripped {r : MotionRec} (h : r.Steady) : r.state ≠ .tripped := by
  rcases h.state with e | e | e <;> rw [e] <;> decide

theorem MotionRec.Steady.not_locked {r : MotionRec} (h : r.Steady) : r.state ≠ .locked := by
  rcases h.state with e | e | e <;> rw [e] <;> decide

/-- State, demand, complement and hold start stay. -/
structure MotionRec.SameStance (a b : MotionRec) : Prop where
  state : b.state = a.state
  demand : b.demand = a.demand
  complement : b.complement = a.complement
  holdStart : b.holdStart = a.holdStart

theorem MotionRec.SameStance.refl (a : MotionRec) : a.SameStance a := ⟨rfl, rfl, rfl, rfl⟩

theorem MotionRec.SameStance.trans {a b c : MotionRec} (h : a.SameStance b) (g : b.SameStance c) : a.SameStance c :=
  ⟨g.state.trans h.state, g.demand.trans h.demand, g.complement.trans h.complement, g.holdStart.trans h.holdStart⟩

theorem MotionRec.SameStance.steady {a b : MotionRec} (h : a.SameStance b) (steady : a.Steady) : b.Steady :=
  ⟨by rw [h.state]; exact steady.state, h.holdStart.trans steady.holdStart⟩

/-- A change that leaves a steady motion its stance and its lease. -/
def State.Leaves (m : Dig) (s t : State) : Prop :=
  (s.motions.get m).Steady →
    (s.motions.get m).SameStance (t.motions.get m) ∧ ∀ g, Gen.SameLease m.motion (s.gens.get g) (t.gens.get g)

section Leaves

variable {m : Dig} {s t u : State}

theorem State.Leaves.refl (m : Dig) (s : State) : State.Leaves m s s := fun _ => ⟨.refl _, fun _ => .refl _ _⟩

theorem State.Leaves.trans (h : State.Leaves m s t) (g : State.Leaves m t u) : State.Leaves m s u := fun steady =>
  have ⟨stance, lease⟩ := h steady
  have ⟨stance', lease'⟩ := g (stance.steady steady)
  ⟨stance.trans stance', fun i => (lease i).trans (lease' i)⟩

theorem State.Leaves.ite {p : Prop} [Decidable p] (ht : State.Leaves m s t) (hu : State.Leaves m s u) :
    State.Leaves m s (if p then t else u) := by
  split
  exacts [ht, hu]

theorem State.Leaves.of_eq (motions : t.motions = s.motions) (gens : t.gens = s.gens) : State.Leaves m s t := by
  intro _
  rw [motions, gens]
  exact ⟨.refl _, fun _ => .refl _ _⟩

theorem State.onMotion_leaves (m n : Dig) (s : State) {f : MotionRec → MotionRec} (hf : ∀ r : MotionRec, r.SameStance (f r)) :
    State.Leaves m s (s.onMotion n f) := by
  intro _
  rw [State.onMotion_get]
  refine ⟨?_, fun _ => .refl _ _⟩
  split
  exacts [hf _, .refl _]

theorem State.onMotion_leaves_other {n : Dig} (other : m ≠ n) (s : State) (f : MotionRec → MotionRec) :
    State.Leaves m s (s.onMotion n f) := by
  intro _
  rw [State.onMotion_get, if_neg other]
  exact ⟨.refl _, fun _ => .refl _ _⟩

theorem State.returnAll_leaves {n : Motion} (other : n ≠ m.motion) (s : State) : State.Leaves m s (s.returnAll n) :=
  fun _ => ⟨.refl _, s.returnAll_lease other⟩

theorem State.clearCondition_leaves (m : Dig) (s : State) (key : AlarmKey) : State.Leaves m s (s.clearCondition key) :=
  State.Leaves.ite (.of_eq rfl rfl) (.refl m s)

theorem Dig.motion_injective : Function.Injective Dig.motion := fun a b h =>
  Option.some.inj ((Motion.dig?_motion a).symm.trans ((congrArg Motion.dig? h).trans (Motion.dig?_motion b)))

theorem Dig.walk_ne_motion (m : Dig) : Motion.walk ≠ m.motion := by cases m <;> decide

/-! #### The passes (R90–R94, R99, R104) -/

theorem State.reversalPass_leaves (m n : Dig) (s : State) : State.Leaves m s (s.reversalPass n) := by
  refine s.onMotion_leaves m n fun r => ?_
  split
  exacts [⟨rfl, rfl, rfl, rfl⟩, .refl r]

theorem State.brakePass_leaves (m n : Dig) (s : State) : State.Leaves m s (s.brakePass n) :=
  s.onMotion_leaves m n fun _ => ⟨rfl, rfl, rfl, rfl⟩

theorem State.proofPass_leaves (m n : Dig) (s : State) : State.Leaves m s (s.proofPass n) := by
  unfold State.proofPass
  dsimp only
  split
  · refine (State.Leaves.refl m s).ite (.trans (s.onMotion_leaves m n fun r => ?_) (State.clearCondition_leaves m _ _))
    exact ⟨rfl, rfl, rfl, rfl⟩
  · refine State.Leaves.ite (s.onMotion_leaves m n fun r => ?_) (.refl m s)
    exact ⟨rfl, rfl, rfl, rfl⟩
  · exact .refl m s
  · exact .refl m s

/-- A brake at rest begins the hold of its own motion alone, and returns what its own motion holds alone. -/
theorem State.restPass_leaves_other {n : Dig} (other : m ≠ n) (s : State) : State.Leaves m s (s.restPass n) := by
  have record (t : State) (f : MotionRec → MotionRec) := t.onMotion_leaves_other other f
  have back := s.returnAll_leaves fun same => other (Dig.motion_injective same).symm
  have hold : State.Leaves m s (s.beginHold n) := (record s _).ite ((back.trans (record _ _)).ite (record s _))
  exact State.Leaves.ite ((record s _).ite (hold.ite (back.ite (.refl m s)))) (.refl m s)

/-- A steady motion begins no hold and returns nothing. -/
theorem State.restPass_leaves (m : Dig) (s : State) : State.Leaves m s (s.restPass m) := by
  intro steady
  have noHold : (s.motions.get m).holdDue = false := by
    unfold MotionRec.holdDue
    rw [decide_eq_false steady.not_releasing]
    rfl
  have lifted : State.Leaves m s (s.onMotion m fun r => { r with brake := Brake.lifted s.k }) :=
    s.onMotion_leaves m m fun _ => ⟨rfl, rfl, rfl, rfl⟩
  unfold State.restPass
  dsimp only
  rw [noHold, if_neg (by decide : ¬ false = true), if_neg steady.not_tripped]
  exact (lifted.ite (.refl m s)).ite (.refl m s) steady

theorem State.motionPass_leaves {n : Dig} (other : m ≠ n) (s : State) : State.Leaves m s (s.motionPass n) :=
  ((((s.reversalPass_leaves m n).trans (State.onMotion_leaves_other other _ _)).trans (State.brakePass_leaves m n _)).trans
    (State.proofPass_leaves m n _)).trans (State.restPass_leaves_other other _)

theorem State.walkPass_leaves (m : Dig) (s : State) : State.Leaves m s s.walkPass := by
  have record (t : State) (f : WalkRec → WalkRec) : State.Leaves m t (t.onWalk f) := .of_eq rfl rfl
  have back (t : State) := t.returnAll_leaves (Dig.walk_ne_motion m)
  have unlocked (t : State) : State.Leaves m t (t.onMotions MotionRec.unlocked) := by
    intro steady
    rw [State.onMotions_motions, PerDig.get_map]
    unfold MotionRec.unlocked
    rw [if_neg steady.not_locked]
    exact ⟨.refl _, fun _ => .refl _ _⟩
  have proof (t : State) : State.Leaves m t t.walkProofPass := by
    unfold State.walkProofPass
    split
    · exact (State.Leaves.refl m t).ite ((record t _).trans (State.clearCondition_leaves m _ _))
    · exact (record t _).ite (.refl m t)
    · exact .refl m t
    · exact .refl m t
  have rest (t : State) : State.Leaves m t t.walkRestPass := by
    unfold State.walkRestPass
    dsimp only
    refine State.Leaves.ite ?_ (.refl m t)
    split
    · exact ((back t).trans (record _ _)).trans (unlocked _)
    · refine (back t).ite (State.Leaves.ite ?_ ((record t _).ite (.refl m t)))
      split
      exacts [.refl m t, record t _]
  exact ((record s _).trans (proof _)).trans (rest _)

/-- The state of a motion by its lease: ACQUIRING and READY by the proven count, any other as it is (R91). -/
def MotionState.byLease (st : MotionState) (leased : Bool) : MotionState :=
  if st = .acquiring ∨ st = .ready then if leased then .ready else .acquiring else st

theorem State.readyPass_get (s : State) (m : Dig) : (s.readyPass m).motions.get m =
    { s.motions.get m with state := (s.motions.get m).state.byLease (s.leased m.motion) } := by
  unfold State.readyPass
  rw [State.onMotion_get, if_pos rfl]
  generalize s.motions.get m = r
  obtain ⟨st⟩ := r
  cases st <;> cases s.leased m.motion <;> rfl

theorem MotionRec.Steady.byLease {r : MotionRec} (h : r.Steady) (leased : Bool) :
    ({ r with state := r.state.byLease leased } : MotionRec).Steady := by
  refine ⟨?_, h.holdStart⟩
  dsimp only
  unfold MotionState.byLease
  rcases h.state with e | e | e <;> rw [e] <;> cases leased <;> decide

/-- What following its composition makes of a steady motion: its state by its lease, all else of its stance and its lease as
before (R91). -/
def State.FollowsLease (m : Dig) (s t : State) : Prop :=
  (s.motions.get m).Steady →
    ({ s.motions.get m with state := (s.motions.get m).state.byLease (s.leased m.motion) } : MotionRec).SameStance
        (t.motions.get m) ∧ ∀ g, Gen.SameLease m.motion (s.gens.get g) (t.gens.get g)

theorem State.FollowsLease.then (h : State.FollowsLease m s t) (g : State.Leaves m t u) : State.FollowsLease m s u :=
  fun steady =>
    have ⟨stance, lease⟩ := h steady
    have ⟨stance', lease'⟩ := g (stance.steady (steady.byLease _))
    ⟨stance.trans stance', fun i => (lease i).trans (lease' i)⟩

theorem State.Leaves.then (h : State.Leaves m s t) (same : s.SameRecords t) (g : State.FollowsLease m t u) :
    State.FollowsLease m s u := fun steady => by
  obtain ⟨stance, lease⟩ := h steady
  obtain ⟨stance', lease'⟩ := g (stance.steady steady)
  have leased : t.leased m.motion = s.leased m.motion := by
    unfold State.leased
    rw [same.k, State.proven_of_lease same.supply lease]
  rw [leased, stance.state] at stance'
  exact ⟨⟨stance'.state, stance'.demand.trans stance.demand, stance'.complement.trans stance.complement,
    stance'.holdStart.trans stance.holdStart⟩, fun i => (lease i).trans (lease' i)⟩

theorem State.motionPass_followsLease (m : Dig) (s : State) : State.FollowsLease m s (s.motionPass m) := by
  have ready : State.FollowsLease m (s.reversalPass m) ((s.reversalPass m).readyPass m) := fun _ => by
    rw [State.readyPass_get]
    exact ⟨.refl _, fun _ => .refl _ _⟩
  have first := (s.reversalPass_leaves m m).then (s.onMotion_same m _) ready
  exact ((first.then (State.brakePass_leaves m m _)).then (State.proofPass_leaves m m _)).then (State.restPass_leaves m _)

theorem State.passes_followsLease (m : Dig) (s : State) : State.FollowsLease m s s.passes := by
  have own (t : State) := t.motionPass_followsLease m
  have hoist := s.motionPass_same .hoist
  have drag := (s.motionPass .hoist).motionPass_same .drag
  refine State.FollowsLease.then (t := s.motionsPass) ?_ (State.walkPass_leaves m _)
  cases m with
  | hoist => exact ((own s).then (State.motionPass_leaves (by decide) _)).then (State.motionPass_leaves (by decide) _)
  | drag =>
    exact ((State.motionPass_leaves (by decide) s).then hoist (own _)).then (State.motionPass_leaves (by decide) _)
  | swing =>
    exact ((State.motionPass_leaves (by decide) s).trans (State.motionPass_leaves (by decide) _)).then (hoist.trans drag)
      (own _)

/-! #### The rest of the completion -/

theorem State.starvedSync_leaves (m : Dig) (s : State) : State.Leaves m s s.starvedSync := by
  have one (t : State) (n : Motion) : State.Leaves m t (t.starvedFollows n) :=
    (State.Leaves.refl m t).ite (t.clearCondition_leaves m _)
  unfold State.starvedSync
  generalize Motion.all = l
  induction l generalizing s with
  | nil => exact .refl m s
  | cons n l ih => exact (one s n).trans (ih _)

theorem State.compose_leaves (m : Dig) (s : State) : State.Leaves m s s.compose := by
  intro _
  refine ⟨?_, fun _ => .refl _ _⟩
  cases m <;> exact ⟨rfl, rfl, rfl, rfl⟩

theorem State.resolverFollow_leaves (m : Dig) (s : State) : State.Leaves m s s.resolverFollow := .of_eq rfl rfl

end Leaves

end Sys2Proof.Machine
end

section
/-! SUPPORT. The arbiter and one dig motion (05 R72–R82): the run of grants with its recalls leaves a steady motion its stance, and
gives an IDLE one nothing. With the passes above: what a completed change makes of a steady motion. -/

namespace Sys2Proof.Machine

/-! ### The arbiter and a steady motion -/

section Arbiter

variable {m : Dig} {s t u : State}

/-- A change that leaves a steady motion its stance. -/
def State.KeepsStance (m : Dig) (s t : State) : Prop :=
  (s.motions.get m).Steady → (s.motions.get m).SameStance (t.motions.get m)

theorem State.KeepsStance.of_motions (h : t.motions = s.motions) : State.KeepsStance m s t := by
  intro _
  rw [h]
  exact .refl _

theorem State.KeepsStance.trans (h : State.KeepsStance m s t) (g : State.KeepsStance m t u) : State.KeepsStance m s u :=
  fun steady => (h steady).trans (g ((h steady).steady steady))

theorem State.KeepsStance.ite {p : Prop} [Decidable p] (ht : State.KeepsStance m s t) (hu : State.KeepsStance m s u) :
    State.KeepsStance m s (if p then t else u) := by
  split
  exacts [ht, hu]

theorem State.claimsFollowOf_motions (s : State) (n : Motion) : (s.claimsFollowOf n).motions = s.motions := by
  unfold State.claimsFollowOf
  split
  · rfl
  · split <;> rfl

theorem State.claimsFollow_motions (s : State) : s.claimsFollow.motions = s.motions := by
  unfold State.claimsFollow
  generalize Motion.all = l
  induction l generalizing s with
  | nil => rfl
  | cons n l ih => exact (ih _).trans (s.claimsFollowOf_motions n)

theorem State.prune_eq (s : State) : s.prune =
    { s.claimsFollow with arb := { s.claimsFollow.arb with list := s.claimsFollow.pruned } } := rfl

theorem State.prune_motions (s : State) : s.prune.motions = s.motions := by
  rw [State.prune_eq]
  exact s.claimsFollow_motions

theorem State.joinOf_motions (s : State) (n : Motion) : (s.joinOf n).motions = s.motions := by
  unfold State.joinOf
  split <;> rfl

theorem State.joins_motions (s : State) : s.joins.motions = s.motions := by
  unfold State.joins
  generalize Motion.all = l
  induction l generalizing s with
  | nil => rfl
  | cons n l ih => exact (ih _).trans (s.joinOf_motions n)

/-- The motion that a grant goes to has an entry (R78). -/
theorem chooseMotion_mem {a : Arbiter} {rotation count : Nat} {n : Motion} {counted : Option Motion}
    (chosen : chooseMotion a rotation = some (n, counted, count)) : ∃ e ∈ a.list, e.motion = n := by
  cases top : highest a.list with
  | none =>
    rw [chooseMotion_empty ((highest_eq_none_iff _).1 top)] at chosen
    cases chosen
  | some h =>
    have highestEntry := (highest_eq_some top).1
    cases waits : below a.list h with
    | nil =>
      rw [chooseMotion_alone top waits] at chosen
      cases chosen
      exact highestEntry
    | cons e rest =>
      have entered : e ∈ a.list := List.mem_of_mem_filter (p := fun e => decide (priority h < priority e.motion))
        (show e ∈ below a.list h from waits ▸ List.mem_cons_self)
      rw [chooseMotion_above top waits] at chosen
      split at chosen
      · split at chosen
        · cases chosen
          exact ⟨e, entered, rfl⟩
        · cases chosen
          exact highestEntry
      · cases chosen
        exact highestEntry

/-- A grant is the hand-over of a generator to a motion that has an entry (R77–R79). -/
theorem State.grantOne_eq_some (h : s.grantOne = some t) :
    ∃ n counted count i, (∃ e ∈ s.arb.list, e.motion = n) ∧ t = s.grantTo n counted count i := by
  unfold State.grantOne at h
  split at h
  · cases h
  · next n counted count chosen =>
    split at h
    · cases h
    · cases h
      exact ⟨n, counted, count, _, chooseMotion_mem chosen, rfl⟩

theorem State.grantLoop_motions (n : Nat) (s : State) : (State.grantLoop n s).motions = s.motions := by
  induction n generalizing s with
  | zero => rfl
  | succ n ih =>
    unfold State.grantLoop
    split
    · rfl
    · next t granted =>
      obtain ⟨n, counted, count, i, -, rfl⟩ := State.grantOne_eq_some granted
      exact (ih _).trans (State.prune_motions _)

/-- Recall ends a hold that has begun (R82). -/
theorem State.recallNext_eq_some {n : Dig} {since : Nat} (h : s.recallNext = some (n, since)) :
    (s.motions.get n).holdStart = some since := by
  have begun : ∀ n since, s.recallNext = some (n, since) → (s.motions.get n).holdStart = some since := by
    unfold State.recallNext
    refine List.foldlRecOn (motive := fun best : Option (Dig × Nat) =>
      ∀ n since, best = some (n, since) → (s.motions.get n).holdStart = some since) Dig.all _ (fun _ _ => nofun)
      fun best held a _ n since next => ?_
    split at next
    · exact held n since next
    · next begun =>
      cases next
      exact begun
    · next begun =>
      split at next
      · cases next
        exact begun
      · exact held n since next
  exact begun n since h

/-- Recall ends no hold of a motion that has none. -/
theorem State.recallNext_ne {n : Dig} {since : Nat} (h : s.recallNext = some (n, since))
    (none : (s.motions.get m).holdStart = none) : m ≠ n := by
  rintro rfl
  rw [State.recallNext_eq_some h] at none
  cases none

theorem State.endHold_motions_other {n : Dig} (other : m ≠ n) (s : State) :
    (s.endHold n).motions.get m = s.motions.get m := PerDig.get_set_ne _ _ other

theorem State.recallHolds_stance (m : Dig) (n : Nat) (s : State) : State.KeepsStance m s (State.recallHolds n s) := by
  induction n generalizing s with
  | zero => exact .of_motions rfl
  | succ n ih =>
    unfold State.recallHolds
    split
    · exact .of_motions rfl
    · next i since chosen =>
      have ended : State.KeepsStance m s (s.endHold i) := fun steady => by
        rw [State.endHold_motions_other (State.recallNext_ne chosen steady.holdStart)]
        exact .refl _
      exact ended.ite (ended.trans (ih _))

theorem State.arbRun_stance (m : Dig) (n : Nat) (s : State) : State.KeepsStance m s (State.arbRun n s) := by
  induction n generalizing s with
  | zero => exact .of_motions rfl
  | succ n ih =>
    have granted : State.KeepsStance m s (State.grantLoop 12 s) := .of_motions (State.grantLoop_motions 12 s)
    have recalled (t : State) : State.KeepsStance m t t.recall := (State.recallHolds_stance m 3 t).ite (.of_motions rfl)
    exact ((granted.trans (recalled _)).trans (ih _)).ite granted

/-- The arbiter leaves a steady motion its stance (R73–R82). -/
theorem State.arbitrate_stance (m : Dig) (s0 s : State) : State.KeepsStance m s (State.arbitrate s0 s) := by
  have listed : State.KeepsStance m s s.prune.joins :=
    .of_motions ((State.joins_motions _).trans s.prune_motions)
  exact ((listed.trans (State.arbRun_stance m 4 _)).trans (.of_motions (State.prune_motions _))).ite listed

/-! ### The arbiter and an IDLE motion -/

/-- An IDLE motion with no hold and no generator. -/
structure State.Idles (s : State) (m : Dig) : Prop where
  idle : (s.motions.get m).state = .idle
  noHold : (s.motions.get m).holdStart = none
  ungranted : ∀ g, (s.gens.get g).isGrantedTo m.motion = false

/-- It has no claim and no entry either (R71, R72). -/
structure State.Unleased (s : State) (m : Dig) : Prop extends s.Idles m where
  unclaimed : ∀ g, (s.gens.get g).isClaimOf m.motion = false
  noEntry : ∀ e ∈ s.arb.list, e.motion ≠ m.motion

theorem State.Idles.takes (h : s.Idles m) : s.takes m.motion = false := by
  unfold State.takes
  rw [Motion.dig?_motion]
  dsimp only
  rw [h.idle]
  rfl

theorem State.Idles.wants (h : s.Idles m) : s.wants m.motion = false := by
  unfold State.wants
  rw [h.takes, Bool.false_and]

/-- The same motions, and the same grants of the motion. -/
theorem State.Idles.kept (h : s.Idles m) (motions : t.motions = s.motions)
    (ungranted : ∀ g, (t.gens.get g).isGrantedTo m.motion = false) : t.Idles m :=
  ⟨by rw [motions]; exact h.idle, by rw [motions]; exact h.noHold, ungranted⟩

theorem withdrawn_granted (n m : Motion) (g : Gen) : (withdrawn n g).isGrantedTo m = g.isGrantedTo m := by
  obtain ⟨st, attempts⟩ := g
  cases st with
  | moving v =>
    unfold withdrawn
    dsimp only
    split <;> rfl
  | _ => rfl

/-- A withdrawal makes no claim, and ends its own (R61). -/
theorem withdrawn_unclaimed (n m : Motion) {g : Gen} (h : n = m ∨ g.isClaimOf m = false) :
    (withdrawn n g).isClaimOf m = false := by
  obtain ⟨st, attempts⟩ := g
  cases st with
  | moving v =>
    unfold withdrawn
    dsimp only
    split
    · rfl
    · next other =>
      rcases h with rfl | unclaimed
      · show (decide (v.holder = some n) && !v.keepTrying) = false
        rw [decide_eq_false other, Bool.false_and]
      · exact unclaimed
  | _ => rfl

theorem withdrawnFailing_granted (n m : Motion) (g : Gen) : (withdrawnFailing n g).isGrantedTo m = g.isGrantedTo m := by
  unfold withdrawnFailing
  split
  exacts [withdrawn_granted n m g, rfl]

theorem withdrawnFailing_unclaimed (n m : Motion) {g : Gen} (h : g.isClaimOf m = false) :
    (withdrawnFailing n g).isClaimOf m = false := by
  unfold withdrawnFailing
  split
  exacts [withdrawn_unclaimed n m (.inr h), h]

theorem beginClose_lease {n m : Motion} (other : n ≠ m) (k : Constants) (p : PerMotion Bool) {v : Move}
    (holder : v.holder = some n) (target : Motion) (attempts : Nat) :
    (beginClose k p v n target attempts).isGrantedTo m = false ∧ (beginClose k p v n target attempts).isClaimOf m = false := by
  unfold beginClose
  split
  · exact ⟨decide_eq_false fun same => other (GenState.granted.inj same), rfl⟩
  · refine ⟨rfl, ?_⟩
    show (decide (v.holder = some m) && !v.keepTrying) = false
    rw [decide_eq_false (by rw [holder]; exact fun same => other (Option.some.inj same)), Bool.false_and]

/-- A hand-over gives another motion nothing (R55). -/
theorem handOver_lease {n m : Motion} (other : n ≠ m) (k : Constants) (p : PerMotion Bool) (seq : Nat) {g : Gen}
    (ungranted : g.isGrantedTo m = false) (unclaimed : g.isClaimOf m = false) :
    (handOver k p n seq g).isGrantedTo m = false ∧ (handOver k p n seq g).isClaimOf m = false := by
  have notMine : decide (some n = some m) = false := decide_eq_false fun same => other (Option.some.inj same)
  obtain ⟨st, attempts⟩ := g
  cases st with
  | free => exact beginClose_lease other k p rfl n 0
  | parked l since =>
    unfold handOver
    dsimp only
    split
    · exact ⟨decide_eq_false fun same => other (GenState.granted.inj same), rfl⟩
    · split
      · refine ⟨rfl, ?_⟩
        show (decide (some n = some m) && !false) = false
        rw [notMine, Bool.false_and]
      · exact beginClose_lease other k p rfl n 0
  | _ => exact ⟨ungranted, unclaimed⟩

/-- The claims of one motion follow: an IDLE motion is granted nothing, and has no claim if it had none or it is the one
(R74). -/
theorem State.Idles.claimsFollowOf (h : s.Idles m) (n : Motion) : (s.claimsFollowOf n).Idles m ∧
    (n = m.motion ∨ (∀ g, (s.gens.get g).isClaimOf m.motion = false) →
      ∀ g, ((s.claimsFollowOf n).gens.get g).isClaimOf m.motion = false) := by
  have motions := s.claimsFollowOf_motions n
  unfold State.claimsFollowOf at motions ⊢
  split
  · refine ⟨h.kept rfl fun g => ?_, fun unclaimed g => ?_⟩
    all_goals
      unfold State.withdrawAll
      rw [State.onGens_get]
    · exact (withdrawn_granted n _ _).trans (h.ungranted g)
    · exact withdrawn_unclaimed n _ (unclaimed.imp_right fun none => none g)
  · next takes =>
    have other : n ≠ m.motion := by
      rintro rfl
      exact takes (by rw [h.takes]; rfl)
    split
    · refine ⟨h.kept rfl fun g => ?_, fun unclaimed g => ?_⟩
      all_goals
        unfold State.withdrawFailing
        rw [State.onGens_get]
      · exact (withdrawnFailing_granted n _ _).trans (h.ungranted g)
      · exact withdrawnFailing_unclaimed n _ (unclaimed.resolve_left other g)
    · exact ⟨h, fun unclaimed => unclaimed.resolve_left other⟩

theorem State.Idles.claimsFollow (h : s.Idles m) : s.claimsFollow.Idles m ∧
    ∀ g, (s.claimsFollow.gens.get g).isClaimOf m.motion = false := by
  have fold (l : List Motion) : ∀ s : State, s.Idles m →
      (m.motion ∈ l ∨ ∀ g, (s.gens.get g).isClaimOf m.motion = false) → (l.foldl State.claimsFollowOf s).Idles m ∧
        ∀ g, ((l.foldl State.claimsFollowOf s).gens.get g).isClaimOf m.motion = false := by
    induction l with
    | nil => exact fun s h none => ⟨h, none.resolve_left nofun⟩
    | cons n l ih =>
      intro s h none
      obtain ⟨idles, unclaimed⟩ := h.claimsFollowOf n
      refine ih _ idles ?_
      rcases none with mem | already
      · exact (List.mem_cons.1 mem).elim (fun own => .inr (unclaimed (.inl own.symm))) .inl
      · exact .inr (unclaimed (.inr already))
  exact fold Motion.all s h (.inl (Motion.mem_all _))

/-- When claims and list follow, an IDLE motion keeps no claim and no entry (R74). -/
theorem State.Idles.prune (h : s.Idles m) : s.prune.Unleased m := by
  obtain ⟨idles, unclaimed⟩ := h.claimsFollow
  rw [State.prune_eq]
  refine ⟨⟨idles.idle, idles.noHold, idles.ungranted⟩, unclaimed, fun e mem own => ?_⟩
  obtain ⟨old, kept, rfl⟩ := List.mem_map.1 mem
  have wants := (List.mem_filter.1 kept).2
  rw [show old.motion = m.motion from own, idles.wants] at wants
  cases wants

theorem State.Unleased.joins (h : s.Unleased m) : s.joins.Unleased m := by
  have join (s : State) (h : s.Unleased m) (n : Motion) : (s.joinOf n).Unleased m := by
    unfold State.joinOf
    split
    · next joins =>
      refine ⟨h.toIdles.kept rfl h.ungranted, h.unclaimed, List.forall_mem_append.2
        ⟨h.noEntry, List.forall_mem_singleton.2 fun own => ?_⟩⟩
      have wants := (Bool.and_eq_true_iff.1 joins).1
      rw [show n = m.motion from own, h.wants] at wants
      cases wants
    · exact h
  unfold State.joins
  generalize Motion.all = l
  induction l generalizing s with
  | nil => exact h
  | cons n l ih => exact ih (join s h n)

theorem State.Unleased.grantTo (h : s.Unleased m) {n : Motion} (entered : ∃ e ∈ s.arb.list, e.motion = n)
    (counted : Option Motion) (count : Nat) (i : Fin 12) : (s.grantTo n counted count i).Unleased m := by
  obtain ⟨e, mem, rfl⟩ := entered
  refine State.Idles.prune (h.toIdles.kept rfl fun g => ?_)
  show ((s.onGen i _).gens.get g).isGrantedTo m.motion = false
  rw [State.onGen_get]
  split
  · exact (handOver_lease (h.noEntry e mem) _ _ _ (h.ungranted g) (h.unclaimed g)).1
  · exact h.ungranted g

theorem State.Unleased.grantLoop (n : Nat) (h : s.Unleased m) : (State.grantLoop n s).Unleased m := by
  induction n generalizing s with
  | zero => exact h
  | succ n ih =>
    unfold State.grantLoop
    split
    · exact h
    · next t granted =>
      obtain ⟨n, counted, count, i, entered, rfl⟩ := State.grantOne_eq_some granted
      exact ih (h.grantTo entered counted count i)

theorem State.Unleased.endHold (h : s.Unleased m) {n : Dig} (other : m ≠ n) : (s.endHold n).Unleased m := by
  have record := State.endHold_motions_other other s
  have lease := s.returnAll_lease (n := n.motion) (m := m.motion) fun same => other (Dig.motion_injective same).symm
  exact ⟨⟨by rw [record]; exact h.idle, by rw [record]; exact h.noHold, fun g => (lease g).granted.trans (h.ungranted g)⟩,
    fun g => (lease g).claim.trans (h.unclaimed g), h.noEntry⟩

theorem State.Unleased.recallHolds (n : Nat) (h : s.Unleased m) : (State.recallHolds n s).Unleased m := by
  induction n generalizing s with
  | zero => exact h
  | succ n ih =>
    unfold State.recallHolds
    split
    · exact h
    · next i since chosen =>
      have ended := h.endHold (State.recallNext_ne chosen h.noHold)
      dsimp only
      split
      exacts [ended, ih ended]

theorem State.Unleased.arbRun (n : Nat) (h : s.Unleased m) : (State.arbRun n s).Unleased m := by
  induction n generalizing s with
  | zero => exact h
  | succ n ih =>
    unfold State.arbRun
    dsimp only
    split
    · next due =>
      refine ih ?_
      unfold State.recall
      rw [if_pos due]
      exact (h.grantLoop 12).recallHolds 3
    · exact h.grantLoop 12

/-- The arbiter leaves an IDLE motion that is granted nothing without a claim and without an entry (R72–R82). -/
theorem State.Idles.arbitrate (h : s.Idles m) (s0 : State) : (State.arbitrate s0 s).Unleased m := by
  have listed := h.prune.joins
  unfold State.arbitrate
  dsimp only
  split
  exacts [State.Idles.prune (listed.arbRun 4).toIdles, listed]

end Arbiter

/-! ### A completed change and a steady motion -/

/-- On mains, where every condition follows its record: the motions, the arbiter, the motions again, and the permits. -/
theorem State.ConditionsFollow.settle_eq {u : State} (h : u.ConditionsFollow) (mains : u.OnMains) (s0 : State) :
    State.settle s0 u = (State.arbitrate s0 u.resolverFollow.passes).passes.starvedSync.compose := by
  rw [State.settle_onMains s0 mains]
  unfold State.settleInRun
  rw [h.synced]

theorem MotionState.byLease_idle (leased : Bool) : MotionState.idle.byLease leased = .idle := rfl

theorem MotionState.byLease_waiting {st : MotionState} (h : st = .acquiring ∨ st = .ready) (leased : Bool) :
    st.byLease leased = if leased then .ready else .acquiring := if_pos h

theorem MotionState.byLease_byLease (st : MotionState) (a b : Bool) : (st.byLease a).byLease b = st.byLease b := by
  cases st <;> cases a <;> rfl

section Settle

variable {m : Dig} {u : State}

/-- The last passes of a completed change leave what the arbiter leaves, but for the state by the lease. -/
theorem State.passes_end (m : Dig) (w : State) :
    State.FollowsLease m w w.passes.starvedSync.compose ∧ w.SameRecords w.passes.starvedSync.compose :=
  ⟨((w.passes_followsLease m).then (State.starvedSync_leaves m _)).then (State.compose_leaves m _),
    (w.passes_same.trans (State.starvedSync_same _)).trans (State.compose_same _)⟩

/-- A completed change leaves a steady motion its demand, its complement and no hold, in the state that its lease at the end
gives (R81, R87, R91). -/
theorem State.ConditionsFollow.settle_stance (h : u.ConditionsFollow) (mains : u.OnMains) (s0 : State)
    (steady : (u.motions.get m).Steady) :
    ({ u.motions.get m with
        state := (u.motions.get m).state.byLease ((State.settle s0 u).leased m.motion) } : MotionRec).SameStance
      ((State.settle s0 u).motions.get m) := by
  obtain ⟨first, -⟩ := (State.Leaves.then (u.resolverFollow_leaves m) u.resolverFollow_same
    (State.passes_followsLease m _)) steady
  have steadyAfter := first.steady (steady.byLease _)
  have arbitrated := State.arbitrate_stance m s0 _ steadyAfter
  obtain ⟨follows, same⟩ := State.passes_end m (State.arbitrate s0 u.resolverFollow.passes)
  obtain ⟨last, lease⟩ := follows (arbitrated.steady steadyAfter)
  rw [← h.settle_eq mains s0] at last lease same
  have leased : (State.settle s0 u).leased m.motion =
      (State.arbitrate s0 u.resolverFollow.passes).leased m.motion := by
    unfold State.leased
    rw [same.k, State.proven_of_lease same.supply lease]
  have stance := first.trans arbitrated
  refine ⟨?_, last.demand.trans stance.demand, last.complement.trans stance.complement,
    last.holdStart.trans stance.holdStart⟩
  rw [last.state, leased]
  dsimp only
  rw [stance.state]
  exact MotionState.byLease_byLease _ _ _

/-- A completed change gives an IDLE motion with no generator none (R72, R74). -/
theorem State.ConditionsFollow.settle_unleased (h : u.ConditionsFollow) (mains : u.OnMains) (s0 : State) (idles : u.Idles m)
    (g : Fin 12) : ((State.settle s0 u).gens.get g).isGrantedTo m.motion = false ∧
      ((State.settle s0 u).gens.get g).isClaimOf m.motion = false := by
  have steady : (u.motions.get m).Steady := ⟨.inl idles.idle, idles.noHold⟩
  obtain ⟨first, lease⟩ := (State.Leaves.then (u.resolverFollow_leaves m) u.resolverFollow_same
    (State.passes_followsLease m _)) steady
  have steadyAfter := first.steady (steady.byLease _)
  have passed : u.resolverFollow.passes.Idles m := by
    refine ⟨first.state.trans ?_, first.holdStart.trans idles.noHold, fun g => (lease g).granted.trans (idles.ungranted g)⟩
    rw [idles.idle]
    rfl
  have unleased := passed.arbitrate s0
  obtain ⟨-, last⟩ := (State.passes_end m (State.arbitrate s0 u.resolverFollow.passes)).1
    ((State.arbitrate_stance m s0 _ steadyAfter).steady steadyAfter)
  rw [h.settle_eq mains s0]
  exact ⟨(last g).granted.trans (unleased.ungranted g), (last g).claim.trans (unleased.unclaimed g)⟩

end Settle

end Sys2Proof.Machine
end

section
/-! SUPPORT. The two lease times that end (05 R81, R83) and DEMAND with a direction (06 R88–R91): the own effect of each, and what
the completion of the change makes of the motion. -/

namespace Sys2Proof.Machine

/-! ### The end of a release hold (R81, R100) -/

theorem exec_releaseHoldExpiry {s : State} {m : Dig} (mains : s.OnMains) (releasing : (s.motions.get m).state = .releasing)
    (begun : (s.motions.get m).holdStart.isSome = true) :
    exec (.releaseHoldExpiry m) s = .next (State.settle s (s.endHold m)) := by
  show Host.Outcome.next (s.event _) = _
  rw [s.event_runs _ mains.1]
  unfold State.inRun State.holdExpires
  rw [State.inHoldup_of_onMains mains, if_neg (by decide)]
  exact congrArg (fun u => Host.Outcome.next (State.settle s u)) (if_pos ⟨releasing, begun⟩)

theorem State.endHold_get (s : State) (m : Dig) : (s.endHold m).motions.get m = (s.motions.get m).idled :=
  PerDig.get_set_self _ _ _

/-- The end of a hold leaves its motion IDLE, with no hold and no generator (R80, R81, R100). -/
theorem State.endHold_idles (s : State) (m : Dig) : (s.endHold m).Idles m := by
  refine ⟨by rw [s.endHold_get]; rfl, by rw [s.endHold_get]; rfl, fun g => ?_⟩
  show ((s.returnAll m.motion).gens.get g).isGrantedTo m.motion = false
  unfold State.returnAll
  rw [State.onGens_get]
  split
  · next granted => exact (returned_lease _ _ _ _ ((Gen.isGrantedTo_iff _ _).1 granted)).1
  · next ungranted => exact Bool.eq_false_iff.2 ungranted

theorem State.proven_eq_zero {s : State} {m : Motion} (ungranted : ∀ g, (s.gens.get g).isGrantedTo m = false) :
    s.proven m = 0 := by
  have granted : s.gens.cells.countP (fun g => g.isGrantedTo m) = 0 := Table.countP_eq_zero ungranted
  unfold State.proven
  rw [granted, ite_self]

theorem State.held_eq_zero {s : State} {m : Motion} (ungranted : ∀ g, (s.gens.get g).isGrantedTo m = false)
    (unclaimed : ∀ g, (s.gens.get g).isClaimOf m = false) : s.held m = 0 := by
  have granted : s.gens.cells.countP (fun g => g.isGrantedTo m) = 0 := Table.countP_eq_zero ungranted
  have claimed : s.gens.cells.countP (fun g => g.isClaimOf m) = 0 := Table.countP_eq_zero unclaimed
  unfold State.held
  rw [granted, claimed, ite_self]

/-- RELEASE_HOLD_EXPIRY of a motion RELEASING with its hold begun, on mains (R81, R100). -/
theorem releaseHoldExpiry_returns {s : State} {m : Dig} (mains : s.OnMains) (follow : s.ConditionsFollow)
    (releasing : (s.motions.get m).state = .releasing) (begun : (s.motions.get m).holdStart.isSome = true) :
    ∃ t, exec (.releaseHoldExpiry m) s = .next t ∧ (t.motions.get m).state = .idle ∧ (t.motions.get m).holdStart = none ∧
      (t.motions.get m).complement = (s.motions.get m).complement ∧ t.proven m.motion = 0 ∧ t.held m.motion = 0 ∧
      s.SameRecords t := by
  have same := s.endHold_same m
  have ended : (s.endHold m).ConditionsFollow :=
    follow.kept (.of_alarms rfl) same.butPorts (s.endHold_carries m).standing
  have endedMains : (s.endHold m).OnMains := same.butPorts.onMains mains
  have idles := s.endHold_idles m
  have stance := ended.settle_stance endedMains s (m := m) ⟨.inl idles.idle, idles.noHold⟩
  rw [idles.idle, MotionState.byLease_idle, s.endHold_get] at stance
  have unleased := ended.settle_unleased endedMains s idles
  exact ⟨_, exec_releaseHoldExpiry mains releasing begun, stance.state, stance.holdStart, stance.complement,
    State.proven_eq_zero fun g => (unleased g).1, State.held_eq_zero (fun g => (unleased g).1) fun g => (unleased g).2,
    same.trans (State.settle_same _ _)⟩

/-! ### The end of a starve time (R83) -/

theorem exec_starveTimeEnd {s : State} (m : Motion) (mains : s.OnMains) :
    exec (.starveTimeEnd m) s = .next (State.settle s (s.starves m)) := by
  show Host.Outcome.next (s.event _) = _
  rw [s.event_runs _ mains.1]
  unfold State.inRun
  rw [State.inHoldup_of_onMains mains, if_neg (by decide)]

theorem State.starvedNow_iff (s : State) (m : Motion) : s.starvedNow m = true ↔
    ∃ e ∈ s.arb.list, e.motion = m ∧ ∃ since, e.shortSince = some since ∧ s.k.starveTime < s.now - since := by
  unfold State.starvedNow
  rw [List.any_eq_true]
  refine exists_congr fun e => and_congr_right fun _ => ?_
  rw [Bool.and_eq_true, decide_eq_true_iff]
  cases e.shortSince <;> simp

/-- Settles O35: the hold that ends returns what the motion is granted, and the completion of the change, which finds every
condition at its truth, gives an IDLE motion nothing; the starve time is the model's own test. -/
theorem leaseTimersEnd : Obligations.LeaseTimersEnd := by
  refine ⟨fun s m mains follow _ releasing _ begun => releaseHoldExpiry_returns mains follow releasing begun,
    fun s m mains => ⟨fun starved => ⟨?_, ?_⟩, fun fed => ?_⟩⟩
  · have notFull : (⟨13, m.number⟩ : AlarmKey) ≠ fullKey := fun full =>
      absurd (congrArg AlarmKey.code full) (show (13 : Nat) ≠ 21 by decide)
    exact (s.isTrue_raiseCondition _ notFull).2 (.inl rfl)
  · rw [exec_starveTimeEnd m mains]
    unfold State.starves
    rw [if_pos ((s.starvedNow_iff m).2 starved)]
  · have notStarved : ¬ s.starvedNow m = true := fun starved => by
      obtain ⟨e, mem, own, since, short, exceeds⟩ := (s.starvedNow_iff m).1 starved
      exact absurd exceeds (fed e mem since own short).not_gt
    rw [exec_starveTimeEnd m mains]
    unfold State.starves
    rw [if_neg notStarved]

/-! ### DEMAND with a direction (R75, R88–R91) -/

/-- A change of the generators alone that keeps each one's standing. -/
def State.Regens (s t : State) : Prop :=
  ∃ x : Table Gen 12, t = { s with gens := x } ∧ ∀ g, (s.gens.get g).Standing (x.get g)

theorem State.Regens.refl (s : State) : s.Regens s := ⟨s.gens, rfl, fun _ => .refl _⟩

theorem State.Regens.trans {s t u : State} (h : s.Regens t) (g : t.Regens u) : s.Regens u := by
  obtain ⟨x, rfl, standing⟩ := h
  obtain ⟨y, rfl, standing'⟩ := g
  exact ⟨y, rfl, fun i => (standing i).trans (standing' i)⟩

theorem State.onGen_regens (s : State) (i : Fin 12) {f : Gen → Gen} (hf : ∀ g : Gen, g.Standing (f g)) :
    s.Regens (s.onGen i f) := ⟨_, rfl, (s.onGen_carries i hf).standing⟩

theorem State.giveBackOne_regens (s : State) (m : Motion) : s.Regens (s.giveBackOne m) := by
  unfold State.giveBackOne
  split
  · exact s.onGen_regens _ (withdrawn_standing m)
  · split
    · exact s.onGen_regens _ (returned_standing _ _ _)
    · exact .refl s

theorem State.giveBackLoop_regens (n : Nat) (m : Motion) (s : State) : s.Regens (State.giveBackLoop n m s) := by
  induction n generalizing s with
  | zero => exact .refl s
  | succ n ih =>
    unfold State.giveBackLoop
    split
    exacts [(s.giveBackOne_regens m).trans (ih _), .refl s]

/-- A give-back withdraws claims and returns generators, and does nothing else (R75). -/
theorem State.giveBack_regens (s : State) (m : Motion) : s.Regens (s.giveBack m) := by
  have failing : s.Regens (s.withdrawFailing m) :=
    ⟨_, rfl, (s.onGens_carries fun _ g => withdrawnFailing_standing m g).standing⟩
  unfold State.giveBack
  split
  exacts [failing.trans (State.giveBackLoop_regens 12 m _), .refl s]

section Demand

variable {s : State} {m : Dig} {d : Dir} {c : Complement}

/-- A motion that a directional DEMAND has found free to take it: with that demand and complement, no hold, and ACQUIRING or
READY. -/
structure MotionRec.Demanded (r : MotionRec) (d : Dir) (c : Complement) : Prop where
  state : r.state = .acquiring ∨ r.state = .ready
  demand : r.demand = some d
  complement : r.complement = c
  holdStart : r.holdStart = none

theorem MotionRec.Demanded.steady {r : MotionRec} (h : r.Demanded d c) : r.Steady := ⟨.inr h.state, h.holdStart⟩

/-- A lawful motion whose record shows the demand already is as the DEMAND would leave it (R88, R96, R100). -/
theorem MotionRec.Lawful.demanded {r : MotionRec} (lawful : r.Lawful) (repeats : r.repeats (some d) c = true) :
    r.Demanded d c := by
  obtain ⟨demand, complement⟩ := Bool.and_eq_true_iff.1 repeats
  obtain ⟨outside, -, hold, -⟩ := lawful
  have wants : r.demand = some d := of_decide_eq_true demand
  have state : r.state = .acquiring ∨ r.state = .ready := by
    by_contra other
    obtain ⟨notAcquiring, notReady⟩ := not_or.1 other
    rw [(outside notAcquiring notReady).1] at wants
    cases wants
  refine ⟨state, wants, of_decide_eq_true complement, ?_⟩
  by_contra begun
  have releasing := hold (Option.isSome_iff_ne_none.2 begun)
  rw [releasing] at state
  exact state.elim nofun nofun

theorem stateAfterDemand_waiting {st : MotionState} (untripped : st ≠ .tripped) (unlocked : st ≠ .locked) (leased : Bool) :
    stateAfterDemand st leased = .acquiring ∨ stateAfterDemand st leased = .ready := by
  cases st with
  | idle => exact .inl rfl
  | acquiring => exact .inl rfl
  | ready => exact .inr rfl
  | releasing =>
    cases leased
    exacts [.inl rfl, .inr rfl]
  | tripped => exact absurd rfl untripped
  | locked => exact absurd rfl unlocked

/-- What a directional DEMAND that is taken does: it leaves the motion demanded and touches no other record but the generators,
each in its standing (R75, R81, R88). -/
theorem State.demandTaken_demanded (untripped : (s.motions.get m).state ≠ .tripped)
    (unlocked : (s.motions.get m).state ≠ .locked) (lawful : (s.motions.get m).Lawful) :
    ((s.demandTaken (m, some d, c)).state.motions.get m).Demanded d c ∧
      s.SameRecords (s.demandTaken (m, some d, c)).state ∧
      (s.demandTaken (m, some d, c)).state.alarms = s.alarms ∧
      (∀ g, (s.gens.get g).Standing ((s.demandTaken (m, some d, c)).state.gens.get g)) ∧
      (s.demandTaken (m, some d, c)).reply = Reply.of .done := by
  unfold State.demandTaken
  dsimp only
  rw [if_neg untripped, if_neg unlocked]
  split
  · next repeats => exact ⟨lawful.demanded repeats, .refl s, rfl, fun _ => .refl _, rfl⟩
  · have same := s.demandActs_same m (some d) c
    obtain ⟨x, given, standing⟩ := (s.demandMotion m d c).giveBack_regens m.motion
    have acts : s.demandActs m (some d) c = { s.demandMotion m d c with gens := x } := given
    rw [acts] at same ⊢
    refine ⟨?_, same, rfl, standing, rfl⟩
    show ((s.motions.set m _).get m).Demanded d c
    rw [PerDig.get_set_self]
    exact ⟨stateAfterDemand_waiting untripped unlocked _, rfl, rfl, rfl⟩

/-- A completed change leaves a demanded motion demanded, READY or ACQUIRING by its proven count at the end (R91). -/
theorem State.ConditionsFollow.settle_demanded {u : State} (h : u.ConditionsFollow) (mains : u.OnMains) (s0 : State)
    (demanded : (u.motions.get m).Demanded d c) :
    ((State.settle s0 u).motions.get m).Demanded d c ∧ ((State.settle s0 u).motions.get m).state =
      if (State.settle s0 u).leased m.motion then .ready else .acquiring := by
  have stance := h.settle_stance mains s0 demanded.steady
  have state := stance.state.trans (MotionState.byLease_waiting demanded.state _)
  refine ⟨⟨?_, stance.demand.trans demanded.demand, stance.complement.trans demanded.complement,
    stance.holdStart.trans demanded.holdStart⟩, state⟩
  rw [state]
  split
  exacts [.inr rfl, .inl rfl]

theorem exec_demand {f : Frame} {x : Dig × Option Dir × Complement} (takes : s.Takes f .cab)
    (parsed : parseDemand s f.fields = .ok x) : exec (.demand f) s =
      .next (State.settle s (((s.atRequest f.port).demandTaken x).answered demandSpec f .nothing)) := by
  obtain ⟨mains, port, awaits⟩ := takes
  rw [← port] at awaits
  exact congrArg Host.Outcome.next (request_onMains (q := demandSpec) (parse := parseDemand) (x := x)
    (act := fun x t => t.demandTaken x) mains awaits (by rw [port]; rfl) parsed rfl (.inl rfl))

theorem State.atRequest_truth (s : State) (p : Port) : State.TruthBut [2, 21] s (s.atRequest p) := by
  cases p with
  | service => exact .of_alarms rfl
  | cab =>
    have cleared : State.TruthBut [2, 21] s (({ s.hunt .cab with
        cabTimer := .running s.k.cabLinkPeriod } : State).clearCondition ⟨2, 0⟩) :=
      (State.TruthBut.of_alarms rfl).trans (.clearCondition _ (by decide) (by decide))
    exact State.TruthBut.ite (.of_alarms rfl) cleared

end Demand

/-- Settles O36: the DEMAND leaves the motion demanded and every condition at its truth, so that the completion of the change
raises nothing against it, and the last passes set its state by its lease. -/
theorem demandIsTaken : Obligations.DemandIsTaken := by
  intro s f m d c takes follow _ lawful _ parsed untripped unlocked
  have arrives := s.atRequest_arrives f.port
  rw [← arrives.motions] at untripped unlocked
  have lawfulThere : ((s.atRequest f.port).motions.get m).Lawful := by
    rw [arrives.motions]
    exact lawful m
  obtain ⟨demanded, sameTaken, alarms, standing, reply⟩ :=
    State.demandTaken_demanded (d := d) (c := c) untripped unlocked lawfulThere
  let taken := (s.atRequest f.port).demandTaken (m, some d, c)
  let u := taken.answered demandSpec f .nothing
  have same : s.SameButPorts u := arrives.same.trans (sameTaken.butPorts.trans (State.answer_butPorts _ _ _))
  have truth : State.TruthBut [2, 21] s u := (s.atRequest_truth f.port).trans (.of_alarms alarms)
  have gens (g : Fin 12) : (s.gens.get g).Standing (u.gens.get g) := by
    rw [← arrives.gens]
    exact standing g
  have mains : u.OnMains := same.onMains takes.1
  have followThere : u.ConditionsFollow := follow.kept truth same gens
  obtain ⟨stands, state⟩ := followThere.settle_demanded mains s demanded
  have answers := State.settle_answers s taken demandSpec f .nothing
  rw [reply, takes.2.1] at answers
  have k : (State.settle s u).k = s.k := (same.settled s).k
  refine ⟨_, exec_demand takes parsed, answers, stands.demand, stands.complement, stands.holdStart, ?_, same.settled s⟩
  by_cases leased : s.k.minimumComplement.get m.motion ≤ (State.settle s u).proven m.motion
  · refine .inl ⟨state.trans (if_pos (decide_eq_true ?_)), leased⟩
    rw [k]
    exact leased
  · refine .inr ⟨state.trans (if_neg (Bool.eq_false_iff.1 (decide_eq_false ?_))), Nat.lt_of_not_le leased⟩
    rw [k]
    exact leased

end Sys2Proof.Machine
end

section
/-! SUPPORT. What the completion of a change does to the record of a dig motion and to the walk record, as the few changes of
those records that the followers make (05 R81, R82, 06 R90–R104, 07 R116–R126). A predicate that every one of these changes
keeps holds at the end of the completion when it holds at its beginning. -/

namespace Sys2Proof.Machine

/-! ### The changes of the records -/

/-- One change that what follows a dig motion record makes to it; `shows` says that its brake proof shows released. -/
inductive MotionRec.Follow (shows : Bool) : MotionRec → MotionRec → Prop
  | reversal (r : MotionRec) (b : Bool) : Follow shows r { r with reversal := b }
  | lease (r : MotionRec) (leased : Bool) : Follow shows r { r with state := r.state.byLease leased }
  | brake (r : MotionRec) (k : Constants) (now : Nat) (terms stopped : Bool) (runs : terms = true → r.state = .ready) :
      Follow shows r { r with brake := r.brake.follow k now terms stopped }
  | provenSet (r : MotionRec) (b : Bool) (setting : r.brake.state = .setting) (absent : shows = false) :
      Follow shows r { r with reversal := b, brake := r.brake.provenSet }
  | provenReleased (r : MotionRec) (releasing : r.brake.state = .releasing) (shown : shows = true) :
      Follow shows r { r with brake := r.brake.provenReleased }
  | lifted (r : MotionRec) (k : Constants) (set : r.brake.state = .set) (ready : r.state = .ready) :
      Follow shows r { r with brake := Brake.lifted k }
  | holdBegins (r : MotionRec) (since left : Nat) (releasing : r.state = .releasing) :
      Follow shows r { r with holdStart := some since, holdTimer := some left }
  | idled (r : MotionRec) (ends : r.state = .releasing ∨ r.holdStart.isSome = true) : Follow shows r r.idled
  | composed (r : MotionRec) (p : Option Dir) (q : Option HoldReason)
      (permits : p.isSome = true → r.state = .ready ∧ p = r.demand)
      (holds : q.isSome = true → r.state = .acquiring ∨ r.state = .ready) :
      Follow shows r { r with permit := p, holdReason := q }

/-- The walk record at the release proof of its brake, in the phase of the stride position (R116, R129). -/
def WalkRec.released (w : WalkRec) (k : Constants) (p : Phase) : WalkRec :=
  let b := { w with brake := w.brake.provenReleased }
  match w.state with
  | .preparing => { b.stepBegun k p with prepareTimer := none }
  | .stepping => match w.phaseTimer with
    | some _ => b
    | none => { b with phaseTimer := some (k.phaseTimeout * 1000) }
  | .interrupted => b
  | .idle => b

theorem State.walkReleased_walk (s : State) : s.walkReleased.walk = s.walk.released s.k (phaseOf s.k s.stride) := rfl

/-- PREPARING or STEPPING with no ending: what the walk brake's terms ask of the record (R118). -/
def WalkRec.Walks (w : WalkRec) : Prop := w.ending = none ∧ (w.state = .preparing ∨ w.state = .stepping)

theorem State.walks_of_terms {s : State} (h : s.walkTerms = true) : s.walk.Walks := by
  unfold State.walkTerms at h
  dsimp only at h
  obtain ⟨endless, state⟩ := Bool.and_eq_true_iff.1 h
  obtain ⟨endless, -⟩ := Bool.and_eq_true_iff.1 endless
  refine ⟨Option.isNone_iff_eq_none.1 endless, ?_⟩
  cases e : s.walk.state with
  | preparing => exact .inl rfl
  | stepping => exact .inr rfl
  | interrupted | idle =>
    rw [e] at state
    cases state

/-- One change that what follows the walk record makes to it; `shows` says that its brake proof shows released. -/
inductive WalkRec.Follow (shows : Bool) : WalkRec → WalkRec → Prop
  | brake (w : WalkRec) (k : Constants) (now : Nat) (terms stopped : Bool) (walks : terms = true → w.Walks) :
      Follow shows w { w with brake := w.brake.follow k now terms stopped }
  | provenSet (w : WalkRec) (setting : w.brake.state = .setting) (absent : shows = false) :
      Follow shows w { w with brake := w.brake.provenSet }
  | released (w : WalkRec) (k : Constants) (p : Phase) (releasing : w.brake.state = .releasing) (shown : shows = true) :
      Follow shows w (w.released k p)
  | dwells (w : WalkRec) (left : Nat) : Follow shows w { w with dwellTimer := some left }
  | lifted (w : WalkRec) (k : Constants) (set : w.brake.state = .set) (walks : w.Walks) :
      Follow shows w { w with brake := Brake.lifted k }
  | composed (w : WalkRec) (p : Option Dir) (permits : p.isSome = true → w.state = .stepping ∧ w.ending = none) :
      Follow shows w { w with permit := p }

/-- A relation between a dig motion record with the walk record before and after a change, under the inputs. -/
abbrev RecordChange : Type := Inputs → Dig → MotionRec × WalkRec → MotionRec × WalkRec → Prop

/-- One change of a dig motion record or of the walk record, or the finish of a walk, which changes both (R126). -/
inductive Following (i : Inputs) (m : Dig) : MotionRec × WalkRec → MotionRec × WalkRec → Prop
  | motion (w : WalkRec) {r r' : MotionRec} (h : r.Follow (i.brakeProof.get m.motion) r') : Following i m (r, w) (r', w)
  | walk (r : MotionRec) {w w' : WalkRec} (h : w.Follow (i.brakeProof.get .walk) w') : Following i m (r, w) (r, w')
  | finish (r : MotionRec) (w : WalkRec) (o : WalkOutcome) (ending : w.ending = some o) (set : w.brake.state = .set) :
      Following i m (r, w) (r.unlocked, w.finished o)

/-! ### The records of a state -/

/-- Every dig motion record, with the walk record, came about by changes of one kind, under inputs as they were. -/
structure State.Brings (R : RecordChange) (s t : State) : Prop where
  inputs : t.inputs = s.inputs
  records : ∀ m, Relation.ReflTransGen (R s.inputs m) (s.motions.get m, s.walk) (t.motions.get m, t.walk)

section Brings

variable {R : RecordChange} {s t u : State}

theorem State.Brings.refl (s : State) : State.Brings R s s := ⟨rfl, fun _ => .refl⟩

theorem State.Brings.trans (h : State.Brings R s t) (g : State.Brings R t u) : State.Brings R s u :=
  ⟨g.inputs.trans h.inputs, fun m => (h.records m).trans (by
    rw [← h.inputs]
    exact g.records m)⟩

theorem State.Brings.of_same (inputs : t.inputs = s.inputs) (motions : t.motions = s.motions) (walk : t.walk = s.walk) :
    State.Brings R s t := ⟨inputs, fun m => by rw [motions, walk]⟩

/-- What other records changed before does not matter. -/
theorem State.Brings.after (h : State.Brings R t u) (inputs : t.inputs = s.inputs) (motions : t.motions = s.motions)
    (walk : t.walk = s.walk) : State.Brings R s u := (State.Brings.of_same inputs motions walk).trans h

theorem State.Brings.ite {p : Prop} [Decidable p] (ht : State.Brings R s t) (hu : State.Brings R s u) :
    State.Brings R s (if p then t else u) := by
  split
  exacts [ht, hu]

theorem State.Brings.foldl {α : Type} {f : State → α → State} (h : ∀ (s : State) (a : α), State.Brings R s (f s a))
    (l : List α) (s : State) : State.Brings R s (l.foldl f s) := by
  induction l generalizing s with
  | nil => exact .refl s
  | cons a l ih => exact (h s a).trans (ih (f s a))

/-- A predicate that every change of a pair of records keeps. -/
theorem State.Brings.pair (h : State.Brings R s t) (m : Dig) {P : MotionRec × WalkRec → Prop}
    (kept : ∀ x y, P x → R s.inputs m x y → P y) (start : P (s.motions.get m, s.walk)) :
    P (t.motions.get m, t.walk) := by
  refine (h.records m).head_induction_on (motive := fun x _ => P x → P (t.motions.get m, t.walk)) id ?_ start
  intro x y change _ ih held
  exact ih (kept x y held change)

end Brings

/-- What the followers of a change bring. -/
abbrev State.Evolves (s t : State) : Prop := State.Brings Following s t

section Evolves

variable {s t : State}

theorem State.onMotion_evolves {m : Dig} {f : MotionRec → MotionRec}
    (h : (s.motions.get m).Follow (s.showsReleased m.motion) (f (s.motions.get m))) : s.Evolves (s.onMotion m f) := by
  refine ⟨rfl, fun n => ?_⟩
  rw [State.onMotion_get]
  split
  · next same =>
    cases same
    exact .single (.motion _ h)
  · exact .refl

theorem State.onWalk_evolves {f : WalkRec → WalkRec} (h : s.walk.Follow (s.showsReleased .walk) (f s.walk)) :
    s.Evolves (s.onWalk f) := ⟨rfl, fun _ => .single (.walk _ h)⟩

/-- A predicate on the record of a dig motion. -/
theorem State.Evolves.motion (h : s.Evolves t) (m : Dig) {P : MotionRec → Prop}
    (kept : ∀ r r', P r → r.Follow (s.showsReleased m.motion) r' → P r') (unlocked : ∀ r, P r → P r.unlocked)
    (start : P (s.motions.get m)) : P (t.motions.get m) := by
  refine h.pair m (P := fun x => P x.1) (fun x y held change => ?_) start
  cases change with
  | motion w change => exact kept _ _ held change
  | walk => exact held
  | finish => exact unlocked _ held

/-- A predicate on the walk record. -/
theorem State.Evolves.walk (h : s.Evolves t) {P : WalkRec → Prop}
    (kept : ∀ w w', P w → w.Follow (s.showsReleased .walk) w' → P w')
    (finished : ∀ w o, P w → w.ending = some o → w.brake.state = .set → P (w.finished o)) (start : P s.walk) : P t.walk := by
  refine h.pair .hoist (P := fun x => P x.2) (fun x y held change => ?_) start
  cases change with
  | motion => exact held
  | walk r change => exact kept _ _ held change
  | finish r w o ending set => exact finished w o held ending set

end Evolves

/-! ### The dig motions -/

theorem State.clearCondition_evolves (s : State) (key : AlarmKey) : s.Evolves (s.clearCondition key) :=
  State.Brings.ite (.of_same rfl rfl rfl) (.refl s)

theorem State.onGens_evolves (s : State) (f : PerMotion Bool → Gen → Gen) : s.Evolves (s.onGens f) := .of_same rfl rfl rfl

theorem State.ready_of_runs {s : State} {m : Dig} (h : s.runs m = true) : (s.motions.get m).state = .ready := by
  unfold State.runs at h
  dsimp only at h
  split at h
  · cases h
  · simp only [Bool.and_eq_true, decide_eq_true_eq] at h
    exact h.1.1

theorem State.reversalPass_evolves (s : State) (m : Dig) : s.Evolves (s.reversalPass m) := by
  refine State.onMotion_evolves ?_
  split
  exacts [.reversal _ _, .reversal _ (s.motions.get m).reversal]

theorem State.readyPass_evolves (s : State) (m : Dig) : s.Evolves (s.readyPass m) := by
  have own := s.readyPass_get m
  refine State.onMotion_evolves ?_
  unfold State.readyPass at own
  rw [State.onMotion_get, if_pos rfl] at own
  rw [own]
  exact .lease _ _

theorem State.brakePass_evolves (s : State) (m : Dig) : s.Evolves (s.brakePass m) :=
  State.onMotion_evolves (.brake _ _ _ _ _ State.ready_of_runs)

theorem State.proofPass_evolves (s : State) (m : Dig) : s.Evolves (s.proofPass m) := by
  unfold State.proofPass
  dsimp only
  split
  · next setting =>
    split
    · exact .refl s
    · next absent =>
      exact (State.onMotion_evolves (.provenSet _ _ setting (Bool.eq_false_iff.2 absent))).trans
        (State.clearCondition_evolves _ _)
  · next releasing =>
    split
    · next shown => exact State.onMotion_evolves (.provenReleased _ releasing shown)
    · exact .refl s
  · exact .refl s
  · exact .refl s

theorem State.endHold_evolves {s : State} {m : Dig}
    (ends : (s.motions.get m).state = .releasing ∨ (s.motions.get m).holdStart.isSome = true) : s.Evolves (s.endHold m) :=
  (s.onGens_evolves _).trans (State.onMotion_evolves (.idled _ ends))

theorem State.beginHold_evolves {s : State} {m : Dig} (releasing : (s.motions.get m).state = .releasing) :
    s.Evolves (s.beginHold m) :=
  (State.onMotion_evolves (.idled _ (.inl releasing))).ite
    ((State.endHold_evolves (.inl releasing)).ite (State.onMotion_evolves (.holdBegins _ _ _ releasing)))

theorem MotionRec.releasing_of_holdDue {r : MotionRec} (h : r.holdDue = true) : r.state = .releasing := by
  unfold MotionRec.holdDue at h
  simp only [Bool.and_eq_true, decide_eq_true_eq] at h
  exact h.1.1

theorem State.restPass_evolves (s : State) (m : Dig) : s.Evolves (s.restPass m) := by
  unfold State.restPass
  dsimp only
  split
  · next set =>
    split
    · next runs => exact State.onMotion_evolves (.lifted _ _ set (State.ready_of_runs runs))
    · split
      · next due => exact State.beginHold_evolves (MotionRec.releasing_of_holdDue due)
      · exact (s.onGens_evolves _).ite (.refl s)
  · exact .refl s

theorem State.motionPass_evolves (s : State) (m : Dig) : s.Evolves (s.motionPass m) :=
  ((((s.reversalPass_evolves m).trans (State.readyPass_evolves _ m)).trans (State.brakePass_evolves _ m)).trans
    (State.proofPass_evolves _ m)).trans (State.restPass_evolves _ m)

/-! ### The walk -/

theorem State.walkProofPass_evolves (s : State) : s.Evolves s.walkProofPass := by
  unfold State.walkProofPass
  split
  · next setting =>
    split
    · exact .refl s
    · next absent =>
      exact (State.onWalk_evolves (.provenSet _ setting (Bool.eq_false_iff.2 absent))).trans
        (State.clearCondition_evolves _ _)
  · next releasing =>
    split
    · next shown =>
      refine State.onWalk_evolves ?_
      exact WalkRec.Follow.released s.walk s.k (phaseOf s.k s.stride) releasing shown
    · exact .refl s
  · exact .refl s
  · exact .refl s

theorem State.walkFinish_evolves {s : State} {o : WalkOutcome} (ending : s.walk.ending = some o)
    (set : s.walk.brake.state = .set) : s.Evolves (s.walkFinish o) := by
  refine ⟨rfl, fun m => ?_⟩
  have record : (s.walkFinish o).motions.get m = (s.motions.get m).unlocked := PerDig.get_map _ _ m
  rw [record]
  exact .single (.finish _ _ o ending set)

theorem State.walkRestPass_evolves (s : State) : s.Evolves s.walkRestPass := by
  unfold State.walkRestPass
  dsimp only
  split
  · next set =>
    split
    · next o ending => exact State.walkFinish_evolves ending set
    · split
      · exact s.onGens_evolves _
      split
      · split
        exacts [.refl s, State.onWalk_evolves (.dwells _ _)]
      split
      · next terms => exact State.onWalk_evolves (.lifted _ _ set (State.walks_of_terms terms))
      · exact .refl s
  · exact .refl s

theorem State.walkPass_evolves (s : State) : s.Evolves s.walkPass :=
  ((State.onWalk_evolves (.brake _ _ _ _ _ State.walks_of_terms)).trans (State.walkProofPass_evolves _)).trans
    (State.walkRestPass_evolves _)

theorem State.passes_evolves (s : State) : s.Evolves s.passes :=
  (((s.motionPass_evolves _).trans (State.motionPass_evolves _ _)).trans (State.motionPass_evolves _ _)).trans
    (State.walkPass_evolves _)

/-! ### The arbiter -/

theorem State.claimsFollow_evolves (s : State) : s.Evolves s.claimsFollow :=
  .foldl (fun s _ => (s.onGens_evolves _).ite ((s.onGens_evolves _).ite (.refl s))) _ s

theorem State.prune_evolves (s : State) : s.Evolves s.prune := by
  rw [State.prune_eq]
  exact s.claimsFollow_evolves.trans (.of_same rfl rfl rfl)

theorem State.grantOne_evolves {s t : State} (h : s.grantOne = some t) : s.Evolves t := by
  obtain ⟨n, counted, count, i, -, rfl⟩ := State.grantOne_eq_some h
  exact (State.prune_evolves _).after rfl rfl rfl

theorem State.grantLoop_evolves (n : Nat) (s : State) : s.Evolves (State.grantLoop n s) := by
  induction n generalizing s with
  | zero => exact .refl s
  | succ n ih =>
    unfold State.grantLoop
    split
    · exact .refl s
    · next t h => exact (State.grantOne_evolves h).trans (ih t)

theorem State.recallHolds_evolves (n : Nat) (s : State) : s.Evolves (State.recallHolds n s) := by
  induction n generalizing s with
  | zero => exact .refl s
  | succ n ih =>
    unfold State.recallHolds
    split
    · exact .refl s
    · next m since next =>
      have holds : (s.motions.get m).holdStart.isSome = true := by rw [State.recallNext_eq_some next]; rfl
      have ended : s.Evolves (s.endHold m) := State.endHold_evolves (.inr holds)
      exact ended.ite (ended.trans (ih _))

theorem State.arbRun_evolves (n : Nat) (s : State) : s.Evolves (State.arbRun n s) := by
  induction n generalizing s with
  | zero => exact .refl s
  | succ n ih =>
    have granted := State.grantLoop_evolves 12 s
    exact (granted.trans (((State.recallHolds_evolves 3 _).ite (.refl _)).trans (ih _))).ite granted

theorem State.arbitrate_evolves (s0 s : State) : s.Evolves (State.arbitrate s0 s) := by
  have joined (t : State) (m : Motion) : t.Evolves (t.joinOf m) := State.Brings.ite (.of_same rfl rfl rfl) (.refl t)
  have listed : s.Evolves s.prune.joins := s.prune_evolves.trans (.foldl joined _ _)
  exact ((listed.trans (State.arbRun_evolves 4 _)).trans (State.prune_evolves _)).ite listed

/-! ### The permits -/

theorem State.permitOf_isSome {s : State} {m : Dig} (h : (s.permitOf m).isSome = true) :
    (s.motions.get m).state = .ready ∧ s.permitOf m = (s.motions.get m).demand := by
  unfold State.permitOf at h ⊢
  dsimp only at h ⊢
  split at h
  · next terms =>
    rw [if_pos terms]
    simp only [Bool.and_eq_true] at terms
    exact ⟨State.ready_of_runs terms.1.1.1, rfl⟩
  · cases h

theorem State.holdReasonOf_isSome {s : State} {m : Dig} (h : (s.holdReasonOf m).isSome = true) :
    (s.motions.get m).state = .acquiring ∨ (s.motions.get m).state = .ready := by
  unfold State.holdReasonOf at h
  dsimp only at h
  split at h
  · next waits => exact waits.1
  · cases h

theorem State.walkPermitOf_isSome {s : State} (h : s.walkPermitOf.isSome = true) :
    s.walk.state = .stepping ∧ s.walk.ending = none := by
  unfold State.walkPermitOf WalkRec.stepping at h
  dsimp only at h
  split at h
  · next terms =>
    simp only [Bool.and_eq_true, decide_eq_true_eq, Option.isNone_iff_eq_none] at terms
    exact terms.1.1.1.1
  · cases h

theorem State.composeDigs_get (s : State) (m : Dig) : s.composeDigs.motions.get m = s.composed m (s.motions.get m) := by
  cases m <;> rfl

theorem State.compose_get (s : State) (m : Dig) : s.compose.motions.get m = s.composed m (s.motions.get m) :=
  s.composeDigs_get m

theorem State.compose_evolves (s : State) : s.Evolves s.compose := by
  have digs : s.Evolves s.composeDigs := ⟨rfl, fun m => by
    rw [State.composeDigs_get]
    exact .single (.motion _ (.composed _ _ _ State.permitOf_isSome State.holdReasonOf_isSome))⟩
  have walk (t : State) : t.Evolves t.composeWalk := State.onWalk_evolves (.composed _ _ State.walkPermitOf_isSome)
  exact digs.trans (walk _)

/-! ### The followers of a change, after the conditions -/

theorem State.starvedSync_evolves (s : State) : s.Evolves s.starvedSync :=
  .foldl (fun s _ => (State.Brings.refl s).ite (s.clearCondition_evolves _)) _ s

/-- What the completion does after the conditions have taken their truth. -/
theorem State.followers_evolve (s0 s : State) :
    s.Evolves (State.arbitrate s0 s.resolverFollow.passes).passes.starvedSync.compose :=
  have resolved : s.Evolves s.resolverFollow := .of_same rfl rfl rfl
  ((((resolved.trans (State.passes_evolves _)).trans (State.arbitrate_evolves s0 _)).trans (State.passes_evolves _)).trans
    (State.starvedSync_evolves _)).trans (State.compose_evolves _)

theorem State.ConditionsFollow.evolves {u : State} (h : u.ConditionsFollow) (mains : u.OnMains) (s0 : State) :
    u.Evolves (State.settle s0 u) := by
  rw [h.settle_eq mains s0]
  exact State.followers_evolve s0 u

end Sys2Proof.Machine
end

section
/-! SUPPORT. What the raises bring to the record of a dig motion and to the walk record (06 R101, R102, 07 R127, R128, 08 R138,
R139), and the two records through a whole completion: first the raises, then the followers. -/

namespace Sys2Proof.Machine

/-- One class effect on the records: a trip, which every record takes, a stop of a dig motion or of the walk, a halt. -/
inductive Raising (i : Inputs) (m : Dig) : MotionRec × WalkRec → MotionRec × WalkRec → Prop
  | trip (r : MotionRec) (w : WalkRec) (k : Constants) (c : Cause) : Raising i m (r, w) (r.tripped k c, w.tripped k c)
  | stopDig (r : MotionRec) (w : WalkRec) (c : Cause) : Raising i m (r, w) (r.stoppedBy c, w)
  | stopWalk (r : MotionRec) (w : WalkRec) (k : Constants) (c : Cause) : Raising i m (r, w) (r, w.stoppedBy k c)
  | halt (r : MotionRec) (w : WalkRec) (k : Constants) (tub : Bool) : Raising i m (r, w) (r, w.halted k tub)

/-- What raises bring. -/
abbrev State.Raises (s t : State) : Prop := State.Brings Raising s t

theorem State.clearCondition_raises (s : State) (key : AlarmKey) : s.Raises (s.clearCondition key) :=
  State.Brings.ite (.of_same rfl rfl rfl) (.refl s)

theorem State.tripBegins_get (s : State) (c : Cause) (m : Dig) :
    (s.tripBegins c).motions.get m = (s.motions.get m).tripped s.k c := PerDig.get_map _ _ m

theorem State.stopBegins_get (s : State) (c : Cause) (starts : Motion → Bool) (m : Dig) :
    (s.stopBegins c starts).motions.get m = s.stopDig m c starts := by
  cases m <;> rfl

theorem State.tripBegins_raises (s : State) (c : Cause) : s.Raises (s.tripBegins c) := ⟨rfl, fun m => by
  rw [State.tripBegins_get]
  exact .single (.trip _ _ _ _)⟩

theorem State.stopBegins_raises (s : State) (c : Cause) (starts : Motion → Bool) : s.Raises (s.stopBegins c starts) := by
  refine ⟨rfl, fun m => ?_⟩
  rw [State.stopBegins_get]
  have dig : Relation.ReflTransGen (Raising s.inputs m) (s.motions.get m, s.walk) (s.stopDig m c starts, s.walk) := by
    unfold State.stopDig
    split
    exacts [.single (.stopDig _ _ _), .refl]
  refine dig.trans ?_
  show Relation.ReflTransGen (Raising s.inputs m) (s.stopDig m c starts, s.walk)
    (s.stopDig m c starts, if starts .walk then s.walk.stoppedBy s.k c else s.walk)
  split
  exacts [.single (.stopWalk _ _ _ _), .refl]

theorem State.haltWalk_raises (s : State) : s.Raises s.haltWalk := ⟨rfl, fun _ => .single (.halt _ _ _ _)⟩

theorem State.conditionActs_raises (s : State) (b : Alarms) (key : AlarmKey) : s.Raises (s.conditionActs b key) := by
  unfold State.conditionActs
  dsimp only
  split
  · exact (State.Brings.refl s).ite (s.tripBegins_raises _)
  · exact (s.stopBegins_raises _ _).trans ((State.haltWalk_raises _).ite (.refl _))
  · exact .refl s
  · exact .refl s

theorem State.eventActs_raises (s : State) (key : AlarmKey) (cls : AlarmClass) : s.Raises (s.eventActs key cls) := by
  cases cls
  exacts [s.tripBegins_raises _, s.stopBegins_raises _ _, .refl s, .refl s]

theorem State.raiseCondition_raises (s : State) (key : AlarmKey) : s.Raises (s.raiseCondition key) :=
  (State.Brings.refl s).ite (State.Brings.ite (.of_same rfl rfl rfl) ((State.conditionActs_raises _ _ key).after rfl rfl rfl))

theorem State.raiseEvent_raises (s : State) (key : AlarmKey) : s.Raises (s.raiseEvent key) :=
  State.Brings.ite (.of_same rfl rfl rfl) ((State.eventActs_raises _ key _).after rfl rfl rfl)

theorem State.setCondition_raises (s : State) (key : AlarmKey) (truth : Bool) : s.Raises (s.setCondition key truth) :=
  (s.raiseCondition_raises key).ite (s.clearCondition_raises key)

theorem State.gensReport_raises (s : State) : s.Raises s.gensReport :=
  ((State.Brings.foldl (fun s _ => s.setCondition_raises _ _) gensAll s).trans
    (.foldl (fun s _ => s.setCondition_raises _ _) gensAll _)).trans
    (.foldl (fun s _ => s.setCondition_raises _ _) gensAll _)

theorem State.syncZones_raises (s : State) : s.Raises s.syncZones := by
  unfold State.syncZones
  exact (State.Brings.foldl (fun s _ => s.setCondition_raises _ _) slotsAll s).trans (State.setCondition_raises _ _ _)

theorem State.syncConditions_raises (s : State) : s.Raises s.syncConditions := by
  have channels : s.Raises s.syncChannels :=
    ((State.Brings.foldl (fun s _ => (State.Brings.refl s).ite (s.clearCondition_raises _)) Motion.all s).trans
      (.foldl (fun s _ => s.setCondition_raises _ _) Motion.all _)).trans
      (.foldl (fun s _ => s.setCondition_raises _ _) Motion.all _)
  exact (channels.trans ((State.Brings.refl _).ite (State.gensReport_raises _))).trans (State.syncZones_raises _)

/-! ### A whole completion on mains -/

section Settle

variable {u : State}

/-- A predicate on the two records that raises and followers keep holds after the completion. -/
theorem State.settle_pair (mains : u.OnMains) (s0 : State) (m : Dig) {P : MotionRec × WalkRec → Prop}
    (raised : ∀ x y, P x → Raising u.inputs m x y → P y) (kept : ∀ x y, P x → Following u.inputs m x y → P y)
    (start : P (u.motions.get m, u.walk)) :
    P ((State.settle s0 u).motions.get m, (State.settle s0 u).walk) := by
  rw [State.settle_onMains s0 mains]
  have raises := u.syncConditions_raises
  refine (State.followers_evolve s0 u.syncConditions).pair m (fun x y held change => ?_) (raises.pair m raised start)
  rw [raises.inputs] at change
  exact kept x y held change

/-- A predicate on the record of a dig motion through the completion. -/
theorem State.settle_motion (mains : u.OnMains) (s0 : State) (m : Dig) {P : MotionRec → Prop}
    (tripped : ∀ r k c, P r → P (r.tripped k c)) (stopped : ∀ r c, P r → P (r.stoppedBy c))
    (kept : ∀ r r', P r → r.Follow (u.showsReleased m.motion) r' → P r') (unlocked : ∀ r, P r → P r.unlocked)
    (start : P (u.motions.get m)) : P ((State.settle s0 u).motions.get m) := by
  refine State.settle_pair mains s0 m (P := fun x => P x.1) (fun x y held change => ?_) (fun x y held change => ?_) start
  · cases change with
    | trip r w k c => exact tripped r k c held
    | stopDig r w c => exact stopped r c held
    | stopWalk | halt => exact held
  · cases change with
    | motion w change => exact kept _ _ held change
    | walk => exact held
    | finish => exact unlocked _ held

/-- A predicate on the walk record through the completion. -/
theorem State.settle_walk (mains : u.OnMains) (s0 : State) {P : WalkRec → Prop}
    (tripped : ∀ w k c, P w → P (w.tripped k c)) (stopped : ∀ w k c, P w → P (w.stoppedBy k c))
    (halted : ∀ w k tub, P w → P (w.halted k tub)) (kept : ∀ w w', P w → w.Follow (u.showsReleased .walk) w' → P w')
    (finished : ∀ w o, P w → w.ending = some o → w.brake.state = .set → P (w.finished o)) (start : P u.walk) :
    P (State.settle s0 u).walk := by
  refine State.settle_pair mains s0 .hoist (P := fun x => P x.2) (fun x y held change => ?_)
    (fun x y held change => ?_) start
  · cases change with
    | trip r w k c => exact tripped w k c held
    | stopDig => exact held
    | stopWalk r w k c => exact stopped w k c held
    | halt r w k tub => exact halted w k tub held
  · cases change with
    | motion => exact held
    | walk r change => exact kept _ _ held change
    | finish r w o ending set => exact finished w o held ending set

end Settle

end Sys2Proof.Machine
end

section
/-! SUPPORT. The dig motion records as every change leaves them (06 R86, R96, R100, R103) and the permits off mains (09 R155): the
raises, the followers and the completion of a change. -/

namespace Sys2Proof.Machine

/-! ### One record -/

/-- A change of a dig motion record that keeps its law and asserts no permit. -/
structure MotionRec.Moved (r r' : MotionRec) : Prop where
  lawful : r.Lawful → r'.Lawful
  permit : r.permit = none → r'.permit = none

theorem MotionRec.Moved.refl (r : MotionRec) : r.Moved r := ⟨id, id⟩

theorem MotionRec.Moved.ite {r a b : MotionRec} {p : Prop} [Decidable p] (ha : r.Moved a) (hb : r.Moved b) :
    r.Moved (if p then a else b) := by
  split
  exacts [ha, hb]

/-- The brake, the hold's timer and reversal pending have no part in the law. -/
theorem MotionRec.Moved.of_same {r r' : MotionRec} (state : r'.state = r.state) (demand : r'.demand = r.demand)
    (permit : r'.permit = r.permit) (holdReason : r'.holdReason = r.holdReason) (tripCause : r'.tripCause = r.tripCause)
    (holdStart : r'.holdStart = r.holdStart) : r.Moved r' := by
  refine ⟨fun h => ?_, permit.trans⟩
  unfold MotionRec.Lawful
  rw [state, demand, permit, holdReason, tripCause, holdStart]
  exact h

theorem MotionRec.Lawful.of_rest {r : MotionRec} (rests : r.state = .idle ∨ r.state = .locked ∨ r.state = .releasing)
    (demand : r.demand = none) (permit : r.permit = none) (holdReason : r.holdReason = none)
    (holdStart : r.holdStart.isSome = true → r.state = .releasing) (tripCause : r.tripCause = none) : r.Lawful := by
  unfold MotionRec.Lawful
  rw [demand, permit, holdReason, tripCause]
  refine ⟨fun _ _ => ⟨rfl, rfl, rfl⟩, ?_, holdStart, ?_⟩ <;> rcases rests with e | e | e <;> rw [e] <;> decide

theorem MotionRec.Lawful.of_waiting {r : MotionRec} (waits : r.state = .acquiring ∨ r.state = .ready)
    (demand : r.demand.isSome = true) (holdStart : r.holdStart = none) (tripCause : r.tripCause = none) : r.Lawful := by
  unfold MotionRec.Lawful
  rw [holdStart, tripCause]
  refine ⟨fun acquiring ready => (waits.elim acquiring ready).elim, fun _ => demand, nofun, ?_⟩
  rcases waits with e | e <;> rw [e] <;> decide

theorem MotionRec.Lawful.of_trip {r : MotionRec} (tripped : r.state = .tripped) (demand : r.demand = none)
    (permit : r.permit = none) (holdReason : r.holdReason = none) (holdStart : r.holdStart = none)
    (tripCause : r.tripCause.isSome = true) : r.Lawful := by
  unfold MotionRec.Lawful
  rw [demand, permit, holdReason, holdStart, tripCause, tripped]
  decide

/-- A lawful motion outside ACQUIRING and READY has no demand. -/
theorem MotionRec.Lawful.rests {r : MotionRec} (h : r.Lawful) (notAcquiring : r.state ≠ .acquiring) (notReady : r.state ≠ .ready) :
    r.demand = none ∧ r.permit = none ∧ r.holdReason = none := h.1 notAcquiring notReady

theorem MotionRec.Lawful.holdStart {r : MotionRec} (h : r.Lawful) (notReleasing : r.state ≠ .releasing) : r.holdStart = none :=
  Option.not_isSome_iff_eq_none.1 fun begun => notReleasing (h.2.2.1 begun)

theorem MotionRec.Lawful.tripCause {r : MotionRec} (h : r.Lawful) (untripped : r.state ≠ .tripped) : r.tripCause = none :=
  Option.not_isSome_iff_eq_none.1 fun caused => untripped (h.2.2.2.1 caused)

theorem causeAfterTrip_isSome (old : Option Cause) (c : Cause) : (causeAfterTrip old c).isSome = true := by
  unfold causeAfterTrip
  split
  · split <;> rfl
  · rfl

theorem MotionRec.tripped_moved (r : MotionRec) (k : Constants) (c : Cause) : r.Moved (r.tripped k c) := by
  refine ⟨fun _ => .of_trip rfl rfl rfl rfl rfl ?_, fun _ => rfl⟩
  unfold MotionRec.tripped
  dsimp only
  split
  exacts [causeAfterTrip_isSome _ _, rfl]

theorem MotionRec.stoppedBy_moved (r : MotionRec) (c : Cause) : r.Moved (r.stoppedBy c) :=
  (MotionRec.Moved.refl r).ite ⟨fun _ => .of_trip rfl rfl rfl rfl rfl rfl, fun _ => rfl⟩

theorem MotionRec.unlocked_moved (r : MotionRec) : r.Moved r.unlocked := by
  unfold MotionRec.unlocked
  split
  · next locked =>
    have (h : r.Lawful) : ({ r with state := .idle } : MotionRec).Lawful := by
      obtain ⟨demand, permit, holdReason⟩ := h.rests (by rw [locked]; decide) (by rw [locked]; decide)
      have holdStart : r.holdStart = none := h.holdStart (by rw [locked]; decide)
      exact .of_rest (.inl rfl) demand permit holdReason (by rw [holdStart]; nofun)
        (h.tripCause (by rw [locked]; decide))
    exact ⟨this, id⟩
  · exact .refl r

theorem MotionState.byLease_resting {st : MotionState} (notAcquiring : st ≠ .acquiring) (notReady : st ≠ .ready)
    (leased : Bool) : st.byLease leased = st := if_neg (not_or.2 ⟨notAcquiring, notReady⟩)

/-- What ends with the motion idle ends a hold, or finds the motion RELEASING (R100). -/
theorem MotionRec.Lawful.idled {r : MotionRec} (h : r.Lawful) (ends : r.state = .releasing ∨ r.holdStart.isSome = true) :
    r.idled.Lawful := by
  have releasing : r.state = .releasing := ends.elim id h.2.2.1
  obtain ⟨demand, permit, holdReason⟩ := h.rests (by rw [releasing]; decide) (by rw [releasing]; decide)
  exact .of_rest (.inl rfl) demand permit holdReason nofun (h.tripCause (by rw [releasing]; decide))

/-- What follows a lawful record leaves it lawful. -/
theorem MotionRec.Follow.lawful {shows : Bool} {r r' : MotionRec} (change : r.Follow shows r') (h : r.Lawful) : r'.Lawful := by
  cases change with
  | reversal | brake | provenSet | provenReleased | lifted => exact h
  | lease leased =>
    by_cases waits : r.state = .acquiring ∨ r.state = .ready
    · have after : r.state.byLease leased = .acquiring ∨ r.state.byLease leased = .ready := by
        rw [MotionState.byLease_waiting waits]
        cases leased
        exacts [.inl rfl, .inr rfl]
      have settled : r.state ≠ .releasing ∧ r.state ≠ .tripped := by rcases waits with e | e <;> rw [e] <;> decide
      exact .of_waiting after (h.2.1 waits) (h.holdStart settled.1) (h.tripCause settled.2)
    · rw [not_or] at waits
      rw [MotionState.byLease_resting waits.1 waits.2]
      exact h
  | holdBegins since left releasing =>
    obtain ⟨demand, permit, holdReason⟩ := h.rests (by rw [releasing]; decide) (by rw [releasing]; decide)
    exact .of_rest (.inr (.inr releasing)) demand permit holdReason (fun _ => releasing)
      (h.tripCause (by rw [releasing]; decide))
  | idled ends => exact h.idled ends
  | composed p q permits holds =>
    refine ⟨fun notAcquiring notReady => ⟨(h.rests notAcquiring notReady).1, ?_, ?_⟩, h.2⟩
    · exact Option.not_isSome_iff_eq_none.1 fun some => notReady (permits some).1
    · exact Option.not_isSome_iff_eq_none.1 fun some => (holds some).elim notAcquiring notReady

theorem State.MotionsLawful.settle {u : State} (h : u.MotionsLawful) (mains : u.OnMains) (s0 : State) :
    (State.settle s0 u).MotionsLawful := fun m =>
  State.settle_motion mains s0 m (fun r k c => (r.tripped_moved k c).lawful) (fun r c => (r.stoppedBy_moved c).lawful)
    (fun _ _ lawful change => change.lawful lawful) (fun r => r.unlocked_moved.lawful) (h m)

/-! ### What a change keeps -/

/-- A change keeps the law of the dig motion records, and asserts no permit that stands off mains. -/
structure State.KeepsRecords (s t : State) : Prop where
  lawful : s.MotionsLawful → t.MotionsLawful
  off : s.NoPermitOffMains → t.NoPermitOffMains

theorem State.NoPermitOffMains.of_mains {s : State} (mains : s.OnMains) : s.NoPermitOffMains := fun off => absurd mains off

section KeepsRecords

variable {s t u : State}

theorem State.KeepsRecords.refl (s : State) : s.KeepsRecords s := ⟨id, id⟩

theorem State.KeepsRecords.trans (h : s.KeepsRecords t) (g : t.KeepsRecords u) : s.KeepsRecords u :=
  ⟨g.lawful ∘ h.lawful, g.off ∘ h.off⟩

theorem State.KeepsRecords.ite {p : Prop} [Decidable p] (ht : s.KeepsRecords t) (hu : s.KeepsRecords u) :
    s.KeepsRecords (if p then t else u) := by
  split
  exacts [ht, hu]

theorem State.KeepsRecords.foldl {α : Type} {f : State → α → State} (h : ∀ (s : State) (a : α), s.KeepsRecords (f s a))
    (l : List α) (s : State) : s.KeepsRecords (l.foldl f s) := by
  induction l generalizing s with
  | nil => exact .refl s
  | cons a l ih => exact (h s a).trans (ih (f s a))

/-- A change that moves every record as `MotionRec.Moved` has it, asserts no walk permit and leaves the mains where they are. -/
theorem State.KeepsRecords.of_records (motion : ∀ m, (s.motions.get m).Moved (t.motions.get m))
    (walk : s.walk.permit = none → t.walk.permit = none) (mains : s.OnMains → t.OnMains) : s.KeepsRecords t :=
  ⟨fun h m => (motion m).lawful (h m), fun h offMains =>
    have ⟨digs, walks⟩ := h fun on => offMains (mains on)
    ⟨fun m => (motion m).permit (digs m), walk walks⟩⟩

theorem State.KeepsRecords.of_same (motions : t.motions = s.motions) (walk : t.walk.permit = s.walk.permit)
    (mains : s.OnMains → t.OnMains) : s.KeepsRecords t :=
  .of_records (fun m => by rw [motions]; exact .refl _) walk.trans mains

/-- What other records changed before does not matter. -/
theorem State.KeepsRecords.after (h : t.KeepsRecords u) (motions : t.motions = s.motions)
    (walk : t.walk.permit = s.walk.permit) (mains : s.OnMains → t.OnMains) : s.KeepsRecords u :=
  (State.KeepsRecords.of_same motions walk mains).trans h

theorem State.onMotion_records {m : Dig} {f : MotionRec → MotionRec} (h : (s.motions.get m).Moved (f (s.motions.get m))) :
    s.KeepsRecords (s.onMotion m f) := by
  refine .of_records (fun n => ?_) id id
  rw [State.onMotion_get]
  split
  · next same =>
    cases same
    exact h
  · exact .refl _

theorem State.onMotions_records {f : MotionRec → MotionRec} (h : ∀ m, (s.motions.get m).Moved (f (s.motions.get m))) :
    s.KeepsRecords (s.onMotions f) := by
  refine .of_records (fun m => ?_) id id
  rw [show (s.onMotions f).motions.get m = f (s.motions.get m) from PerDig.get_map f _ m]
  exact h m

theorem State.onWalk_records {f : WalkRec → WalkRec} (h : s.walk.permit = none → (f s.walk).permit = none) :
    s.KeepsRecords (s.onWalk f) := .of_records (fun _ => .refl _) h id

theorem State.onBrake_records (s : State) (m : Motion) (f : Brake → Brake) : s.KeepsRecords (s.onBrake m f) := by
  unfold State.onBrake
  split
  · exact State.onMotion_records (.of_same rfl rfl rfl rfl rfl rfl)
  · exact State.onWalk_records id

end KeepsRecords

/-! #### Raises and clears -/

theorem WalkRec.stoppedBy_permit {w : WalkRec} (h : w.permit = none) (k : Constants) (c : Cause) :
    (w.stoppedBy k c).permit = none := by
  unfold WalkRec.stoppedBy
  split
  · exact h
  · split
    exacts [rfl, rfl, h, h]

theorem WalkRec.tripped_permit {w : WalkRec} (h : w.permit = none) (k : Constants) (c : Cause) :
    (w.tripped k c).permit = none := by
  unfold WalkRec.tripped
  split
  exacts [h, WalkRec.stoppedBy_permit h k c]

theorem WalkRec.halted_permit {w : WalkRec} (h : w.permit = none) (k : Constants) (tub : Bool) :
    (w.halted k tub).permit = none := by
  unfold WalkRec.halted
  split
  · exact h
  · split
    · exact h
    · rfl
    · split
      exacts [rfl, h]
    · exact h

/-- What raises bring keeps the records lawful and asserts no permit. -/
theorem State.Brings.keepsRecords {s t : State} (h : s.Raises t) (mains : s.OnMains → t.OnMains) : s.KeepsRecords t := by
  have moved (m : Dig) : (s.motions.get m).Moved (t.motions.get m) := by
    refine h.pair m (P := fun x => (s.motions.get m).Moved x.1) (fun x y held change => ?_) (.refl _)
    have next (r' : MotionRec) (g : x.1.Moved r') : (s.motions.get m).Moved r' :=
      ⟨g.lawful ∘ held.lawful, g.permit ∘ held.permit⟩
    cases change with
    | trip r w k c => exact next _ (r.tripped_moved k c)
    | stopDig r w c => exact next _ (r.stoppedBy_moved c)
    | stopWalk | halt => exact held
  refine .of_records moved (fun start => ?_) mains
  refine h.pair .hoist (P := fun x => x.2.permit = none) (fun x y held change => ?_) start
  cases change with
  | trip r w k c => exact WalkRec.tripped_permit held k c
  | stopDig => exact held
  | stopWalk r w k c => exact WalkRec.stoppedBy_permit held k c
  | halt r w k tub => exact WalkRec.halted_permit held k tub

theorem State.SameRecords.mains {s t : State} (h : s.SameRecords t) (mains : s.OnMains) : t.OnMains := h.butPorts.onMains mains

theorem State.clearCondition_records (s : State) (key : AlarmKey) : s.KeepsRecords (s.clearCondition key) :=
  State.KeepsRecords.ite (.of_same rfl rfl id) (.refl s)

theorem State.raiseCondition_records (s : State) (key : AlarmKey) : s.KeepsRecords (s.raiseCondition key) :=
  (s.raiseCondition_raises key).keepsRecords (s.raiseCondition_same key).mains

theorem State.setCondition_records (s : State) (key : AlarmKey) (truth : Bool) : s.KeepsRecords (s.setCondition key truth) :=
  (s.setCondition_raises key truth).keepsRecords (s.setCondition_same key truth).mains

theorem State.raiseEvent_records (s : State) (key : AlarmKey) : s.KeepsRecords (s.raiseEvent key) :=
  (s.raiseEvent_raises key).keepsRecords (s.raiseEvent_same key).mains

theorem State.gensReport_records (s : State) : s.KeepsRecords s.gensReport :=
  s.gensReport_raises.keepsRecords s.gensReport_same.mains

theorem State.syncZones_records (s : State) : s.KeepsRecords s.syncZones := s.syncZones_raises.keepsRecords s.syncZones_same.mains

theorem State.syncConditions_records (s : State) : s.KeepsRecords s.syncConditions :=
  s.syncConditions_raises.keepsRecords s.syncConditions_same.mains

/-! #### The walk's pass, which a CANCEL takes as its own (R130) -/

theorem State.walkFinish_records (s : State) (o : WalkOutcome) : s.KeepsRecords (s.walkFinish o) := by
  have finished : s.KeepsRecords ((s.returnAll .walk).onWalk fun w => w.finished o) := .of_records (fun _ => .refl _) (fun _ => rfl) id
  exact finished.trans (State.onMotions_records fun _ => MotionRec.unlocked_moved _)

theorem State.walkReleased_records (s : State) : s.KeepsRecords s.walkReleased := by
  refine State.onWalk_records fun h => ?_
  dsimp only
  split
  · exact h
  · split
    exacts [h, h]
  · exact h
  · exact h

theorem State.walkProofPass_records (s : State) : s.KeepsRecords s.walkProofPass := by
  unfold State.walkProofPass
  split
  · exact (State.KeepsRecords.refl s).ite ((State.onWalk_records id).trans (State.clearCondition_records _ _))
  · exact s.walkReleased_records.ite (.refl s)
  · exact .refl s
  · exact .refl s

theorem State.walkRestPass_records (s : State) : s.KeepsRecords s.walkRestPass := by
  have returned : s.KeepsRecords (s.returnAll .walk) := .of_same rfl rfl id
  unfold State.walkRestPass
  dsimp only
  refine State.KeepsRecords.ite ?_ (.refl s)
  split
  · exact s.walkFinish_records _
  · refine returned.ite (State.KeepsRecords.ite ?_ ((State.onWalk_records id).ite (.refl s)))
    split
    exacts [.refl s, State.onWalk_records id]

theorem State.walkPass_records (s : State) : s.KeepsRecords s.walkPass :=
  ((State.onWalk_records id).trans (State.walkProofPass_records _)).trans (State.walkRestPass_records _)

/-! #### The end of a change -/

theorem State.settle_records (s0 s : State) : s.KeepsRecords (State.settle s0 s) := by
  by_cases mains : s.OnMains
  · have stays : (State.settle s0 s).OnMains := (State.settle_same s0 s).mains mains
    exact ⟨fun h => h.settle mains s0, fun _ => .of_mains stays⟩
  · have resolved (t : State) : t.KeepsRecords t.resolverFollow := .of_same rfl rfl id
    have followed : s.KeepsRecords s.settleInHoldup := s.syncConditions_records.trans (resolved _)
    unfold State.settle
    split
    · next running =>
      split
      · exact followed
      · next supplied =>
        have run : s.supply.state = .run := by
          cases e : s.supply.state with
          | run => rfl
          | holdup => exact absurd (decide_eq_true e) supplied
        exact absurd ⟨running, run⟩ mains
    · exact .refl s
    · exact .refl s

end Sys2Proof.Machine
end

section
/-! SUPPORT. The dig motion records and the permits off mains through every command (06 R86, R96, R100, R103, 09 R155): the own
effect of each command, and the completion of the change. -/

namespace Sys2Proof.Machine

/-! ### The own effect of each command -/

/-! #### Zone table and resolver -/

theorem State.lookDropped_records (s : State) : s.KeepsRecords s.lookDropped := by
  unfold State.lookDropped
  split
  exacts [.refl s, .of_same rfl rfl id]

theorem State.checkHeld_records (s : State) (i : Fin 40) : s.KeepsRecords (s.checkHeld i) := by
  unfold State.checkHeld
  split
  · exact .refl s
  · exact ((State.raiseEvent_records _ _).trans (State.lookDropped_records _)).after rfl rfl id
  · exact ((State.setCondition_records _ _ _).trans (State.setCondition_records _ _ _)).after rfl rfl id

theorem State.checkBody_records (s : State) (i : Fin 40) : s.KeepsRecords (s.checkBody i) := by
  unfold State.checkBody
  split
  exacts [.of_same rfl rfl id, .refl s, s.checkHeld_records i, s.checkHeld_records i]

theorem State.checkAll_records (s : State) : s.KeepsRecords s.checkAll := .foldl State.checkBody_records _ s

theorem State.bodiesFault_records (s : State) (faults : List StorageFault) : s.KeepsRecords (s.bodiesFault faults) := by
  have slot (t : State) (i : Fin 40) (f : ZoneSlot → ZoneSlot) : t.KeepsRecords (t.onSlot i f) := .of_same rfl rfl id
  exact .foldl (fun t _ => slot t _ _) faults s

theorem State.resolutionEnds_records (s : State) : s.KeepsRecords s.resolutionEnds := by
  have compared (t : State) (f : InFlight) : t.KeepsRecords (t.compareEpoch f) := .of_same rfl rfl id
  unfold State.resolutionEnds
  split
  exacts [.refl s, s.checkAll_records.trans (compared _ _)]

theorem State.markSites_records (s : State) : s.KeepsRecords s.markSites := by
  have marked : s.KeepsRecords s.markStale :=
    State.KeepsRecords.ite ((State.setCondition_records _ _ _).after rfl rfl id) (.refl s)
  exact marked.trans (State.onWalk_records id)

/-! #### Generators and brakes -/

theorem MotionRec.holdPutOff_moved (r : MotionRec) : r.Moved r.holdPutOff :=
  ⟨fun ⟨rests, waits, _, caused⟩ => ⟨rests, waits, nofun, caused⟩, id⟩

theorem State.putOff_records (s : State) (m : Motion) : s.KeepsRecords (s.putOff m) := by
  unfold State.putOff
  split
  exacts [State.onMotion_records (MotionRec.holdPutOff_moved _), State.onWalk_records id]

theorem State.inRun_records (s : State) {f : State → State} (hf : s.KeepsRecords (f s)) : s.KeepsRecords (s.inRun f) :=
  (State.KeepsRecords.refl s).ite hf

theorem State.genTakes_records (s : State) (g : Fin 12) (f : Gen → GenResult) : s.KeepsRecords (s.genTakes g f) :=
  State.KeepsRecords.ite ((State.raiseEvent_records _ _).after rfl rfl id) (.of_same rfl rfl id)

theorem State.endHold_records {s : State} {m : Dig}
    (ends : (s.motions.get m).state = .releasing ∨ (s.motions.get m).holdStart.isSome = true) :
    s.KeepsRecords (s.endHold m) := by
  have idled : (s.returnAll m.motion).KeepsRecords (s.endHold m) := State.onMotion_records ⟨fun h => h.idled ends, id⟩
  exact idled.after rfl rfl id

theorem State.holdExpires_records (s : State) (m : Dig) : s.KeepsRecords (s.holdExpires m) := by
  unfold State.holdExpires
  split
  · next expires => exact State.endHold_records (.inl expires.1)
  · exact .refl s

theorem State.brakeShowsReleased_records (s : State) (m : Motion) : s.KeepsRecords (s.brakeShowsReleased m) :=
  s.inRun_records (((s.onBrake_records m _).trans (State.raiseCondition_records _ _)).ite (.refl s))

theorem State.brakeShowsSet_records (s : State) (m : Motion) : s.KeepsRecords (s.brakeShowsSet m) :=
  s.inRun_records (((s.onBrake_records m _).trans (State.raiseEvent_records _ _)).ite (.refl s))

theorem State.releaseProofComes_records (s : State) (m : Motion) : s.KeepsRecords (s.releaseProofComes m) :=
  s.inRun_records (((s.onBrake_records m _).trans (State.putOff_records _ m)).ite (s.brakeShowsReleased_records m))

theorem State.releaseTimeEnds_records (s : State) (m : Motion) : s.KeepsRecords (s.releaseTimeEnds m) :=
  ((s.onBrake_records m _).trans (State.raiseEvent_records _ _)).ite (.refl s)

theorem State.setTimeEnds_records (s : State) (m : Motion) : s.KeepsRecords (s.setTimeEnds m) :=
  (((s.onBrake_records m _).trans (State.onBrake_records _ m _)).trans (State.raiseCondition_records _ _)).ite
    (s.onBrake_records m _)

/-! #### Walk timers, count channels and the tub bearing -/

theorem State.prepareTimesOut_records (s : State) : s.KeepsRecords s.prepareTimesOut :=
  State.KeepsRecords.ite ((State.onWalk_records fun _ => rfl).trans (State.raiseEvent_records _ _)) (.refl s)

theorem State.phaseTimesOut_records (s : State) : s.KeepsRecords s.phaseTimesOut := by
  unfold State.phaseTimesOut
  split
  exacts [(s.raiseEvent_records _).ite (.refl s), .refl s]

theorem WalkRec.dwellEnded_permit {w : WalkRec} (h : w.permit = none) (k : Constants) : (w.dwellEnded k).permit = none := by
  unfold WalkRec.dwellEnded
  split
  · rfl
  · split
    exacts [rfl, h]

theorem State.dwellEnds_records (s : State) : s.KeepsRecords s.dwellEnds :=
  State.KeepsRecords.ite (State.onWalk_records fun h => WalkRec.dwellEnded_permit h s.k) (.refl s)

theorem WalkRec.phased_permit (w : WalkRec) (k : Constants) (p : Phase) : (w.phased k p).permit = w.permit := by
  unfold WalkRec.phased
  split <;> rfl

theorem State.walkPhaseFollows_records (s : State) : s.KeepsRecords s.walkPhaseFollows := by
  have phased : s.KeepsRecords (s.onWalk fun w => w.phased s.k (phaseOf s.k s.stride)) :=
    State.onWalk_records (WalkRec.phased_permit _ _ _).trans
  unfold State.walkPhaseFollows
  dsimp only
  exact State.KeepsRecords.ite ((phased.trans (State.raiseEvent_records _ _)).ite phased) (.refl s)

theorem State.count?_records (s : State) (c : Motion) (d : Option Dir) : s.KeepsRecords (s.count? c d) := by
  have counted (c : Motion) (d : Dir) : s.KeepsRecords (s.countChan c d) := by
    cases c <;> exact .of_same rfl rfl id
  cases d with
  | none => exact .refl s
  | some d =>
    exact State.KeepsRecords.ite ((counted .walk d).trans ((State.KeepsRecords.refl _).ite (State.walkPhaseFollows_records _)))
      (counted c d)

theorem State.windowEnd_records (s : State) (c : Motion) : s.KeepsRecords (s.windowEnd c) := by
  have ended (t : State) : t.KeepsRecords (t.unreferencedEnds c) := (State.KeepsRecords.refl t).ite (t.clearCondition_records _)
  exact ((ended _).trans (State.setCondition_records _ _ _)).after rfl rfl id

theorem State.referenceEdge_records (s : State) (c : Motion) : s.KeepsRecords (s.referenceEdge c) :=
  State.KeepsRecords.ite (.of_same rfl rfl id) (.of_same rfl rfl id)

theorem State.switchMade_records (s : State) (c : Dig) : s.KeepsRecords (s.switchMade c) := by
  unfold State.switchMade
  split
  · split
    exacts [s.referenceEdge_records _, .of_same rfl rfl id]
  · exact .refl s

theorem State.encoderIndex_records (s : State) (c : Dig) : s.KeepsRecords (s.encoderIndex c) :=
  State.KeepsRecords.ite ((s.referenceEdge_records _).trans (.of_same rfl rfl id)) (.refl s)

theorem State.camIndex_records (s : State) : s.KeepsRecords s.camCounted.walkAtIndex := by
  have counted : s.KeepsRecords s.camCounted := (s.referenceEdge_records .walk).trans (.of_same rfl rfl id)
  refine counted.trans ?_
  have steps : s.camCounted.KeepsRecords (s.camCounted.onWalk fun w => { w with stepsDone := s.camCounted.stepsDoneNow }) :=
    State.onWalk_records id
  unfold State.walkAtIndex
  dsimp only
  exact (State.KeepsRecords.refl _).ite (State.KeepsRecords.ite
    (State.KeepsRecords.ite (steps.trans (State.onWalk_records fun _ => rfl)) (steps.trans (State.walkPhaseFollows_records _)))
    steps)

theorem State.tubLiftsOff_records (s : State) : s.KeepsRecords s.tubLiftsOff := by
  have walks (t : State) : t.KeepsRecords t.walkLiftsOff := by
    unfold State.walkLiftsOff
    dsimp only
    exact (State.KeepsRecords.refl t).ite
      (((State.onWalk_records id).trans (State.markSites_records _)).ite (State.onWalk_records id))
  exact (walks _).after rfl rfl id

theorem State.tubSetsDown_records (s : State) : s.KeepsRecords s.tubSetsDown := by
  have walks (t : State) : t.KeepsRecords t.walkSetsDown := (State.KeepsRecords.refl t).ite (State.onWalk_records id)
  exact (walks _).after rfl rfl id

/-! #### Supply, the settings store and the cold start -/

theorem MotionRec.atEntry_moved (r : MotionRec) (c : Cause) : r.Moved (r.atEntry c) := by
  refine ⟨fun h => .of_trip rfl rfl rfl rfl rfl ?_, fun _ => rfl⟩
  unfold MotionRec.atEntry
  dsimp only
  split
  · next tripped => exact h.2.2.2.2 tripped
  · rfl

theorem WalkRec.atEntry_permit (w : WalkRec) (c : Cause) : (w.atEntry c).permit = none := by
  unfold WalkRec.atEntry
  dsimp only
  split
  · rfl
  · split <;> rfl

/-- Holdup entry leaves no permit (R155). -/
theorem State.recordsAtEntry_records (s : State) : s.KeepsRecords s.recordsAtEntry := by
  have entered (m : Dig) : s.recordsAtEntry.motions.get m = (s.motions.get m).atEntry supplyLost := PerDig.get_map _ _ m
  refine ⟨fun h m => ?_, fun _ _ => ⟨fun m => ?_, WalkRec.atEntry_permit _ _⟩⟩
  · rw [entered]
    exact (MotionRec.atEntry_moved _ _).lawful (h m)
  · rw [entered]
    rfl

theorem State.holdupEntry_records (s : State) : s.KeepsRecords s.holdupEntry :=
  (s.recordsAtEntry_records.trans (State.raiseCondition_records _ _)).trans
    (.foldl (fun s _ => s.clearCondition_records _) _ _)

theorem State.brakeReturns_records (s : State) (m : Motion) : s.KeepsRecords (s.brakeReturns m) := by
  unfold State.brakeReturns
  split
  · exact (s.onBrake_records m _).ite ((s.onBrake_records m _).trans (State.clearCondition_records _ _))
  · exact ((s.onBrake_records m _).trans (State.raiseCondition_records _ _)).ite (.refl s)
  · exact .refl s
  · exact .refl s

theorem State.holdupReturn_records (s : State) : s.KeepsRecords s.holdupReturn := by
  have emptied : s.KeepsRecords { s with
      gens := s.gensAtReturn
      arb := { s.arb with list := [], countedMotion := none, count := 0 } } := .of_same rfl rfl id
  have gens : s.KeepsRecords s.gensReturn := emptied.trans (State.gensReport_records _)
  have looked (t : State) : t.KeepsRecords t.resolverReturns := .of_same rfl rfl id
  have brakes : s.KeepsRecords (Motion.all.foldl State.brakeReturns s.gensReturn.resolverReturns) :=
    (gens.trans (looked _)).trans (.foldl State.brakeReturns_records Motion.all _)
  have marked (t : State) : t.KeepsRecords t.markAtReturn := t.markSites_records.ite (.refl t)
  have quieted (t : State) : t.KeepsRecords (t.portsReturn.clearCondition ⟨3, 0⟩) :=
    (State.clearCondition_records _ _).after rfl rfl id
  have back (t : State) : t.KeepsRecords t.backInRun := .of_same rfl rfl fun mains => ⟨mains.1, rfl⟩
  exact ((brakes.trans (marked _)).trans (quieted _)).trans (back _)

theorem State.commitEnds_records (s : State) (left : Option Image) : s.KeepsRecords (s.commitEnds left) := by
  unfold State.commitEnds
  split
  exacts [.refl s, (State.setCondition_records _ _ _).after rfl rfl id]

/-- Records at rest are lawful and assert no permit, whatever stood before. -/
theorem State.KeepsRecords.of_cold (s : State) {t : State} (motion : ∀ m, ∃ b, t.motions.get m = { MotionRec.cold with brake := b })
    (walk : t.walk.permit = none) : s.KeepsRecords t := by
  refine ⟨fun _ m => ?_, fun _ _ => ⟨fun m => ?_, walk⟩⟩
  · obtain ⟨b, record⟩ := motion m
    rw [record]
    exact .of_rest (.inl rfl) rfl rfl rfl nofun rfl
  · obtain ⟨b, record⟩ := motion m
    rw [record]
    rfl

theorem State.dark_records (s : State) (power : Power) (pending : List Instr) (store : Store) (inputs : Inputs) :
    s.KeepsRecords (State.dark power pending store inputs) := .of_cold s (fun _ => ⟨_, PerDig.get_const _ _⟩) rfl

theorem State.loaded_records (s : State) : s.KeepsRecords s.loaded := by
  refine .of_cold s (fun m => ?_) rfl
  cases m <;> exact ⟨_, rfl⟩

theorem State.coldRaises_records (s : State) (found failed : Bool) : s.KeepsRecords (s.coldRaises found failed) := by
  have raised : s.KeepsRecords ((s.setCondition ⟨1, 0⟩ s.inputs.estop).raiseExhausted found) :=
    (s.setCondition_records _ _).trans ((State.raiseEvent_records _ _).ite (.refl _))
  have channels := raised.trans (.foldl (f := State.syncUnreferenced) (fun s _ => s.setCondition_records _ _) Motion.all _)
  have gens := (channels.trans (.foldl (f := State.syncWelded) (fun s _ => s.setCondition_records _ _) gensAll _)).trans
    (.foldl (f := State.syncLockedOut) (fun s _ => s.setCondition_records _ _) gensAll _)
  exact (gens.trans (State.syncZones_records _)).trans (State.setCondition_records _ _ _)

theorem State.loadEnds_records (s : State) : s.KeepsRecords s.loadEnds := by
  have mains (t : State) : t.KeepsRecords t.mainsAtStart := (State.KeepsRecords.refl t).ite t.holdupEntry_records
  exact ((s.loaded_records.trans (State.coldRaises_records _ _ _)).trans (mains _)).trans (State.settle_records _ _)

/-! #### Requests -/

theorem State.cabFrame_records (s : State) (p : Port) : s.KeepsRecords (s.cabFrame p) := by
  cases p
  · exact (State.KeepsRecords.refl s).ite ((State.clearCondition_records _ _).after rfl rfl id)
  · exact .refl s

theorem State.readTaken_records (s : State) (key : RecordKey) : s.KeepsRecords (s.readTaken key).state := by
  have checked : s.KeepsRecords (s.checkedFor key) := by
    cases key with
    | zone i => exact s.checkBody_records i
    | _ => exact .refl s
  unfold State.readTaken
  dsimp only
  split
  exacts [checked, checked]

theorem State.nextTaken_records (s : State) (start : NextKey) : s.KeepsRecords (s.nextTaken start).state := by
  unfold State.nextTaken
  split
  exacts [s.readTaken_records _, .refl s]

theorem State.giveBack_records (s : State) (m : Motion) : s.KeepsRecords (s.giveBack m) := by
  obtain ⟨x, same, -⟩ := s.giveBack_regens m
  rw [same]
  exact .of_same rfl rfl id

/-- A DEMAND with a direction that is taken finds the motion neither TRIPPED nor LOCKED (R88). -/
theorem State.demandMotion_records {s : State} {m : Dig} (d : Dir) (c : Complement)
    (untripped : (s.motions.get m).state ≠ .tripped) (unlocked : (s.motions.get m).state ≠ .locked) :
    s.KeepsRecords (s.demandMotion m d c) :=
  State.onMotion_records ⟨fun h =>
    .of_waiting (stateAfterDemand_waiting untripped unlocked _) rfl rfl (h.tripCause untripped), id⟩

theorem MotionRec.released_moved {r : MotionRec} (c : Complement) (untripped : r.state ≠ .tripped) : r.Moved (r.released c) :=
  ⟨fun h => .of_rest (.inr (.inr rfl)) rfl rfl rfl (fun _ => rfl) (h.tripCause untripped), fun _ => rfl⟩

theorem MotionRec.demandNone_moved (r : MotionRec) (c : Complement) : r.Moved (r.demandNone c) := by
  unfold MotionRec.demandNone
  split
  · next e => exact MotionRec.released_moved c (by rw [e]; decide)
  · next e => exact MotionRec.released_moved c (by rw [e]; decide)
  · exact .of_same rfl rfl rfl rfl rfl rfl
  · exact .of_same rfl rfl rfl rfl rfl rfl
  · exact .refl r
  · exact .refl r

theorem MotionRec.stopAll_moved (r : MotionRec) : r.Moved r.stopAll := by
  unfold MotionRec.stopAll
  split
  · next e => exact MotionRec.released_moved _ (by rw [e]; decide)
  · next e => exact MotionRec.released_moved _ (by rw [e]; decide)
  all_goals exact .refl r

theorem State.demandTaken_records (s : State) (x : Dig × Option Dir × Complement) :
    s.KeepsRecords (s.demandTaken x).state := by
  unfold State.demandTaken
  dsimp only
  split
  · exact .refl s
  next untripped =>
  split
  · exact .refl s
  next unlocked =>
  split
  · exact .refl s
  · obtain ⟨m, d, c⟩ := x
    cases d with
    | none =>
      have released : s.KeepsRecords (s.onMotion m fun r => r.demandNone c) :=
        State.onMotion_records (MotionRec.demandNone_moved _ c)
      exact released
    | some d => exact (State.demandMotion_records d c untripped unlocked).trans (State.giveBack_records _ _)

theorem State.tripped_of_armFails {s : State} {m : Dig} (passes : s.armFails m = none) :
    (s.motions.get m).state = .tripped := by
  unfold State.armFails at passes
  dsimp only at passes
  by_contra untripped
  rw [if_pos untripped] at passes
  cases passes

/-- A motion is armed from TRIPPED alone, where it has neither demand nor hold (R105). -/
theorem MotionRec.armed_moved {r : MotionRec} (tripped : r.state = .tripped) : r.Moved r.armed := by
  refine ⟨fun h => ?_, id⟩
  obtain ⟨demand, permit, holdReason⟩ := h.rests (by rw [tripped]; decide) (by rw [tripped]; decide)
  have holdStart : r.holdStart = none := h.holdStart (by rw [tripped]; decide)
  exact .of_rest (.inl rfl) demand permit holdReason (by unfold MotionRec.armed; rw [holdStart]; nofun) rfl

theorem State.armIf_moved (s : State) (m : Dig) : (s.motions.get m).Moved (s.armIf m (s.motions.get m)) := by
  unfold State.armIf
  split
  · next passes => exact MotionRec.armed_moved (State.tripped_of_armFails passes)
  · exact .refl _

theorem State.armTaken_records (s : State) (x : Option Dig) : s.KeepsRecords (s.armTaken x).state := by
  unfold State.armTaken
  split
  · split
    · exact .refl s
    · next passes => exact State.onMotion_records (MotionRec.armed_moved (State.tripped_of_armFails passes))
  · split
    · refine .of_records (fun m => ?_) id id
      rw [show s.armAll.done.state.motions.get m = s.armIf m (s.motions.get m) by cases m <;> rfl]
      exact s.armIf_moved m
    · exact .refl s

theorem State.haltWalk_records (s : State) : s.KeepsRecords s.haltWalk :=
  State.onWalk_records fun h => WalkRec.halted_permit h _ _

theorem State.stopAll_records (s : State) : s.KeepsRecords (s.onMotions MotionRec.stopAll).haltWalk :=
  (State.onMotions_records fun _ => MotionRec.stopAll_moved _).trans (State.haltWalk_records _)

theorem State.parkTaken_records (s : State) : s.KeepsRecords s.parkTaken.state := by
  unfold State.parkTaken
  split
  · split
    exacts [.of_same rfl rfl id, .refl s]
  · exact .refl s

theorem State.rests_of_walkFails {s : State} {o : WalkOrder} (passes : s.walkFails o = none) (m : Dig) :
    (s.motions.get m).state = .idle ∨ (s.motions.get m).state = .releasing := by
  by_contra busy
  unfold State.walkFails at passes
  split at passes
  · cases passes
  split at passes
  · cases passes
  split at passes
  · cases passes
  next rest =>
  refine rest (List.any_eq_true.2 ⟨m, by cases m <;> decide, ?_⟩)
  rw [decide_eq_false busy]
  rfl

/-- Entry to LOCKED, from IDLE or RELEASING (R106). -/
theorem MotionRec.locked_moved {r : MotionRec} (rests : r.state = .idle ∨ r.state = .releasing) : r.Moved r.locked :=
  ⟨fun h => .of_rest (.inr (.inl rfl)) rfl rfl rfl nofun (h.tripCause (by rcases rests with e | e <;> rw [e] <;> decide)),
    fun _ => rfl⟩

theorem State.walkTaken_records (s : State) (o : WalkOrder) : s.KeepsRecords (s.walkTaken o).state := by
  unfold State.walkTaken
  split
  · exact .refl s
  · next passes =>
    refine .of_records (fun m => ?_) id id
    rw [show (s.walkAccepted o).accepted.state.motions.get m = (s.motions.get m).locked from PerDig.get_map _ _ m]
    exact MotionRec.locked_moved (State.rests_of_walkFails passes m)

theorem State.resumeTaken_records (s : State) : s.KeepsRecords s.resumeTaken.state := by
  unfold State.resumeTaken
  split
  · exact .refl s
  · have resumed : s.KeepsRecords
        (s.onWalk fun w => (w.resumed (phaseOf s.k s.stride)).haltedIfAsked s.k s.inputs.tub) := by
      refine State.onWalk_records fun h => ?_
      unfold WalkRec.haltedIfAsked
      split
      exacts [WalkRec.halted_permit (w := s.walk.resumed _) h _ _, h]
    exact resumed

theorem State.cancelTaken_records (s : State) : s.KeepsRecords s.cancelTaken.state := by
  have finished : s.KeepsRecords (s.walkFinishInHoldup .cancelled) :=
    State.KeepsRecords.trans (State.onWalk_records fun _ => rfl) (State.onMotions_records fun _ => MotionRec.unlocked_moved _)
  have cancelled : s.KeepsRecords s.cancelled.cancelReply.state := by
    rw [State.cancelReply_state]
    exact finished.ite ((State.onWalk_records fun _ => rfl).trans (State.walkPass_records _))
  unfold State.cancelTaken
  split
  · exact .refl s
  split
  · exact cancelled
  · split
    exacts [cancelled, .refl s]
  · exact .refl s
  · exact .refl s

theorem State.writeZoneTaken_records (s : State) (w : ZoneWrite) : s.KeepsRecords (s.writeZoneTaken w).state := by
  unfold State.writeZoneTaken
  dsimp only
  split
  · exact .refl s
  split
  · exact .refl s
  split
  exacts [.refl s, .of_same rfl rfl id]

theorem State.retireZoneTaken_records (s : State) (x : Fin 40 × BitVec 16) : s.KeepsRecords (s.retireZoneTaken x).state := by
  unfold State.retireZoneTaken
  dsimp only
  split
  · exact .refl s
  split
  exacts [.refl s, .of_same rfl rfl id]

theorem State.confirmTaken_records (s : State) (x : Option (Fin 40 × Option (BitVec 16))) :
    s.KeepsRecords (s.confirmTaken x).state := by
  unfold State.confirmTaken
  split
  · exact .refl s
  split
  · unfold State.confirmOne
    dsimp only
    split
    · exact .refl s
    split
    exacts [.refl s, .of_same rfl rfl id]
  · unfold State.confirmAll
    split
    exacts [.of_same rfl rfl id, .refl s]

theorem State.referenceResetTaken_records (s : State) (c : Motion) : s.KeepsRecords (s.referenceResetTaken c).state := by
  unfold State.referenceResetTaken
  split
  exacts [.refl s, .of_same rfl rfl id]

theorem State.acknowledgeTaken_records (s : State) (p : Port) (key : AlarmKey) :
    s.KeepsRecords (s.acknowledgeTaken p key).state := by
  unfold State.acknowledgeTaken
  split
  exacts [.refl s, .of_same rfl rfl id]

theorem State.shelveTaken_records (s : State) (x : AlarmKey × Nat) : s.KeepsRecords (s.shelveTaken x).state := by
  unfold State.shelveTaken
  split
  · exact .refl s
  · split
    exacts [.refl s, .refl s, .of_same rfl rfl id, .of_same rfl rfl id]

theorem State.unshelveTaken_records (s : State) (key : AlarmKey) : s.KeepsRecords (s.unshelveTaken key).state := by
  unfold State.unshelveTaken
  split
  · exact .refl s
  · split
    exacts [.refl s, .of_same rfl rfl id]

theorem State.writeConstantTaken_records (s : State) (x : ConstKey × Int) :
    s.KeepsRecords (s.writeConstantTaken x).state := by
  have written (t : State) (key : ConstKey) (old : Constants) : t.KeepsRecords (t.constantWritten key old) := by
    have cpr (c : Motion) : t.KeepsRecords (t.cprWritten c) := State.KeepsRecords.ite (.of_same rfl rfl id) (.refl t)
    unfold State.constantWritten
    split
    · exact State.KeepsRecords.ite (((cpr _).ite (.refl t)).trans (.of_same rfl rfl id)) (.refl t)
    · exact State.KeepsRecords.ite (.of_same rfl rfl id) (State.KeepsRecords.ite (.of_same rfl rfl id) (.refl t))
  unfold State.writeConstantTaken
  dsimp only
  split
  · exact .refl s
  split
  exacts [.refl s, (written _ _ _).after rfl rfl id]

theorem State.commitBegun_records (s : State) : s.KeepsRecords s.commitBegun := by
  have begun (t : State) (x : CommitRun) : t.KeepsRecords { t with commit := some x } := .of_same rfl rfl id
  exact s.checkAll_records.trans (begun _ _)

theorem State.answerLeaves_records (s : State) (p : Port) : s.KeepsRecords (s.answerLeaves p) := by
  unfold State.answerLeaves
  split
  · exact .refl s
  · next a _ =>
    cases a.after
    exacts [.of_same rfl rfl id, .of_same rfl rfl id, State.dark_records _ _ _ _ _]

theorem State.cabLinkEnds_records (s : State) : s.KeepsRecords s.cabLinkEnds := by
  unfold State.cabLinkEnds
  split
  exacts [(State.raiseCondition_records _ _).after rfl rfl id, .refl s, .refl s]

/-! ### Every command -/

theorem State.event_records (s : State) {f : State → State} (hf : s.KeepsRecords (f s)) : s.KeepsRecords (s.event f) := by
  unfold State.event
  split
  exacts [hf.trans (State.settle_records _ _), .refl s, .refl s]

theorem State.levelEvent_records (s : State) {l : Inputs → Inputs} {f : State → State}
    (hf : ∀ t : State, t.KeepsRecords (f t)) : s.KeepsRecords (s.levelEvent l f) := by
  unfold State.levelEvent
  dsimp only
  split
  exacts [((hf _).trans (State.settle_records _ _)).after rfl rfl id, .of_same rfl rfl id, .of_same rfl rfl id]

theorem State.frameTaken_records (s : State) (p : Port) {take : State → State} (ht : ∀ t : State, t.KeepsRecords (take t)) :
    s.KeepsRecords (s.frameTaken p take) := by
  unfold State.frameTaken
  split
  · exact State.KeepsRecords.ite (.of_same rfl rfl id)
      ((((State.cabFrame_records _ p).trans (ht _)).trans (State.settle_records _ _)).after rfl rfl id)
  · exact .refl s
  · exact .refl s

theorem request_records {α : Type} (q : Spec) (parse : State → List Byte → Field α) (act : α → State → Taken) (f : Frame)
    (s : State) (ha : ∀ (t : State) (x : α), t.KeepsRecords (act x t).state) : s.KeepsRecords (request q parse act f s) := by
  refine s.frameTaken_records f.port fun t => ?_
  unfold takeRequest
  split
  · exact .of_same rfl rfl id
  · split
    · exact State.KeepsRecords.ite (.of_same rfl rfl id) ((ha t _).trans (.of_same rfl rfl id))
    · exact .of_same rfl rfl id

theorem MotionRec.tick_moved (r : MotionRec) : r.Moved r.tick := .of_same rfl rfl rfl rfl rfl rfl

theorem State.tick_records (s : State) : s.KeepsRecords s.tick := by
  have runs : s.KeepsRecords s.tickBoth.tickRun := .of_records (fun m => by
    rw [show s.tickBoth.tickRun.motions.get m = (s.motions.get m).tick from PerDig.get_map _ _ m]
    exact MotionRec.tick_moved _) id id
  unfold State.tick
  split
  exacts [State.KeepsRecords.ite (.of_same rfl rfl id) runs, .of_same rfl rfl id, .refl s]

/-- Every command keeps the dig motion records lawful, and no permit off mains (R86, R155). -/
theorem exec_records (c : Instr) (s : State) : ∃ t, exec c s = .next t ∧ s.KeepsRecords t := by
  cases c with
  | read f => exact ⟨_, rfl, request_records _ _ _ f s fun t key => t.readTaken_records key⟩
  | next f => exact ⟨_, rfl, request_records _ _ _ f s fun t start => t.nextTaken_records start⟩
  | demand f => exact ⟨_, rfl, request_records _ _ _ f s fun t x => t.demandTaken_records x⟩
  | arm f => exact ⟨_, rfl, request_records _ _ _ f s fun t x => t.armTaken_records x⟩
  | stopAll f => exact ⟨_, rfl, request_records _ _ _ f s fun t _ => t.stopAll_records⟩
  | parkMachine f => exact ⟨_, rfl, request_records _ _ _ f s fun t _ => t.parkTaken_records⟩
  | walk f => exact ⟨_, rfl, request_records _ _ _ f s fun t o => t.walkTaken_records o⟩
  | walkHalt f => exact ⟨_, rfl, request_records _ _ _ f s fun t _ => t.haltWalk_records⟩
  | walkResume f => exact ⟨_, rfl, request_records _ _ _ f s fun t _ => t.resumeTaken_records⟩
  | walkCancel f => exact ⟨_, rfl, request_records _ _ _ f s fun t _ => t.cancelTaken_records⟩
  | writeZone f => exact ⟨_, rfl, request_records _ _ _ f s fun t w => t.writeZoneTaken_records w⟩
  | retireZone f => exact ⟨_, rfl, request_records _ _ _ f s fun t x => t.retireZoneTaken_records x⟩
  | confirmZones f => exact ⟨_, rfl, request_records _ _ _ f s fun t x => t.confirmTaken_records x⟩
  | referenceReset f => exact ⟨_, rfl, request_records _ _ _ f s fun t c => t.referenceResetTaken_records c⟩
  | acknowledge f => exact ⟨_, rfl, request_records _ _ _ f s fun t key => t.acknowledgeTaken_records f.port key⟩
  | shelve f => exact ⟨_, rfl, request_records _ _ _ f s fun t x => t.shelveTaken_records x⟩
  | unshelve f => exact ⟨_, rfl, request_records _ _ _ f s fun t x => t.unshelveTaken_records x⟩
  | writeConstant f => exact ⟨_, rfl, request_records _ _ _ f s fun t x => t.writeConstantTaken_records x⟩
  | commit f => exact ⟨_, rfl, request_records _ _ _ f s fun t _ => t.commitBegun_records⟩
  | status f | flushCache f | setAnnounce f | lockOutGenerator f | returnGenerator f | openGuard f | restart f =>
    exact ⟨_, rfl, request_records _ _ _ f s fun _ _ => .of_same rfl rfl id⟩
  | unknown f code => exact ⟨_, rfl, s.frameTaken_records _ fun _ => .of_same rfl rfl id⟩
  | check p tag code =>
    have fails : s.KeepsRecords (s.checkFails p tag code) := State.KeepsRecords.ite (.of_same rfl rfl id) (.of_same rfl rfl id)
    exact ⟨_, rfl, s.event_records fails⟩
  | lengthOutOfRange p length | frameGap p byte | lineBreakOrFramingError p | frameDiscarded p | guardWindowEnd
  | markerWriteDone | shelfMinute key => exact ⟨_, rfl, s.event_records (.of_same rfl rfl id)⟩
  | answerSent p => exact ⟨_, rfl, s.event_records (s.answerLeaves_records p)⟩
  | cabLinkPeriodEnd => exact ⟨_, rfl, s.event_records s.cabLinkEnds_records⟩
  | quadratureCount c input level | countDirectionCount c input level =>
    exact ⟨_, rfl, s.levelEvent_records fun t => t.count?_records c _⟩
  | quadratureError c =>
    have fault (t : State) : t.KeepsRecords (t.quadratureFault c) := State.KeepsRecords.ite (.of_same rfl rfl id) (.refl t)
    exact ⟨_, rfl, s.levelEvent_records fault⟩
  | rateWindowEnd c => exact ⟨_, rfl, s.event_records (s.windowEnd_records c)⟩
  | referenceSwitchMake c => exact ⟨_, rfl, s.levelEvent_records fun t => t.switchMade_records c⟩
  | referenceSwitchBreak c => exact ⟨_, rfl, s.levelEvent_records fun _ => .of_same rfl rfl id⟩
  | encoderIndex c => exact ⟨_, rfl, s.event_records (s.encoderIndex_records c)⟩
  | camIndex => exact ⟨_, rfl, s.event_records s.camIndex_records⟩
  | tubLiftOff => exact ⟨_, rfl, s.levelEvent_records State.tubLiftsOff_records⟩
  | tubSetDown => exact ⟨_, rfl, s.levelEvent_records State.tubSetsDown_records⟩
  | scrubVisit faults =>
    have checked := (s.bodiesFault_records faults).trans (State.checkBody_records _ s.zones.scrub)
    exact ⟨_, rfl, s.event_records (checked.trans (.of_same rfl rfl id))⟩
  | resolutionEnd => exact ⟨_, rfl, s.event_records s.resolutionEnds_records⟩
  | closureProof g loop | dropOutProof g loop | strayOrLostProof g loop present | lockedOutProofChange g loop present =>
    exact ⟨_, rfl, s.levelEvent_records fun t => t.inRun_records (t.genTakes_records g _)⟩
  | openingProofTimeEnd g | failedClose g => exact ⟨_, rfl, s.event_records (s.inRun_records (s.genTakes_records g _))⟩
  | releaseHoldExpiry m => exact ⟨_, rfl, s.event_records (s.inRun_records (s.holdExpires_records m))⟩
  | starveTimeEnd m =>
    have starves : s.KeepsRecords (s.starves m) := (s.raiseCondition_records _).ite (.refl s)
    exact ⟨_, rfl, s.event_records (s.inRun_records starves)⟩
  | brakeReleaseProof m => exact ⟨_, rfl, s.levelEvent_records fun t => t.releaseProofComes_records m⟩
  | brakeSetProof m | releaseProofLost m => exact ⟨_, rfl, s.levelEvent_records fun t => t.brakeShowsSet_records m⟩
  | brakeLiftWithoutCommand m => exact ⟨_, rfl, s.levelEvent_records fun t => t.brakeShowsReleased_records m⟩
  | brakeReleaseTimeEnd m => exact ⟨_, rfl, s.event_records (s.inRun_records (s.releaseTimeEnds_records m))⟩
  | brakeSetTimeEnd m => exact ⟨_, rfl, s.event_records (s.inRun_records (s.setTimeEnds_records m))⟩
  | stopTimeout m => exact ⟨_, rfl, s.event_records (s.inRun_records (s.onBrake_records m _))⟩
  | prepareTimeout => exact ⟨_, rfl, s.event_records (s.inRun_records s.prepareTimesOut_records)⟩
  | phaseTimeout => exact ⟨_, rfl, s.event_records (s.inRun_records s.phaseTimesOut_records)⟩
  | dwellEnd => exact ⟨_, rfl, s.event_records (s.inRun_records s.dwellEnds_records)⟩
  | emergencyStopInput stop => exact ⟨_, rfl, s.levelEvent_records fun t => t.setCondition_records _ _⟩
  | mainsLoss => exact ⟨_, rfl, s.levelEvent_records fun t => (State.KeepsRecords.refl t).ite t.holdupEntry_records⟩
  | mainsReturn => exact ⟨_, rfl, s.levelEvent_records fun t => t.holdupReturn_records.ite (.refl t)⟩
  | commitWriteEnd left => exact ⟨_, rfl, s.event_records (s.commitEnds_records left)⟩
  | holdupExhausted => exact ⟨_, rfl, (s.dark_records _ _ _ _).ite (.refl s)⟩
  | powerOn => exact ⟨_, rfl, (State.KeepsRecords.refl s).ite (s.dark_records _ _ _ _)⟩
  | resetLine =>
    refine ⟨_, rfl, ?_⟩
    split
    exacts [s.dark_records _ _ _ _, s.dark_records _ _ _ _, .refl s]
  | settingsLoadEnd =>
    refine ⟨_, rfl, ?_⟩
    split
    exacts [s.loadEnds_records, .refl s, .refl s]

theorem step_records {s t : State} (stepped : step s = .next t) : s.KeepsRecords t := by
  unfold step at stepped
  split at stepped
  · next c rest _ =>
    obtain ⟨u, run, keeps⟩ := exec_records c { s with pending := rest }
    rw [run] at stepped
    cases stepped
    exact keeps.after rfl rfl id
  · cases stepped
    exact s.tick_records

/-- Settles O10: a record leaves IDLE, RELEASING and TRIPPED only by the operations that give it what its new state asks, and the
arbiter ends a hold only where one has begun. -/
theorem motionsStayLawful : Obligations.MotionsStayLawful := fun _ _ lawful stepped => (step_records stepped).lawful lawful

end Sys2Proof.Machine
end

section
/-! SUPPORT. The permit laws and the ready law at the end of a change (06 R91, R95, 07 R119): the terms that a composed permit
shows, and what the last pass of a change leaves of ACQUIRING and READY. -/

namespace Sys2Proof.Machine

/-! ### The terms of a composed permit (R95, R119) -/

section Compose

variable {s : State} {d : Dir}

theorem State.runs_iff {m : Dig} : s.runs m = true ↔ ∃ d, (s.motions.get m).demand = some d ∧
    (s.motions.get m).state = .ready ∧ (s.motions.get m).reversal = false ∧ s.granted m d = true := by
  unfold State.runs
  dsimp only
  split
  · next absent => simp [absent]
  · next d demand => simp [demand, and_assoc]

theorem State.granted_iff {m : Dig} : s.granted m d = true ↔
    grants (s.res.force.codes.get m) d = true ∧ (m = .swing → grants s.res.look.code d = true) := by
  unfold State.granted
  rw [Bool.and_eq_true, Bool.or_eq_true, decide_eq_true_eq, ne_eq, ← imp_iff_not_or]

theorem State.permitOf_eq_some {m : Dig} (h : s.permitOf m = some d) : (s.motions.get m).state = .ready ∧
    (s.motions.get m).demand = some d ∧ (s.motions.get m).reversal = false ∧
      (s.motions.get m).brake.state = .released ∧ s.leased m.motion = true ∧ s.tripInForce = false ∧
        s.granted m d = true := by
  unfold State.permitOf at h
  dsimp only at h
  split at h
  · next terms =>
    simp only [Bool.and_eq_true, decide_eq_true_eq, Bool.not_eq_true'] at terms
    obtain ⟨⟨⟨runs, released⟩, leased⟩, untripped⟩ := terms
    obtain ⟨d', demand, ready, forward, granted⟩ := State.runs_iff.1 runs
    obtain rfl : d' = d := Option.some.inj (demand.symm.trans h)
    exact ⟨ready, demand, forward, released, leased, untripped, granted⟩
  · cases h

theorem State.compose_permitLaw (s : State) (m : Dig) : s.compose.PermitLaw m := by
  intro d
  rw [State.compose_get]
  intro permit
  obtain ⟨ready, demand, forward, released, leased, untripped, granted⟩ := State.permitOf_eq_some permit
  obtain ⟨force, look⟩ := State.granted_iff.1 granted
  exact ⟨ready, demand, forward, released, of_decide_eq_true leased, untripped, force, look⟩

theorem State.walkPermitOf_eq_some (h : s.walkPermitOf = some d) : s.walk.state = .stepping ∧ s.walk.ending = none ∧
    s.walk.phase ≠ some .dwell ∧ d = s.walk.direction ∧ s.walk.brake.state = .released ∧ s.leased .walk = true ∧
      s.tripInForce = false := by
  unfold State.walkPermitOf WalkRec.stepping at h
  dsimp only at h
  split at h
  · next terms =>
    simp only [Bool.and_eq_true, decide_eq_true_eq, Bool.not_eq_true', Option.isNone_iff_eq_none] at terms
    obtain ⟨⟨⟨⟨⟨stepping, endless⟩, timed⟩, released⟩, leased⟩, untripped⟩ := terms
    exact ⟨stepping, endless, timed, (Option.some.inj h).symm, released, leased, untripped⟩
  · cases h

theorem State.compose_walkPermitLaw (s : State) : s.compose.WalkPermitLaw := by
  intro d permit
  obtain ⟨stepping, endless, timed, direction, released, leased, untripped⟩ := State.walkPermitOf_eq_some permit
  exact ⟨stepping, endless, timed, direction, released, of_decide_eq_true leased, untripped⟩

end Compose

/-! ### ACQUIRING and READY after the last pass (R91) -/

/-- A motion that is ACQUIRING or READY after the change was in that state before, with its minimum proven or not as now. -/
def State.StandsReady (m : Dig) (s t : State) : Prop :=
  (t.motions.get m).state = .acquiring ∨ (t.motions.get m).state = .ready →
    (s.motions.get m).state = (t.motions.get m).state ∧ t.leased m.motion = s.leased m.motion

section StandsReady

variable {m : Dig} {s t u : State}

theorem State.StandsReady.refl (m : Dig) (s : State) : State.StandsReady m s s := fun _ => ⟨rfl, rfl⟩

theorem State.StandsReady.trans (h : State.StandsReady m s t) (g : State.StandsReady m t u) : State.StandsReady m s u := by
  intro waits
  obtain ⟨state, leased⟩ := g waits
  obtain ⟨state', leased'⟩ := h (by rw [state]; exact waits)
  exact ⟨state'.trans state, leased.trans leased'⟩

theorem State.StandsReady.ite {p : Prop} [Decidable p] (ht : State.StandsReady m s t) (hu : State.StandsReady m s u) :
    State.StandsReady m s (if p then t else u) := by
  split
  exacts [ht, hu]

theorem State.StandsReady.foldl {α : Type} {f : State → α → State} (h : ∀ (s : State) (a : α), State.StandsReady m s (f s a))
    (l : List α) (s : State) : State.StandsReady m s (l.foldl f s) := by
  induction l generalizing s with
  | nil => exact .refl m s
  | cons a l ih => exact (h s a).trans (ih (f s a))

/-- The lease stands where the constants, the supply and the generators do. -/
theorem State.StandsReady.of_same (motions : t.motions = s.motions) (k : t.k = s.k) (supply : t.supply = s.supply)
    (gens : t.gens = s.gens) : State.StandsReady m s t := by
  intro _
  unfold State.leased State.proven State.inHoldup
  rw [motions, k, supply, gens]
  exact ⟨rfl, rfl⟩

theorem State.onMotion_stands (m n : Dig) (s : State) {f : MotionRec → MotionRec}
    (hf : m = n → (f (s.motions.get n)).state = .acquiring ∨ (f (s.motions.get n)).state = .ready →
      (s.motions.get n).state = (f (s.motions.get n)).state) : State.StandsReady m s (s.onMotion n f) := by
  intro waits
  refine ⟨?_, rfl⟩
  rw [State.onMotion_get] at waits ⊢
  split
  · next same =>
    rw [if_pos same] at waits
    cases same
    exact hf rfl waits
  · rfl

theorem State.returnAll_stands {n : Motion} (other : n ≠ m.motion) (s : State) : State.StandsReady m s (s.returnAll n) := by
  intro _
  refine ⟨rfl, ?_⟩
  have proven : (s.returnAll n).proven m.motion = s.proven m.motion := State.proven_of_lease rfl (s.returnAll_lease other)
  unfold State.leased
  rw [proven]
  rfl

/-- What an operation leaves TRIPPED, IDLE, RELEASING or LOCKED it need not leave its lease. -/
theorem State.StandsReady.of_resting (notAcquiring : (t.motions.get m).state ≠ .acquiring)
    (notReady : (t.motions.get m).state ≠ .ready) : State.StandsReady m s t := fun waits =>
  (waits.elim notAcquiring notReady).elim

theorem State.clearCondition_stands (m : Dig) (s : State) (key : AlarmKey) : State.StandsReady m s (s.clearCondition key) :=
  State.StandsReady.ite (.of_same rfl rfl rfl rfl) (.refl m s)

theorem State.onMotion_stands_same (m n : Dig) (s : State) {f : MotionRec → MotionRec}
    (hf : (f (s.motions.get n)).state = (s.motions.get n).state) : State.StandsReady m s (s.onMotion n f) :=
  s.onMotion_stands m n fun _ _ => hf.symm

theorem State.onMotion_stands_other {n : Dig} (other : m ≠ n) (s : State) (f : MotionRec → MotionRec) :
    State.StandsReady m s (s.onMotion n f) := s.onMotion_stands m n fun same => absurd same other

theorem State.reversalPass_stands (m n : Dig) (s : State) : State.StandsReady m s (s.reversalPass n) := by
  refine s.onMotion_stands_same m n ?_
  split <;> rfl

theorem State.brakePass_stands (m n : Dig) (s : State) : State.StandsReady m s (s.brakePass n) :=
  s.onMotion_stands_same m n rfl

theorem State.proofPass_stands (m n : Dig) (s : State) : State.StandsReady m s (s.proofPass n) := by
  unfold State.proofPass
  dsimp only
  split
  · exact (State.StandsReady.refl m s).ite ((s.onMotion_stands_same m n rfl).trans (State.clearCondition_stands m _ _))
  · exact (s.onMotion_stands_same m n rfl).ite (.refl m s)
  · exact .refl m s
  · exact .refl m s

theorem State.restPass_stands_other {n : Dig} (other : m ≠ n) (s : State) : State.StandsReady m s (s.restPass n) := by
  have record (t : State) (f : MotionRec → MotionRec) := t.onMotion_stands_other other f
  have back := s.returnAll_stands fun same => other (Dig.motion_injective same).symm
  have hold : State.StandsReady m s (s.beginHold n) := (record s _).ite ((back.trans (record _ _)).ite (record s _))
  exact State.StandsReady.ite ((record s _).ite (hold.ite (back.ite (.refl m s)))) (.refl m s)

/-- A hold begins for a RELEASING motion, and ends for it as it begins, or not. -/
theorem State.beginHold_rests {n : Dig} (releasing : (s.motions.get n).state = .releasing) :
    ((s.beginHold n).motions.get n).state = .idle ∨ ((s.beginHold n).motions.get n).state = .releasing := by
  unfold State.beginHold
  split
  · rw [State.onMotion_get, if_pos rfl]
    exact .inl rfl
  split
  · rw [State.endHold_get]
    exact .inl rfl
  · rw [State.onMotion_get, if_pos rfl]
    exact .inr releasing

theorem State.restPass_stands (m : Dig) (s : State) : State.StandsReady m s (s.restPass m) := by
  unfold State.restPass
  dsimp only
  split
  · split
    · exact s.onMotion_stands_same m m rfl
    split
    · next due =>
      rcases State.beginHold_rests (s := s) (MotionRec.releasing_of_holdDue due) with e | e <;>
        exact .of_resting (by rw [e]; decide) (by rw [e]; decide)
    split
    · next tripped =>
      have record : (s.returnAll m.motion).motions.get m = s.motions.get m := rfl
      exact .of_resting (by rw [record, tripped]; decide) (by rw [record, tripped]; decide)
    · exact .refl m s
  · exact .refl m s

theorem State.motionPass_stands_other {n : Dig} (other : m ≠ n) (s : State) : State.StandsReady m s (s.motionPass n) :=
  ((((s.reversalPass_stands m n).trans (State.onMotion_stands_other other _ _)).trans (State.brakePass_stands m n _)).trans
    (State.proofPass_stands m n _)).trans (State.restPass_stands_other other _)

theorem State.walkPass_stands (m : Dig) (s : State) : State.StandsReady m s s.walkPass := by
  have record (t : State) (f : WalkRec → WalkRec) : State.StandsReady m t (t.onWalk f) := .of_same rfl rfl rfl rfl
  have back (t : State) := t.returnAll_stands (Dig.walk_ne_motion m)
  have unlocked (t : State) : State.StandsReady m t (t.onMotions MotionRec.unlocked) := by
    intro waits
    refine ⟨?_, rfl⟩
    rw [State.onMotions_motions, PerDig.get_map] at waits ⊢
    unfold MotionRec.unlocked at waits ⊢
    split
    · next locked =>
      rw [if_pos locked] at waits
      rcases waits with e | e <;> cases e
    · rfl
  have proof (t : State) : State.StandsReady m t t.walkProofPass := by
    unfold State.walkProofPass
    split
    · exact (State.StandsReady.refl m t).ite ((record t _).trans (State.clearCondition_stands m _ _))
    · exact (record t _).ite (.refl m t)
    · exact .refl m t
    · exact .refl m t
  have rest (t : State) : State.StandsReady m t t.walkRestPass := by
    unfold State.walkRestPass
    dsimp only
    refine State.StandsReady.ite ?_ (.refl m t)
    split
    · exact ((back t).trans (record _ _)).trans (unlocked _)
    · refine (back t).ite (State.StandsReady.ite ?_ ((record t _).ite (.refl m t)))
      split
      exacts [.refl m t, record t _]
  exact ((record s _).trans (proof _)).trans (rest _)

/-- Each motion takes its state from its lease in its own pass, and keeps both to the end of the passes. -/
theorem State.passes_ready (m : Dig) (s : State) : ∃ v : State, State.StandsReady m (v.readyPass m) s.passes := by
  have own (t : State) : State.StandsReady m ((t.reversalPass m).readyPass m) (t.motionPass m) :=
    ((State.brakePass_stands m m _).trans (State.proofPass_stands m m _)).trans (State.restPass_stands m _)
  cases m with
  | hoist => exact ⟨_, (((own s).trans (State.motionPass_stands_other (by decide) _)).trans
      (State.motionPass_stands_other (by decide) _)).trans (State.walkPass_stands _ _)⟩
  | drag => exact ⟨_, ((own _).trans (State.motionPass_stands_other (by decide) _)).trans (State.walkPass_stands _ _)⟩
  | swing => exact ⟨_, (own _).trans (State.walkPass_stands _ _)⟩

theorem State.starvedSync_stands (m : Dig) (s : State) : State.StandsReady m s s.starvedSync :=
  .foldl (fun s _ => (State.StandsReady.refl m s).ite (s.clearCondition_stands m _)) _ s

theorem State.compose_stands (m : Dig) (s : State) : State.StandsReady m s s.compose := by
  intro _
  rw [State.compose_get]
  exact ⟨rfl, rfl⟩

end StandsReady

/-! ### The laws after a completed change -/

theorem State.onMains_of_settle {s0 u : State} (mains : (State.settle s0 u).OnMains) : u.OnMains := by
  have same := State.settle_same s0 u
  exact ⟨same.power.symm.trans mains.1, by rw [← same.supply]; exact mains.2⟩

theorem State.settle_readyLaw (s0 : State) {u : State} (mains : u.OnMains) : (State.settle s0 u).ReadyLaw := by
  intro _ m waits
  rw [State.settle_onMains s0 mains] at waits ⊢
  let w := State.arbitrate s0 u.syncConditions.resolverFollow.passes
  obtain ⟨v, stands⟩ := w.passes_ready m
  obtain ⟨state, leased⟩ := ((stands.trans (State.starvedSync_stands m _)).trans (State.compose_stands m _)) waits
  change ((v.readyPass m).motions.get m).state = ((State.settleInRun s0 u).motions.get m).state at state
  change (State.settleInRun s0 u).leased m.motion = v.leased m.motion at leased
  rw [State.readyPass_get] at state
  rw [← state] at waits ⊢
  have before : (v.motions.get m).state = .acquiring ∨ (v.motions.get m).state = .ready := by
    by_contra rests
    rw [not_or] at rests
    change (v.motions.get m).state.byLease _ = _ ∨ (v.motions.get m).state.byLease _ = _ at waits
    rw [MotionState.byLease_resting rests.1 rests.2] at waits
    exact waits.elim rests.1 rests.2
  change (v.motions.get m).state.byLease _ = .ready ↔ _
  rw [MotionState.byLease_waiting before, ← leased]
  have terms : (State.settleInRun s0 u).leased m.motion = true ↔
      (State.settleInRun s0 u).k.minimumComplement.get m.motion ≤ (State.settleInRun s0 u).proven m.motion := decide_eq_true_iff
  rw [← terms]
  cases (State.settleInRun s0 u).leased m.motion <;> decide

theorem State.settle_permits (s0 : State) {u : State} (mains : u.OnMains) : (State.settle s0 u).PermitsLawful := by
  rw [State.settle_onMains s0 mains]
  exact ⟨State.compose_permitLaw _, State.compose_walkPermitLaw _⟩

/-! ### The laws after a step -/

/-- A part off mains has no permit, and its laws hold of none. -/
theorem State.NoPermitOffMains.permitsLawful {t : State} (h : t.NoPermitOffMains) (off : ¬ t.OnMains) : t.PermitsLawful := by
  obtain ⟨digs, walk⟩ := h off
  refine ⟨fun m d permit => ?_, fun d permit => ?_⟩
  · rw [digs m] at permit
    cases permit
  · rw [walk] at permit
    cases permit

/-- What leaves the permits and their terms as they were. -/
structure State.SameTerms (s t : State) : Prop where
  mains : t.OnMains ↔ s.OnMains
  k : t.k = s.k
  res : t.res = s.res
  trip : t.tripInForce = s.tripInForce
  proven : ∀ m, t.proven m = s.proven m
  state : ∀ m, (t.motions.get m).state = (s.motions.get m).state
  demand : ∀ m, (t.motions.get m).demand = (s.motions.get m).demand
  reversal : ∀ m, (t.motions.get m).reversal = (s.motions.get m).reversal
  permit : ∀ m, (t.motions.get m).permit = (s.motions.get m).permit
  brake : ∀ m, (t.motions.get m).brake.state = (s.motions.get m).brake.state
  walkState : t.walk.state = s.walk.state
  ending : t.walk.ending = s.walk.ending
  phase : t.walk.phase = s.walk.phase
  direction : t.walk.direction = s.walk.direction
  walkPermit : t.walk.permit = s.walk.permit
  walkBrake : t.walk.brake.state = s.walk.brake.state

theorem State.SameTerms.of_same {s t : State} (mains : t.OnMains ↔ s.OnMains) (supply : t.supply = s.supply) (k : t.k = s.k)
    (res : t.res = s.res) (alarms : t.alarms = s.alarms) (gens : t.gens = s.gens) (motions : t.motions = s.motions)
    (walk : t.walk = s.walk) : s.SameTerms t := by
  refine ⟨mains, k, res, ?_, fun m => ?_, ?_, ?_, ?_, ?_, ?_, ?_, ?_, ?_, ?_, ?_, ?_⟩
  · unfold State.tripInForce
    rw [alarms]
  · unfold State.proven State.inHoldup
    rw [supply, gens]
  all_goals simp only [motions, walk, implies_true]

theorem State.SameTerms.permitsLawful {s t : State} (h : s.SameTerms t) (lawful : s.PermitsLawful) : t.PermitsLawful := by
  refine ⟨fun m d => ?_, fun d => ?_⟩
  · rw [h.permit, h.state, h.demand, h.reversal, h.brake, h.k, h.proven, h.trip, h.res]
    exact lawful.1 m d
  · rw [h.walkPermit, h.walkState, h.ending, h.phase, h.direction, h.walkBrake, h.k, h.proven, h.trip]
    exact lawful.2 d

theorem State.SameTerms.readyLaw {s t : State} (h : s.SameTerms t) (ready : s.ReadyLaw) : t.ReadyLaw := by
  intro mains m
  rw [h.state, h.k, h.proven]
  exact ready (h.mains.1 mains) m

/-- A command's end: a change completed, a part that does not run, or one in which no term of a permit has moved. -/
def State.Completes (s t : State) : Prop := (∃ s0 u, t = State.settle s0 u) ∨ t.power ≠ .running ∨ s.SameTerms t

theorem State.Completes.of_off {s t : State} (off : t.power ≠ .running) : s.Completes t := .inr (.inl off)

theorem State.Completes.refl (s : State) : s.Completes s := .inr (.inr (.of_same .rfl rfl rfl rfl rfl rfl rfl rfl))

theorem State.event_completes (s : State) (f : State → State) : s.Completes (s.event f) := by
  unfold State.event
  split
  exacts [.inl ⟨_, _, rfl⟩, .refl s, .refl s]

theorem State.levelEvent_completes (s : State) (l : Inputs → Inputs) (f : State → State) :
    s.Completes (s.levelEvent l f) := by
  have moved : s.Completes { s with inputs := l s.inputs } := .inr (.inr (.of_same .rfl rfl rfl rfl rfl rfl rfl rfl))
  unfold State.levelEvent
  dsimp only
  split
  exacts [.inl ⟨_, _, rfl⟩, moved, moved]

theorem State.frameTaken_completes (s : State) (p : Port) (take : State → State) : s.Completes (s.frameTaken p take) := by
  unfold State.frameTaken
  split
  · split
    · exact .inr (.inr (.of_same .rfl rfl rfl rfl rfl rfl rfl rfl))
    · exact .inl ⟨_, _, rfl⟩
  · exact .refl s
  · exact .refl s

/-- Every command ends so. -/
theorem exec_completes (c : Instr) (s : State) : ∃ t, exec c s = .next t ∧ s.Completes t := by
  cases c with
  | read f | next f | status f | demand f | arm f | stopAll f | parkMachine f | walk f | walkHalt f | walkResume f
  | walkCancel f | writeZone f | retireZone f | confirmZones f | flushCache f | referenceReset f | acknowledge f | shelve f
  | unshelve f | setAnnounce f | lockOutGenerator f | returnGenerator f | openGuard f | writeConstant f | commit f
  | restart f | unknown f code => exact ⟨_, rfl, s.frameTaken_completes _ _⟩
  | check p tag code | lengthOutOfRange p length | frameGap p byte | lineBreakOrFramingError p | frameDiscarded p
  | answerSent p | guardWindowEnd | cabLinkPeriodEnd | rateWindowEnd c | encoderIndex c | camIndex | scrubVisit faults
  | resolutionEnd | openingProofTimeEnd g | failedClose g | releaseHoldExpiry m | starveTimeEnd m | brakeReleaseTimeEnd m
  | brakeSetTimeEnd m | stopTimeout m | prepareTimeout | phaseTimeout | dwellEnd | shelfMinute key | markerWriteDone
  | commitWriteEnd left => exact ⟨_, rfl, s.event_completes _⟩
  | quadratureCount c input level | countDirectionCount c input level | quadratureError c | referenceSwitchMake c
  | referenceSwitchBreak c | tubLiftOff | tubSetDown | closureProof g loop | dropOutProof g loop
  | strayOrLostProof g loop present | lockedOutProofChange g loop present | brakeReleaseProof m | brakeSetProof m
  | releaseProofLost m | brakeLiftWithoutCommand m | emergencyStopInput stop | mainsLoss | mainsReturn =>
    exact ⟨_, rfl, s.levelEvent_completes _ _⟩
  | holdupExhausted =>
    refine ⟨_, rfl, ?_⟩
    split
    exacts [.of_off nofun, .refl s]
  | powerOn =>
    refine ⟨_, rfl, ?_⟩
    split
    exacts [.refl s, .of_off nofun]
  | resetLine =>
    refine ⟨_, rfl, ?_⟩
    split
    exacts [.of_off nofun, .of_off nofun, .refl s]
  | settingsLoadEnd =>
    refine ⟨_, rfl, ?_⟩
    split
    exacts [.inl ⟨_, _, rfl⟩, .refl s, .refl s]

/-- A shelf's count has no part in the class of a condition. -/
theorem Alarms.record_tick (a : Alarms) (key : AlarmKey) :
    ({ a with slots := a.slots.map (Option.map AlarmRec.tick) } : Alarms).record key = (a.record key).map AlarmRec.tick := by
  have holds : holdsKey key ∘ Option.map AlarmRec.tick = holdsKey key := by
    funext x
    cases x <;> rfl
  show ((a.slots.cells.map (Option.map AlarmRec.tick)).find? (holdsKey key)).join = _
  rw [List.find?_map, holds]
  unfold Alarms.record
  cases a.slots.cells.find? (holdsKey key) with
  | none => rfl
  | some x => rfl

theorem State.tickBoth_trip (s : State) : s.tickBoth.tripInForce = s.tripInForce := by
  have cls (key : AlarmKey) : s.tickBoth.alarms.effectiveClass key = s.alarms.effectiveClass key := by
    unfold Alarms.effectiveClass
    rw [show s.tickBoth.alarms.record key = _ from s.alarms.record_tick key]
    cases s.alarms.record key <;> rfl
  have trips : s.tickBoth.alarms.isTripCondition = s.alarms.isTripCondition := by
    funext c
    unfold Alarms.isTripCondition
    rw [cls]
  show s.alarms.conditions.any s.tickBoth.alarms.isTripCondition = _
  rw [trips]
  rfl

theorem Gen.tick_granted (g : Gen) (m : Motion) : g.tick.isGrantedTo m = g.isGrantedTo m := by
  obtain ⟨st, _⟩ := g
  cases st <;> rfl

theorem State.tick_terms (s : State) : s.SameTerms s.tick := by
  have both : s.SameTerms s.tickBoth :=
    ⟨.rfl, rfl, rfl, s.tickBoth_trip, fun _ => rfl, fun _ => rfl, fun _ => rfl, fun _ => rfl, fun _ => rfl, fun _ => rfl,
      rfl, rfl, rfl, rfl, rfl, rfl⟩
  have motion (m : Dig) : s.tickBoth.tickRun.motions.get m = (s.motions.get m).tick := PerDig.get_map _ _ m
  have proven (m : Motion) : s.tickBoth.tickRun.proven m = s.proven m := by
    unfold State.proven
    refine ite_congr rfl (fun _ => rfl) fun _ => Table.countP_congr fun g => ?_
    show ((s.gens.map Gen.tick).get g).isGrantedTo m = _
    rw [Table.get_map]
    exact Gen.tick_granted _ _
  have run : s.SameTerms s.tickBoth.tickRun := by
    refine ⟨.rfl, rfl, rfl, s.tickBoth_trip, proven, ?_, ?_, ?_, ?_, ?_, rfl, rfl, rfl, rfl, rfl, rfl⟩ <;> intro m <;>
      rw [motion] <;> rfl
  unfold State.tick
  split
  · split
    exacts [both, run]
  · exact .of_same .rfl rfl rfl rfl rfl rfl rfl rfl
  · exact .of_same .rfl rfl rfl rfl rfl rfl rfl rfl

theorem step_completes {s t : State} (stepped : step s = .next t) : s.Completes t := by
  unfold step at stepped
  split at stepped
  · next c rest _ =>
    obtain ⟨u, run, completes⟩ := exec_completes c { s with pending := rest }
    rw [run] at stepped
    cases stepped
    exact completes.imp_right (.imp_right fun ⟨mains, k, res, trip, proven, state, demand, reversal, permit, brake, walkState,
      ending, phase, direction, walkPermit, walkBrake⟩ => ⟨mains, k, res, trip, proven, state, demand, reversal, permit, brake,
        walkState, ending, phase, direction, walkPermit, walkBrake⟩)
  · cases stepped
    exact .inr (.inr s.tick_terms)

/-- Settles O11: a completed change on mains ends with the composition of every permit, and its last pass takes each state from
its lease; off mains no operation asserts a permit; and nothing else moves a term. -/
theorem permitsStayLawful : Obligations.PermitsStayLawful := by
  intro s t permits off ready stepped
  have offAfter : t.NoPermitOffMains := (step_records stepped).off off
  refine ⟨?_, offAfter, ?_⟩
  · by_cases mains : t.OnMains
    · rcases step_completes stepped with ⟨s0, u, rfl⟩ | stopped | same
      · exact State.settle_permits s0 (State.onMains_of_settle mains)
      · exact absurd mains.1 stopped
      · exact same.permitsLawful permits
    · exact offAfter.permitsLawful mains
  · intro mains
    rcases step_completes stepped with ⟨s0, u, rfl⟩ | stopped | same
    · exact State.settle_readyLaw s0 (State.onMains_of_settle mains) mains
    · exact absurd mains.1 stopped
    · exact same.readyLaw ready mains

end Sys2Proof.Machine
end

section
/-! SUPPORT. Two parts on mains whose TRIPPED HOIST has a release hold (05 R82, 06 R100, R102): no lawful motion record has one. A stop
leaves a record that is TRIPPED already alone, and the completion of the change recalls the hold like any other, so that the
motion becomes IDLE. -/

namespace Sys2Proof.Machine

/-- HOIST is TRIPPED and its release hold has begun; the other motions are at rest. -/
def heldInTripMotions : PerDig MotionRec :=
  ⟨{ MotionRec.cold with state := .tripped, tripCause := some supplyLost, holdStart := some 0 }, MotionRec.cold, MotionRec.cold⟩

/-- The four records that a part has at reset are of their codes' base class. -/
theorem reset_classesLegal : State.reset.ClassesLegal := by
  intro r stored
  have base : r.cls = baseClass r.key.code := by
    change some r ∈ [some (AlarmRec.unreferencedAtStart 1), some (AlarmRec.unreferencedAtStart 2),
      some (AlarmRec.unreferencedAtStart 3), some (AlarmRec.unreferencedAtStart 4)] ++ List.replicate 44 none at stored
    simp only [List.mem_append, List.mem_cons, Option.some.injEq, List.mem_replicate, List.not_mem_nil, reduceCtorEq,
      and_false, or_false] at stored
    rcases stored with rfl | rfl | rfl | rfl <;> rfl
  exact .inl base

/-! ### A release proof lost (R102) -/

/-- A part on mains without a generator: HOIST, with its brake RELEASED, has a hold in TRIPPED, and DRAG waits for its
complement. -/
def State.heldAtProofLoss : State :=
  { State.reset with
    gens := Table.const 12 ⟨.noRecord, 0⟩
    motions :=
      { heldInTripMotions with
        hoist := { heldInTripMotions.hoist with brake := { Brake.cold with state := .released } }
        drag := { MotionRec.cold with state := .acquiring, demand := some .plus } } }

/-- DRAG is on the waiting list, no generator is coming, and the recall test ends the one hold there is (R82). -/
theorem heldAtProofLoss_recalled :
    ((State.heldAtProofLoss.setEvent .hoist).motions.get .hoist).state = .idle := by decide +kernel

/-- Refutes O42: RELEASE_PROOF_LOST leaves HOIST IDLE, not TRIPPED. The statement asks for no lawful motion records
(`State.MotionsLawful`), under which no TRIPPED motion has a hold. -/
theorem not_brakeFaultsAndTimes : ¬ Obligations.BrakeFaultsAndTimes := by
  rintro ⟨⟨lost, -⟩, -⟩
  obtain ⟨t, taken, -, -, trips, -⟩ :=
    lost State.heldAtProofLoss .hoist ⟨rfl, rfl⟩ reset_classesLegal rfl
  obtain rfl := Host.Outcome.next.inj taken
  have tripped := trips .hoist rfl
  rw [heldAtProofLoss_recalled] at tripped
  cases tripped

/-! ### The cab link lost (R102, R173) -/

/-- A part on mains without a generator: HOIST has a hold in TRIPPED, and a STEPPING walk, which the loss of the cab link asks
to halt and does not stop, waits for its complement. -/
def State.heldAtLinkLoss : State :=
  { State.reset with
    gens := Table.const 12 ⟨.noRecord, 0⟩
    motions := heldInTripMotions
    walk := { WalkRec.cold with state := .stepping, phase := some .raiseShoes }
    cabTimer := .running 0 }

/-- WALK is on the waiting list, no generator is coming, and the recall test ends the one hold there is (R82). -/
theorem heldAtLinkLoss_recalled :
    ((State.heldAtLinkLoss.event State.cabLinkEnds).motions.get .hoist).state = .idle := by decide +kernel

/-- Refutes O59: CAB_LINK_PERIOD_END leaves HOIST IDLE, not TRIPPED. The statement asks for no lawful motion records
(`State.MotionsLawful`), under which no TRIPPED motion has a hold. -/
theorem not_cabLinkIsWatched : ¬ Obligations.CabLinkIsWatched := by
  rintro ⟨-, ends⟩
  obtain ⟨t, taken, -, -, trips, -⟩ := ends State.heldAtLinkLoss 0 ⟨rfl, rfl⟩ reset_classesLegal rfl
    (by decide +kernel) (fun m => by cases m <;> decide +kernel)
  obtain rfl := Host.Outcome.next.inj taken
  have tripped := (trips .hoist).1
  rw [heldAtLinkLoss_recalled] at tripped
  cases tripped

end Sys2Proof.Machine
end

section
/-! SUPPORT. A dig motion without a demand through the completion of a change (06 R95, R99, R100), and DEMAND with direction NONE and
STOP ALL, which leave one so (R88, R107). -/

namespace Sys2Proof.Machine

/-! ### A motion without a demand -/

/-- Outside ACQUIRING and READY, with neither a demand nor a permit. -/
structure MotionRec.Rests (r : MotionRec) : Prop where
  notAcquiring : r.state ≠ .acquiring
  notReady : r.state ≠ .ready
  demand : r.demand = none
  permit : r.permit = none

theorem MotionRec.Rests.of_state {r r' : MotionRec} (h : r.Rests) (state : r'.state = r.state ∨ r'.state = .idle)
    (demand : r'.demand = none) (permit : r'.permit = none) : r'.Rests := by
  rcases state with e | e
  · exact ⟨by rw [e]; exact h.notAcquiring, by rw [e]; exact h.notReady, demand, permit⟩
  · exact ⟨by rw [e]; decide, by rw [e]; decide, demand, permit⟩

theorem MotionRec.Follow.complement {shows : Bool} {r r' : MotionRec} (change : r.Follow shows r') :
    r'.complement = r.complement := by
  cases change <;> rfl

/-- What follows a motion outside ACQUIRING and READY leaves it its state, or makes it IDLE (R91, R100). -/
theorem MotionRec.Follow.state_of_rest {shows : Bool} {r r' : MotionRec} (change : r.Follow shows r')
    (notAcquiring : r.state ≠ .acquiring) (notReady : r.state ≠ .ready) : r'.state = r.state ∨ r'.state = .idle := by
  cases change with
  | lease leased => exact .inl (MotionState.byLease_resting notAcquiring notReady leased)
  | idled => exact .inr rfl
  | _ => exact .inl rfl

theorem MotionRec.Rests.follow {shows : Bool} {r r' : MotionRec} (h : r.Rests) (change : r.Follow shows r') : r'.Rests := by
  refine h.of_state (change.state_of_rest h.notAcquiring h.notReady) ?_ ?_
  · cases change <;> exact h.demand
  · cases change with
    | composed p q permits =>
      exact Option.not_isSome_iff_eq_none.1 fun some => h.notReady (permits some).1
    | _ => exact h.permit

theorem MotionRec.unlocked_state (r : MotionRec) : r.unlocked.state = r.state ∨ r.unlocked.state = .idle := by
  unfold MotionRec.unlocked
  split
  exacts [.inr rfl, .inl rfl]

theorem MotionRec.Rests.unlocked {r : MotionRec} (h : r.Rests) : r.unlocked.Rests := by
  refine h.of_state r.unlocked_state ?_ ?_ <;> unfold MotionRec.unlocked <;> split
  exacts [h.demand, h.demand, h.permit, h.permit]

theorem MotionRec.tripped_rests (r : MotionRec) (k : Constants) (c : Cause) : (r.tripped k c).Rests :=
  ⟨nofun, nofun, rfl, rfl⟩

theorem MotionRec.Rests.stoppedBy {r : MotionRec} (h : r.Rests) (c : Cause) : (r.stoppedBy c).Rests := by
  unfold MotionRec.stoppedBy
  split
  exacts [h, ⟨nofun, nofun, rfl, rfl⟩]

/-- A motion without a demand has none after the completion, whatever is raised in it. -/
theorem State.settle_rests {u : State} (mains : u.OnMains) (s0 : State) {m : Dig} (rests : (u.motions.get m).Rests) :
    ((State.settle s0 u).motions.get m).Rests :=
  State.settle_motion mains s0 m (fun r k c _ => r.tripped_rests k c) (fun _ c h => h.stoppedBy c)
    (fun _ _ h change => h.follow change) (fun _ h => h.unlocked) rests

theorem MotionRec.Lawful.toRests {r : MotionRec} (h : r.Lawful) (notAcquiring : r.state ≠ .acquiring)
    (notReady : r.state ≠ .ready) : r.Rests :=
  have ⟨demand, permit, _⟩ := h.rests notAcquiring notReady
  ⟨notAcquiring, notReady, demand, permit⟩

/-! ### DEMAND with direction NONE (R88, R99) -/

theorem State.answered_motions (t : Taken) (q : Spec) (f : Frame) (after : AfterSent) :
    (t.answered q f after).motions = t.state.motions := rfl

theorem MotionRec.demandNone_waiting {r : MotionRec} (waits : r.state = .acquiring ∨ r.state = .ready) (c : Complement) :
    r.demandNone c = r.released c := by
  unfold MotionRec.demandNone
  rcases waits with e | e <;> rw [e]

/-- A motion that has been let go, to RELEASING or IDLE, with its complement recorded (R99). -/
structure MotionRec.LetGo (r : MotionRec) (c : Complement) : Prop extends r.Rests where
  state : r.state = .releasing ∨ r.state = .idle
  complement : r.complement = c

theorem MotionRec.released_letGo (r : MotionRec) (c : Complement) : (r.released c).LetGo c :=
  ⟨⟨nofun, nofun, rfl, rfl⟩, .inl rfl, rfl⟩

theorem MotionRec.LetGo.follow {shows : Bool} {r r' : MotionRec} {c : Complement} (h : r.LetGo c)
    (change : r.Follow shows r') : r'.LetGo c := by
  refine ⟨h.toRests.follow change, ?_, change.complement.trans h.complement⟩
  rcases change.state_of_rest h.notAcquiring h.notReady with e | e
  · rw [e]
    exact h.state
  · exact .inr e

theorem MotionRec.LetGo.unlocked {r : MotionRec} {c : Complement} (h : r.LetGo c) : r.unlocked.LetGo c := by
  unfold MotionRec.unlocked
  rw [if_neg (by rcases h.state with e | e <;> rw [e] <;> decide)]
  exact h

section Requests

variable {s : State} {m : Dig} {c : Complement}

/-- A DEMAND with direction NONE to a motion with a demand releases it, and changes no other record. -/
theorem State.demandTaken_none (waits : (s.motions.get m).state = .acquiring ∨ (s.motions.get m).state = .ready)
    (demanded : (s.motions.get m).demand.isSome = true) :
    s.demandTaken (m, none, c) = (s.onMotion m fun r => r.demandNone c).done := by
  have untripped : (s.motions.get m).state ≠ .tripped := by rcases waits with e | e <;> rw [e] <;> decide
  have unlocked : (s.motions.get m).state ≠ .locked := by rcases waits with e | e <;> rw [e] <;> decide
  have fresh : (s.motions.get m).repeats none c = false := by
    unfold MotionRec.repeats
    rw [decide_eq_false (Option.isSome_iff_ne_none.1 demanded), Bool.false_and]
  unfold State.demandTaken
  dsimp only
  rw [if_neg untripped, if_neg unlocked, if_neg (Bool.eq_false_iff.1 fresh)]
  rfl

theorem exec_stopAll {f : Frame} (mains : s.OnMains) (awaits : s.Awaits f.port) (fields : f.fields = []) :
    exec (.stopAll f) s = .next (State.settle s
      (((s.atRequest f.port).onMotions MotionRec.stopAll).haltWalk.done.answered stopAllSpec f .nothing)) := by
  have allowed : stopAllSpec.allows f.port = true := by cases f.port <;> rfl
  exact congrArg Host.Outcome.next (request_onMains (q := stopAllSpec) (parse := parseNothing) (x := ())
    (act := fun _ t => (t.onMotions MotionRec.stopAll).haltWalk.done) mains awaits allowed (by rw [fields]; rfl) rfl (.inl rfl))

theorem MotionRec.Lawful.stopAll_rests {r : MotionRec} (h : r.Lawful) : r.stopAll.Rests := by
  unfold MotionRec.stopAll
  split
  · exact (r.released_letGo _).toRests
  · exact (r.released_letGo _).toRests
  all_goals
    next e => exact h.toRests (by rw [e]; decide) (by rw [e]; decide)

end Requests

/-- Settles O37: with every condition at its truth a DEMAND NONE is completed by followers alone, which keep the motion let go; and
after STOP ALL neither a raise nor a follower gives a motion a demand. -/
theorem demandNoneAndStopAllRelease : Obligations.DemandNoneAndStopAllRelease := by
  refine ⟨fun s f m c takes follow _ parsed waits demanded => ?_, fun s f mains awaits lawful fields => ?_⟩
  · have arrives := s.atRequest_arrives f.port
    have taken := exec_demand takes parsed
    rw [← arrives.motions] at waits demanded
    rw [State.demandTaken_none (c := c) waits demanded] at taken
    let own := (s.atRequest f.port).onMotion m fun r => r.demandNone c
    let u := own.done.answered demandSpec f .nothing
    have same : s.SameButPorts u :=
      arrives.same.trans (((s.atRequest f.port).onMotion_same _ _).butPorts.trans (State.answer_butPorts _ _ _))
    have standing (g : Fin 12) : (s.gens.get g).Standing (u.gens.get g) := by
      rw [show u.gens = s.gens from arrives.gens]
      exact .refl _
    have followThere : u.ConditionsFollow := follow.kept ((s.atRequest_truth f.port).trans (.of_alarms rfl)) same standing
    have record : u.motions.get m = ((s.atRequest f.port).motions.get m).released c := by
      show own.motions.get m = _
      rw [State.onMotion_get, if_pos rfl, MotionRec.demandNone_waiting waits]
    have letGo : ((State.settle s u).motions.get m).LetGo c :=
      (followThere.evolves (same.onMains takes.1) s).motion m (P := fun r => r.LetGo c)
        (fun _ _ h change => h.follow change) (fun _ h => h.unlocked) (by rw [record]; exact MotionRec.released_letGo _ c)
    have answers := State.settle_answers s own.done demandSpec f .nothing
    rw [takes.2.1] at answers
    exact ⟨_, taken, answers, letGo.demand, letGo.complement, letGo.permit, letGo.state, same.settled s⟩
  · have arrives := s.atRequest_arrives f.port
    let own := ((s.atRequest f.port).onMotions MotionRec.stopAll).haltWalk
    let u := own.done.answered stopAllSpec f .nothing
    have stopped : (s.atRequest f.port).SameRecords own :=
      ((s.atRequest f.port).onMotions_same _).trans (State.haltWalk_same _)
    have same : s.SameButPorts u := arrives.same.trans (stopped.butPorts.trans (State.answer_butPorts _ _ _))
    have record (m : Dig) : u.motions.get m = (s.motions.get m).stopAll := by
      rw [← arrives.motions]
      exact PerDig.get_map _ _ m
    refine ⟨_, exec_stopAll mains awaits fields, State.settle_answers s own.done stopAllSpec f .nothing, same.settled s,
      fun m => ?_⟩
    have rests : ((State.settle s u).motions.get m).Rests :=
      State.settle_rests (same.onMains mains) s (by rw [record]; exact (lawful m).stopAll_rests)
    exact ⟨rests.demand, rests.permit, rests.notAcquiring, rests.notReady⟩

end Sys2Proof.Machine
end

section
/-! SUPPORT. ARM of one motion (06 R105) and the requests that are refused (10 R165): a refusal leaves every record but the port's, and
an armed motion stays IDLE through the completion of the change. -/

namespace Sys2Proof.Machine

section Arm

variable {s : State} {f : Frame} {m : Dig}

/-- A request that is refused is answered so, and changes nothing of its own. -/
theorem State.refused_settles (s : State) (f : Frame) (q : Spec) (r : Reason) :
    (State.settle s (((s.atRequest f.port).refuses r).answered q f .nothing)).Answers f.port f.tag q.code .refused r ∧
      s.SameButPorts (State.settle s (((s.atRequest f.port).refuses r).answered q f .nothing)) :=
  ⟨State.settle_answers s _ q f .nothing,
    ((s.atRequest_arrives f.port).same.trans (State.answer_butPorts _ _ _)).settled s⟩

theorem State.demandTaken_tripped {d : Option Dir} {c : Complement} (tripped : (s.motions.get m).state = .tripped) :
    s.demandTaken (m, d, c) = s.refuses .tripped := if_pos tripped

theorem State.demandTaken_locked {d : Option Dir} {c : Complement} (locked : (s.motions.get m).state = .locked) :
    s.demandTaken (m, d, c) = s.refuses .locked :=
  (if_neg (by rw [locked]; decide)).trans (if_pos locked)

theorem exec_arm {x : Option Dig} (takes : s.Takes f .cab) (parsed : parseArm s f.fields = .ok x) : exec (.arm f) s =
    .next (State.settle s (((s.atRequest f.port).armTaken x).answered armSpec f .nothing)) := by
  obtain ⟨mains, port, awaits⟩ := takes
  rw [← port] at awaits
  exact congrArg Host.Outcome.next (request_onMains (q := armSpec) (parse := parseArm) (x := x)
    (act := fun x t => t.armTaken x) mains awaits (by rw [port]; rfl) parsed rfl (.inl rfl))

/-! ### The tests of ARM, in their order (R105) -/

theorem State.armFails_untripped (untripped : (s.motions.get m).state ≠ .tripped) : s.armFails m = some .state :=
  if_pos untripped

theorem State.armFails_walking (tripped : (s.motions.get m).state = .tripped) (walking : s.walk.state ≠ .idle) :
    s.armFails m = some .locked := (if_neg (not_not_intro tripped)).trans (if_pos walking)

theorem State.armFails_condition (tripped : (s.motions.get m).state = .tripped) (idle : s.walk.state = .idle)
    (effect : s.tripInForce = true ∨ s.stopInForce m.motion = true) : s.armFails m = some .condition :=
  ((if_neg (not_not_intro tripped)).trans (if_neg (not_not_intro idle))).trans (if_pos (Bool.or_eq_true_iff.2 effect))

theorem State.armFails_none (tripped : (s.motions.get m).state = .tripped) (idle : s.walk.state = .idle)
    (noTrip : s.tripInForce = false) (noStop : s.stopInForce m.motion = false) (set : (s.motions.get m).brake.state = .set)
    (held : s.held m.motion = 0) : s.armFails m = none := by
  have noEffect : ¬ (s.tripInForce || s.stopInForce m.motion) = true := by
    rw [noTrip, noStop]
    decide
  have atRest : ¬ ((s.motions.get m).brake.state ≠ .set ∨ 0 < s.held m.motion) := by
    rw [set, held]
    decide
  exact (((if_neg (not_not_intro tripped)).trans (if_neg (not_not_intro idle))).trans (if_neg noEffect)).trans (if_neg atRest)

theorem State.armTaken_refused {r : Reason} (fails : s.armFails m = some r) : s.armTaken (some m) = s.refuses r := by
  unfold State.armTaken
  simp only [fails]

theorem State.armTaken_armed (passes : s.armFails m = none) : s.armTaken (some m) = (s.onMotion m MotionRec.armed).done := by
  unfold State.armTaken
  simp only [passes]

/-! ### An armed motion through the completion -/

/-- IDLE with no trip cause and a given complement (R105). -/
structure MotionRec.Armed (r : MotionRec) (c : Complement) : Prop where
  idle : r.state = .idle
  tripCause : r.tripCause = none
  complement : r.complement = c

theorem MotionRec.Follow.tripCause {shows : Bool} {r r' : MotionRec} (change : r.Follow shows r') :
    r'.tripCause = r.tripCause := by
  cases change <;> rfl

theorem MotionRec.Armed.follow {shows : Bool} {r r' : MotionRec} {c : Complement} (h : r.Armed c)
    (change : r.Follow shows r') : r'.Armed c := by
  refine ⟨?_, change.tripCause.trans h.tripCause, change.complement.trans h.complement⟩
  rcases change.state_of_rest (by rw [h.idle]; decide) (by rw [h.idle]; decide) with e | e
  exacts [e.trans h.idle, e]

theorem MotionRec.Armed.unlocked {r : MotionRec} {c : Complement} (h : r.Armed c) : r.unlocked.Armed c := by
  unfold MotionRec.unlocked
  rw [if_neg (by rw [h.idle]; decide)]
  exact h

theorem State.Arrives.held {t : State} (h : s.Arrives t) (n : Motion) : t.held n = s.held n := by
  unfold State.held State.inHoldup
  rw [h.same.supply, h.gens]

end Arm

/-- Settles O38: the refusals are the tests of DEMAND and of ARM in their order; an armed motion is IDLE, and with every condition at
its truth no raise trips it again in the same change. -/
theorem trippedMotionsWaitForArm : Obligations.TrippedMotionsWaitForArm := by
  refine ⟨fun s f m d c takes parsed => ?_, fun s f m takes parsed => ?_⟩
  · have taken := exec_demand takes parsed
    have motions := (s.atRequest_arrives f.port).motions
    have refused (r : Reason) := s.refused_settles f demandSpec r
    rw [takes.2.1] at taken motions refused
    refine ⟨fun tripped => ?_, fun locked => ?_⟩
    · rw [State.demandTaken_tripped (by rw [motions]; exact tripped)] at taken
      exact ⟨_, taken, refused .tripped⟩
    · rw [State.demandTaken_locked (by rw [motions]; exact locked)] at taken
      exact ⟨_, taken, refused .locked⟩
  · have taken := exec_arm takes parsed
    have arrives := s.atRequest_arrives f.port
    have refused (r : Reason) := s.refused_settles f armSpec r
    have truth := s.atRequest_truth f.port
    rw [takes.2.1] at taken refused arrives truth
    rw [← arrives.motions, ← arrives.walk]
    have refuse {r : Reason} (fails : (s.atRequest .cab).armFails m = some r) :
        ∃ t, exec (.arm f) s = .next t ∧ t.Answers .cab f.tag 5 .refused r ∧ s.SameButPorts t := by
      rw [State.armTaken_refused fails] at taken
      exact ⟨_, taken, refused r⟩
    refine ⟨fun follow _ tripped idle noTrip noStop set _ held => ?_, fun untripped => refuse (State.armFails_untripped untripped),
      fun tripped walking => refuse (State.armFails_walking tripped walking),
      fun tripped idle effect => refuse (State.armFails_condition tripped idle effect)⟩
    rw [State.armTaken_armed (State.armFails_none tripped idle noTrip noStop set ((arrives.held _).trans held))] at taken
    let own := (s.atRequest .cab).onMotion m MotionRec.armed
    let u := own.done.answered armSpec f .nothing
    have same : s.SameButPorts u :=
      arrives.same.trans (((s.atRequest .cab).onMotion_same _ _).butPorts.trans (State.answer_butPorts _ _ _))
    have standing (g : Fin 12) : (s.gens.get g).Standing (u.gens.get g) := by
      rw [show u.gens = s.gens from arrives.gens]
      exact .refl _
    have followThere : u.ConditionsFollow := follow.kept (truth.trans (.of_alarms rfl)) same standing
    have record : u.motions.get m = ((s.atRequest .cab).motions.get m).armed := (State.onMotion_get _ m _ m).trans (if_pos rfl)
    have armed : ((State.settle s u).motions.get m).Armed ((s.atRequest .cab).motions.get m).complement :=
      (followThere.evolves (same.onMains takes.1) s).motion m (P := fun r => r.Armed _) (fun _ _ h change => h.follow change)
        (fun _ h => h.unlocked) (by rw [record]; exact ⟨rfl, rfl, rfl⟩)
    have answers := State.settle_answers s own.done armSpec f .nothing
    rw [takes.2.1] at answers
    exact ⟨_, taken, answers, armed.idle, armed.tripCause, armed.complement, same.settled s⟩

end Sys2Proof.Machine
end

section
/-! SUPPORT. A motion or a walk whose state does not let it take generators, through the completion of a change (05 R71–R82): the
followers leave its state so, the passes give it nothing, and the arbiter withdraws its claims and grants it nothing. -/

namespace Sys2Proof.Machine

/-! ### The states that take generators (R72, R112) -/

section Takes

variable {s t : State}

theorem State.takes_dig (s : State) (m : Dig) :
    s.takes m.motion = decide ((s.motions.get m).state = .acquiring ∨ (s.motions.get m).state = .ready) := by
  unfold State.takes
  rw [Motion.dig?_motion]

theorem State.takes_dig_eq_false {m : Dig} : s.takes m.motion = false ↔
    (s.motions.get m).state ≠ .acquiring ∧ (s.motions.get m).state ≠ .ready := by
  rw [State.takes_dig, decide_eq_false_iff_not, not_or]

theorem State.takes_walk_eq_false : s.takes .walk = false ↔ ¬ s.walk.Walks := by
  rw [show s.takes .walk = decide ((s.walk.state = .preparing ∨ s.walk.state = .stepping) ∧ s.walk.ending = none) from rfl,
    decide_eq_false_iff_not, and_comm]
  rfl

/-- A motion is one of the three dig motions, or the walk. -/
theorem motion_dig_or_walk (x : Motion) : (∃ m : Dig, m.motion = x) ∨ x = .walk := by
  cases x
  exacts [.inl ⟨.hoist, rfl⟩, .inl ⟨.drag, rfl⟩, .inl ⟨.swing, rfl⟩, .inr rfl]

theorem WalkRec.released_walks {w : WalkRec} {k : Constants} {p : Phase} (h : (w.released k p).Walks) : w.Walks := by
  unfold WalkRec.released at h
  dsimp only at h
  split at h
  · next e => exact ⟨h.1, .inl e⟩
  · next e =>
    split at h
    exacts [⟨h.1, .inr e⟩, ⟨h.1, .inr e⟩]
  · exact h
  · exact h

/-- What follows the walk record starts no walk. -/
theorem WalkRec.Follow.walks {shows : Bool} {w w' : WalkRec} (change : w.Follow shows w') (h : w'.Walks) : w.Walks := by
  cases change with
  | released k p => exact WalkRec.released_walks h
  | _ => exact h

/-- The followers let no motion take generators that could not before. -/
theorem State.Brings.takes (h : s.Evolves t) {x : Motion} (no : s.takes x = false) : t.takes x = false := by
  rcases motion_dig_or_walk x with ⟨m, rfl⟩ | rfl
  · rw [State.takes_dig_eq_false] at no ⊢
    refine h.motion m (P := fun r => r.state ≠ .acquiring ∧ r.state ≠ .ready) (fun r r' rest change => ?_)
      (fun r rest => ?_) no
    · rcases change.state_of_rest rest.1 rest.2 with e | e <;> rw [e]
      exacts [rest, by decide]
    · rcases r.unlocked_state with e | e <;> rw [e]
      exacts [rest, by decide]
  · rw [State.takes_walk_eq_false] at no ⊢
    refine h.walk (P := fun w => ¬ w.Walks) (fun w w' no change walks => no (change.walks walks)) (fun w o _ _ _ walks => ?_) no
    rcases walks.2 with e | e <;> cases e

theorem State.takes_of_same (motions : t.motions = s.motions) (walk : t.walk = s.walk) (x : Motion) :
    t.takes x = s.takes x := by
  unfold State.takes
  rw [motions, walk]

end Takes

/-! ### The passes give no motion a generator (R80) -/

/-- No generator is granted to a motion, and none is claimed by one, that was not before. -/
def State.GivesNothing (s t : State) : Prop := ∀ g x,
  ((s.gens.get g).isGrantedTo x = false → (t.gens.get g).isGrantedTo x = false) ∧
    ((s.gens.get g).isClaimOf x = false → (t.gens.get g).isClaimOf x = false)

section GivesNothing

variable {s t u : State}

theorem State.GivesNothing.refl (s : State) : s.GivesNothing s := fun _ _ => ⟨id, id⟩

theorem State.GivesNothing.of_gens (gens : t.gens = s.gens) : s.GivesNothing t := fun _ _ => by
  rw [gens]
  exact ⟨id, id⟩

theorem State.GivesNothing.trans (h : s.GivesNothing t) (g : t.GivesNothing u) : s.GivesNothing u := fun i x =>
  ⟨(g i x).1 ∘ (h i x).1, (g i x).2 ∘ (h i x).2⟩

/-- What other records changed before does not matter. -/
theorem State.GivesNothing.after (h : t.GivesNothing u) (gens : t.gens = s.gens) : s.GivesNothing u :=
  (State.GivesNothing.of_gens gens).trans h

theorem State.GivesNothing.ite {p : Prop} [Decidable p] (ht : s.GivesNothing t) (hu : s.GivesNothing u) :
    s.GivesNothing (if p then t else u) := by
  split
  exacts [ht, hu]

theorem State.GivesNothing.foldl {α : Type} {f : State → α → State} (h : ∀ (s : State) (a : α), s.GivesNothing (f s a))
    (l : List α) (s : State) : s.GivesNothing (l.foldl f s) := by
  induction l generalizing s with
  | nil => exact .refl s
  | cons a l ih => exact (h s a).trans (ih (f s a))

/-- What a motion is granted, once returned, is neither granted nor claimed (R80). -/
theorem State.returnAll_get (s : State) (n : Motion) (g : Fin 12) : (s.returnAll n).gens.get g =
    if (s.gens.get g).isGrantedTo n then returned s.k (s.proofs g) s.now (s.gens.get g) else s.gens.get g := by
  unfold State.returnAll
  rw [State.onGens_get]

theorem State.returnAll_gives (s : State) (n : Motion) : s.GivesNothing (s.returnAll n) := by
  intro g x
  rw [State.returnAll_get]
  split
  · next granted =>
    obtain ⟨ungranted, unclaimed⟩ := returned_lease s.k (s.proofs g) s.now x ((Gen.isGrantedTo_iff _ _).1 granted)
    exact ⟨fun _ => ungranted, fun _ => unclaimed⟩
  · exact ⟨id, id⟩

theorem State.returnAll_ungranted (s : State) (n : Motion) (g : Fin 12) :
    ((s.returnAll n).gens.get g).isGrantedTo n = false := by
  rw [State.returnAll_get]
  split
  · next granted => exact (returned_lease _ _ _ n ((Gen.isGrantedTo_iff _ _).1 granted)).1
  · next ungranted => exact Bool.eq_false_iff.2 ungranted

theorem State.clearCondition_gives (s : State) (key : AlarmKey) : s.GivesNothing (s.clearCondition key) :=
  State.GivesNothing.ite (.of_gens rfl) (.refl s)

theorem State.endHold_gives (s : State) (m : Dig) : s.GivesNothing (s.endHold m) :=
  (s.returnAll_gives _).trans (.of_gens rfl)

theorem State.proofPass_gives (s : State) (m : Dig) : s.GivesNothing (s.proofPass m) := by
  unfold State.proofPass
  dsimp only
  split
  · exact (State.GivesNothing.refl s).ite ((State.clearCondition_gives _ _).after rfl)
  · exact State.GivesNothing.ite (.of_gens rfl) (.refl s)
  · exact .refl s
  · exact .refl s

theorem State.restPass_gives (s : State) (m : Dig) : s.GivesNothing (s.restPass m) := by
  have hold : s.GivesNothing (s.beginHold m) :=
    State.GivesNothing.ite (.of_gens rfl) ((s.endHold_gives m).ite (.of_gens rfl))
  exact State.GivesNothing.ite
    (State.GivesNothing.ite (.of_gens rfl) (hold.ite ((s.returnAll_gives _).ite (.refl s)))) (.refl s)

theorem State.motionPass_gives (s : State) (m : Dig) : s.GivesNothing (s.motionPass m) :=
  ((State.proofPass_gives _ m).trans (State.restPass_gives _ m)).after rfl

theorem State.walkProofPass_gives (s : State) : s.GivesNothing s.walkProofPass := by
  unfold State.walkProofPass
  split
  · exact (State.GivesNothing.refl s).ite ((State.clearCondition_gives _ _).after rfl)
  · exact State.GivesNothing.ite (.of_gens rfl) (.refl s)
  · exact .refl s
  · exact .refl s

theorem State.walkRestPass_gives (s : State) : s.GivesNothing s.walkRestPass := by
  unfold State.walkRestPass
  dsimp only
  refine State.GivesNothing.ite ?_ (.refl s)
  split
  · exact (s.returnAll_gives .walk).trans (.of_gens rfl)
  · refine (s.returnAll_gives _).ite (State.GivesNothing.ite ?_ (State.GivesNothing.ite (.of_gens rfl) (.refl s)))
    split
    exacts [.refl s, .of_gens rfl]

theorem State.walkPass_gives (s : State) : s.GivesNothing s.walkPass :=
  ((State.walkProofPass_gives _).trans (State.walkRestPass_gives _)).after rfl

theorem State.passes_gives (s : State) : s.GivesNothing s.passes :=
  (((s.motionPass_gives _).trans (State.motionPass_gives _ _)).trans (State.motionPass_gives _ _)).trans
    (State.walkPass_gives _)

theorem State.compose_gives (s : State) : s.GivesNothing s.compose := .of_gens rfl

theorem State.starvedSync_gives (s : State) : s.GivesNothing s.starvedSync :=
  .foldl (fun s _ => (State.GivesNothing.refl s).ite (s.clearCondition_gives _)) _ s

end GivesNothing

/-! ### The arbiter and a motion that takes no generators (R72–R82) -/

section Arbiter

variable {s t : State} {x : Motion}

/-- A motion whose state takes no generators, and which is granted none. -/
structure State.Bare (s : State) (x : Motion) : Prop where
  takes : s.takes x = false
  ungranted : ∀ g, (s.gens.get g).isGrantedTo x = false

/-- It has no claim and no entry either. -/
structure State.Unheld (s : State) (x : Motion) : Prop extends s.Bare x where
  unclaimed : ∀ g, (s.gens.get g).isClaimOf x = false
  noEntry : ∀ e ∈ s.arb.list, e.motion ≠ x

theorem State.Bare.wants (h : s.Bare x) : s.wants x = false := by
  unfold State.wants
  rw [h.takes, Bool.false_and]

theorem State.Bare.kept (h : s.Bare x) (motions : t.motions = s.motions) (walk : t.walk = s.walk)
    (ungranted : ∀ g, (t.gens.get g).isGrantedTo x = false) : t.Bare x :=
  ⟨(State.takes_of_same motions walk x).trans h.takes, ungranted⟩

theorem State.Bare.evolves (h : s.Bare x) (evolves : s.Evolves t) (gives : s.GivesNothing t) : t.Bare x :=
  ⟨evolves.takes h.takes, fun g => (gives g x).1 (h.ungranted g)⟩

/-- When the claims of one motion follow, a motion that takes none is granted nothing, and has no claim if it had none or is the
one (R74). -/
theorem State.Bare.claimsFollowOf (h : s.Bare x) (n : Motion) : (s.claimsFollowOf n).Bare x ∧
    (n = x ∨ (∀ g, (s.gens.get g).isClaimOf x = false) → ∀ g, ((s.claimsFollowOf n).gens.get g).isClaimOf x = false) := by
  unfold State.claimsFollowOf
  split
  · refine ⟨h.kept rfl rfl fun g => ?_, fun unclaimed g => ?_⟩
    all_goals
      unfold State.withdrawAll
      rw [State.onGens_get]
    · exact (withdrawn_granted n x _).trans (h.ungranted g)
    · exact withdrawn_unclaimed n x (unclaimed.imp_right fun none => none g)
  · next takes =>
    have other : n ≠ x := by
      rintro rfl
      exact takes (by rw [h.takes]; rfl)
    split
    · refine ⟨h.kept rfl rfl fun g => ?_, fun unclaimed g => ?_⟩
      all_goals
        unfold State.withdrawFailing
        rw [State.onGens_get]
      · exact (withdrawnFailing_granted n x _).trans (h.ungranted g)
      · exact withdrawnFailing_unclaimed n x (unclaimed.resolve_left other g)
    · exact ⟨h, fun unclaimed => unclaimed.resolve_left other⟩

theorem State.Bare.claimsFollow (h : s.Bare x) :
    s.claimsFollow.Bare x ∧ ∀ g, (s.claimsFollow.gens.get g).isClaimOf x = false := by
  have fold (l : List Motion) : ∀ s : State, s.Bare x → (x ∈ l ∨ ∀ g, (s.gens.get g).isClaimOf x = false) →
      (l.foldl State.claimsFollowOf s).Bare x ∧ ∀ g, ((l.foldl State.claimsFollowOf s).gens.get g).isClaimOf x = false := by
    induction l with
    | nil => exact fun s h none => ⟨h, none.resolve_left nofun⟩
    | cons n l ih =>
      intro s h none
      obtain ⟨bare, unclaimed⟩ := h.claimsFollowOf n
      refine ih _ bare (none.elim (fun mem => ?_) fun already => .inr (unclaimed (.inr already)))
      exact (List.mem_cons.1 mem).elim (fun own => .inr (unclaimed (.inl own.symm))) .inl
  exact fold Motion.all s h (.inl (Motion.mem_all _))

theorem State.Bare.prune (h : s.Bare x) : s.prune.Unheld x := by
  obtain ⟨bare, unclaimed⟩ := h.claimsFollow
  rw [State.prune_eq]
  refine ⟨bare.kept rfl rfl bare.ungranted, unclaimed, fun e mem own => ?_⟩
  obtain ⟨old, kept, rfl⟩ := List.mem_map.1 mem
  have wants := (List.mem_filter.1 kept).2
  rw [show old.motion = x from own, bare.wants] at wants
  cases wants

theorem State.Unheld.joins (h : s.Unheld x) : s.joins.Unheld x := by
  have join (s : State) (h : s.Unheld x) (n : Motion) : (s.joinOf n).Unheld x := by
    unfold State.joinOf
    split
    · next joins =>
      refine ⟨h.toBare.kept rfl rfl h.ungranted, h.unclaimed, List.forall_mem_append.2
        ⟨h.noEntry, List.forall_mem_singleton.2 fun own => ?_⟩⟩
      have wants := (Bool.and_eq_true_iff.1 joins).1
      rw [show n = x from own, h.wants] at wants
      cases wants
    · exact h
  unfold State.joins
  generalize Motion.all = l
  induction l generalizing s with
  | nil => exact h
  | cons n l ih => exact ih (join s h n)

/-- A grant goes to a motion on the list (R77). -/
theorem State.Unheld.grantTo (h : s.Unheld x) {n : Motion} (entered : ∃ e ∈ s.arb.list, e.motion = n)
    (counted : Option Motion) (count : Nat) (i : Fin 12) : (s.grantTo n counted count i).Unheld x := by
  obtain ⟨e, mem, rfl⟩ := entered
  refine State.Bare.prune (h.toBare.kept rfl rfl fun g => ?_)
  show ((s.onGen i _).gens.get g).isGrantedTo x = false
  rw [State.onGen_get]
  split
  · exact (handOver_lease (h.noEntry e mem) _ _ _ (h.ungranted g) (h.unclaimed g)).1
  · exact h.ungranted g

theorem State.Unheld.grantLoop (n : Nat) (h : s.Unheld x) : (State.grantLoop n s).Unheld x := by
  induction n generalizing s with
  | zero => exact h
  | succ n ih =>
    unfold State.grantLoop
    split
    · exact h
    · next t granted =>
      obtain ⟨n, counted, count, i, entered, rfl⟩ := State.grantOne_eq_some granted
      exact ih (h.grantTo entered counted count i)

/-- The end of a hold leaves a motion IDLE, and gives nothing (R100). -/
theorem State.Unheld.endHold (h : s.Unheld x) {m : Dig} (holds : (s.motions.get m).holdStart.isSome = true) :
    (s.endHold m).Unheld x :=
  have gives := s.endHold_gives m
  ⟨h.toBare.evolves (State.endHold_evolves (.inr holds)) gives, fun g => (gives g x).2 (h.unclaimed g), h.noEntry⟩

theorem State.Unheld.recallHolds (n : Nat) (h : s.Unheld x) : (State.recallHolds n s).Unheld x := by
  induction n generalizing s with
  | zero => exact h
  | succ n ih =>
    unfold State.recallHolds
    split
    · exact h
    · next m since chosen =>
      have ended : (s.endHold m).Unheld x := h.endHold (by rw [State.recallNext_eq_some chosen]; rfl)
      dsimp only
      split
      exacts [ended, ih ended]

theorem State.Unheld.arbRun (n : Nat) (h : s.Unheld x) : (State.arbRun n s).Unheld x := by
  induction n generalizing s with
  | zero => exact h
  | succ n ih =>
    unfold State.arbRun
    dsimp only
    split
    · next due =>
      refine ih ?_
      unfold State.recall
      rw [if_pos due]
      exact (h.grantLoop 12).recallHolds 3
    · exact h.grantLoop 12

/-- The arbiter leaves a motion that takes no generators, and is granted none, without a claim and without an entry. -/
theorem State.Bare.arbitrate (h : s.Bare x) (s0 : State) : (State.arbitrate s0 s).Unheld x := by
  have listed := h.prune.joins
  unfold State.arbitrate
  dsimp only
  split
  exacts [State.Bare.prune (listed.arbRun 4).toBare, listed]

end Arbiter

/-! ### The rest of a completion -/

section Completion

variable {u v : State} {x : Motion}

/-- What holds nothing after the first passes holds nothing at the end of the change. -/
theorem State.Bare.holdsNothing (h : v.Bare x) (s0 : State) :
    (State.arbitrate s0 v).passes.starvedSync.compose.proven x = 0 ∧
      (State.arbitrate s0 v).passes.starvedSync.compose.held x = 0 := by
  have unheld := h.arbitrate s0
  have gives : (State.arbitrate s0 v).GivesNothing (State.arbitrate s0 v).passes.starvedSync.compose :=
    ((State.passes_gives _).trans (State.starvedSync_gives _)).trans (State.compose_gives _)
  exact ⟨State.proven_eq_zero fun g => (gives g x).1 (unheld.ungranted g),
    State.held_eq_zero (fun g => (gives g x).1 (unheld.ungranted g)) fun g => (gives g x).2 (unheld.unclaimed g)⟩

end Completion

end Sys2Proof.Machine
end

section
/-! SUPPORT. WALK (07 R114, R115): the checks in their order, what an accepted order makes of the records, and that the completion of
the change leaves the walk PREPARING and the dig motions LOCKED, without a generator (06 R106). -/

namespace Sys2Proof.Machine

section Walk

variable {s : State} {f : Frame} {o : WalkOrder}

theorem exec_walk (takes : s.Takes f .cab) (parsed : parseWalk s f.fields = .ok o) : exec (.walk f) s =
    .next (State.settle s (((s.atRequest f.port).walkTaken o).answered walkSpec f .nothing)) := by
  obtain ⟨mains, port, awaits⟩ := takes
  rw [← port] at awaits
  exact congrArg Host.Outcome.next (request_onMains (q := walkSpec) (parse := parseWalk) (x := o)
    (act := fun o t => t.walkTaken o) mains awaits (by rw [port]; rfl) parsed rfl (.inl rfl))

/-! ### The checks, in their order (R114) -/

/-- One of the six checks answered with reason CONDITION fails. -/
def State.walkBarred (s : State) (o : WalkOrder) : Bool :=
  (s.tripInForce || s.stopInForce .walk) || ((Motion.all.any fun m => !s.stopped m) ||
    (decide (s.motions.swing.brake.state ≠ .set ∨ s.walk.brake.state ≠ .set) ||
      ((!s.referenced .swing || !s.referenced .walk) ||
        (decide (s.k.headingTolerance < swingDistance s.swingAngle o.heading) ||
          decide (s.chans.ch.hoist.position < (s.k.groundedPayout : Int))))))

theorem State.walkBarred_iff : s.walkBarred o = true ↔ s.tripInForce = true ∨ s.stopInForce .walk = true ∨
    (∃ c, (s.chans.ch.get c).quietWindows ≠ 3) ∨ s.motions.swing.brake.state ≠ .set ∨ s.walk.brake.state ≠ .set ∨
      s.chans.ch.swing.refState ≠ .referenced ∨ s.chans.ch.walk.refState ≠ .referenced ∨
        s.k.headingTolerance < swingDistance s.swingAngle o.heading ∨
          s.chans.ch.hoist.position < (s.k.groundedPayout : Int) := by
  have turning : (Motion.all.any fun m => !s.stopped m) = true ↔ ∃ c, (s.chans.ch.get c).quietWindows ≠ 3 := by
    simp [List.any_eq_true, State.stopped, Motion.mem_all]
  have referenced (c : Motion) : (!s.referenced c) = true ↔ (s.chans.ch.get c).refState ≠ .referenced := by
    simp [State.referenced]
  unfold State.walkBarred
  simp only [Bool.or_eq_true, turning, referenced, decide_eq_true_eq, or_assoc]
  rfl

theorem State.walkFails_walking (walking : s.walk.state ≠ .idle) : s.walkFails o = some .state := if_pos walking

theorem Dig.mem_all (m : Dig) : m ∈ Dig.all := by cases m <;> decide

theorem State.walkFails_tripped (idle : s.walk.state = .idle) (tripped : ∃ m, (s.motions.get m).state = .tripped) :
    s.walkFails o = some .tripped := by
  obtain ⟨m, tripped⟩ := tripped
  exact (if_neg (not_not_intro idle)).trans
    (if_pos (List.any_eq_true.2 ⟨m, Dig.mem_all m, decide_eq_true tripped⟩))

theorem State.noneTripped (untripped : ∀ m, (s.motions.get m).state ≠ .tripped) :
    ¬ (Dig.all.any fun m => decide ((s.motions.get m).state = .tripped)) = true := by
  rw [List.any_eq_true]
  rintro ⟨m, -, tripped⟩
  exact untripped m (of_decide_eq_true tripped)

theorem State.walkFails_busy (idle : s.walk.state = .idle) (untripped : ∀ m, (s.motions.get m).state ≠ .tripped)
    (busy : ∃ m, (s.motions.get m).state ≠ .idle ∧ (s.motions.get m).state ≠ .releasing) :
    s.walkFails o = some .state := by
  obtain ⟨m, notIdle, notReleasing⟩ := busy
  refine ((if_neg (not_not_intro idle)).trans (if_neg (State.noneTripped untripped))).trans
    (if_pos (List.any_eq_true.2 ⟨m, Dig.mem_all m, ?_⟩))
  rw [decide_eq_false (not_or.2 ⟨notIdle, notReleasing⟩)]
  rfl

/-- With the walk IDLE and every dig motion IDLE or RELEASING, the checks answered with CONDITION decide. -/
theorem State.walkFails_of_rest (idle : s.walk.state = .idle)
    (rest : ∀ m, (s.motions.get m).state = .idle ∨ (s.motions.get m).state = .releasing) :
    s.walkFails o = if s.walkBarred o then some .condition else none := by
  have untripped := State.noneTripped fun m => (by rcases rest m with e | e <;> rw [e] <;> decide)
  have quiet : ¬ (Dig.all.any fun m => !decide ((s.motions.get m).state = .idle ∨ (s.motions.get m).state = .releasing)) =
      true := by
    rw [List.any_eq_true]
    rintro ⟨m, -, busy⟩
    rw [decide_eq_true (rest m)] at busy
    cases busy
  unfold State.walkFails State.walkBarred
  rw [if_neg (not_not_intro idle), if_neg untripped, if_neg quiet]
  simp only [Bool.or_eq_true (_ || _), Bool.or_eq_true (List.any _ _), Bool.or_eq_true (decide _), decide_eq_true_eq, ite_or]

theorem State.walkTaken_refused {r : Reason} (fails : s.walkFails o = some r) : s.walkTaken o = s.refuses r := by
  unfold State.walkTaken
  rw [fails]

theorem State.walkTaken_accepted (passes : s.walkFails o = none) : s.walkTaken o = (s.walkAccepted o).accepted := by
  unfold State.walkTaken
  rw [passes]

/-! ### An accepted order (R106, R115) -/

/-- PREPARING by an order, and no step of the walk begun. -/
structure WalkRec.Prepares (w : WalkRec) (o : WalkOrder) (last : Option WalkOutcome) : Prop where
  state : w.state = .preparing
  ending : w.ending = none
  direction : w.direction = o.direction
  heading : w.heading = some o.heading
  stepsRequested : w.stepsRequested = some o.steps
  stepsDone : w.stepsDone = 0
  haltRequested : w.haltRequested = false
  siteMarked : w.siteMarked = false
  lifted : w.lifted = false
  setDownSeen : w.setDownSeen = false
  liftOff : w.liftOff = none
  setDown : w.setDown = none
  interruptCause : w.interruptCause = none
  lastOutcome : w.lastOutcome = last

/-- Until its brake proof shows released, what follows the walk record leaves it PREPARING (R116). -/
theorem WalkRec.Prepares.follow {w w' : WalkRec} {last : Option WalkOutcome} (h : w.Prepares o last)
    (change : w.Follow false w') : w'.Prepares o last := by
  cases change with
  | released k p releasing shown => cases shown
  | _ => exact ⟨h.state, h.ending, h.direction, h.heading, h.stepsRequested, h.stepsDone, h.haltRequested, h.siteMarked,
      h.lifted, h.setDownSeen, h.liftOff, h.setDown, h.interruptCause, h.lastOutcome⟩

/-- LOCKED, and with no hold that a recall could end. -/
def MotionRec.Locked (r : MotionRec) : Prop := r.state = .locked ∧ r.holdStart = none

theorem MotionRec.Locked.follow {shows : Bool} {r r' : MotionRec} (h : r.Locked) (change : r.Follow shows r') : r'.Locked := by
  obtain ⟨locked, noHold⟩ := h
  cases change with
  | lease leased =>
    exact ⟨(MotionState.byLease_resting (by rw [locked]; decide) (by rw [locked]; decide) leased).trans locked, noHold⟩
  | holdBegins since left releasing =>
    rw [locked] at releasing
    cases releasing
  | idled ends =>
    rw [locked, noHold] at ends
    rcases ends with e | e <;> cases e
  | _ => exact ⟨locked, noHold⟩

/-- A walk without an ending does not finish, and unlocks no motion. -/
theorem Following.lockedFor {i : Inputs} {m : Dig} (hidden : i.brakeProof.get .walk = false) {last : Option WalkOutcome}
    {x y : MotionRec × WalkRec} (h : x.1.Locked ∧ x.2.Prepares o last) (change : Following i m x y) :
    y.1.Locked ∧ y.2.Prepares o last := by
  obtain ⟨locked, prepares⟩ := h
  cases change with
  | motion w change => exact ⟨locked.follow change, prepares⟩
  | walk r change =>
    rw [hidden] at change
    exact ⟨locked, prepares.follow change⟩
  | finish r w o ending =>
    have endless : w.ending = none := prepares.ending
    rw [endless] at ending
    cases ending

theorem State.lockDigs_get (s : State) (m : Dig) : s.lockDigs.motions.get m = (s.motions.get m).locked := PerDig.get_map _ _ m

theorem State.lockDigs_ungranted (s : State) (m : Dig) (g : Fin 12) : (s.lockDigs.gens.get g).isGrantedTo m.motion = false := by
  show ((((s.returnAll .hoist).returnAll .drag).returnAll .swing).gens.get g).isGrantedTo m.motion = false
  cases m with
  | hoist =>
    have gives := (State.returnAll_gives (s.returnAll .hoist) .drag).trans (State.returnAll_gives _ .swing)
    exact (gives g .hoist).1 (s.returnAll_ungranted .hoist g)
  | drag => exact ((State.returnAll_gives _ .swing) g .drag).1 (State.returnAll_ungranted _ .drag g)
  | swing => exact State.returnAll_ungranted _ .swing g

theorem State.lockDigs_carries (s : State) : s.Carries s.lockDigs :=
  (((s.returnAll_carries _).trans (State.returnAll_carries _ _)).trans (State.returnAll_carries _ _)).trans
    (State.onMotions_carries _ _)

theorem State.walkAccepted_alarms (s : State) (o : WalkOrder) : (s.walkAccepted o).alarms = s.alarms := rfl

theorem WalkRec.ordered_prepares {w : WalkRec} (endless : w.ending = none) (k : Constants) (o : WalkOrder) :
    (w.ordered k o).Prepares o w.lastOutcome := ⟨rfl, endless, rfl, rfl, rfl, rfl, rfl, rfl, rfl, rfl, rfl, rfl, rfl, rfl⟩

end Walk

/-- An accepted order, completed: the walk PREPARING, the dig motions LOCKED, without a generator. -/
theorem walk_accepted {s : State} {f : Frame} {o : WalkOrder} (takes : s.Takes f .cab) (follow : s.ConditionsFollow)
    (parsed : parseWalk s f.fields = .ok o) (passes : (s.atRequest f.port).walkFails o = none) (endless : s.walk.ending = none)
    (hidden : s.showsReleased .walk = false) :
    ∃ t, exec (.walk f) s = .next t ∧ t.Answers .cab f.tag 8 .accepted .none ∧ t.walk.Prepares o s.walk.lastOutcome ∧
      (∀ m, (t.motions.get m).state = .locked) ∧ (∀ m : Dig, t.held m.motion = 0) ∧
      t.chans = { s.chans with stepCounter := 0 } ∧ t.zones = s.zones ∧ t.k = s.k := by
  have arrives := s.atRequest_arrives f.port
  have taken := exec_walk takes parsed
  rw [State.walkTaken_accepted passes] at taken
  let own := (s.atRequest f.port).walkAccepted o
  let u := own.accepted.answered walkSpec f .nothing
  have locks := (s.atRequest f.port).lockDigs_same
  let counted : State := { s with chans := { s.chans with stepCounter := 0 } }
  have chans : u.chans = counted.chans := by
    show { (s.atRequest f.port).lockDigs.chans with stepCounter := 0 } = _
    rw [locks.chans, arrives.same.chans]
  have toLocked := arrives.same.trans locks.butPorts
  have same : counted.SameButPorts u := ⟨toLocked.pending, toLocked.power, toLocked.clock, toLocked.k, toLocked.fitted,
    toLocked.store, toLocked.commit, toLocked.inputs, chans, toLocked.zones, toLocked.supply⟩
  have standing (g : Fin 12) : (counted.gens.get g).Standing (u.gens.get g) := by
    have locked := (s.atRequest f.port).lockDigs_carries.standing g
    rw [arrives.gens] at locked
    exact locked
  have alarms : u.alarms = (s.atRequest f.port).alarms := State.walkAccepted_alarms _ o
  have truth : State.TruthBut [2, 21] s u := (s.atRequest_truth f.port).trans (.of_alarms alarms)
  have followBefore : counted.ConditionsFollow := follow
  have followThere : u.ConditionsFollow := followBefore.kept truth same standing
  have mains : u.OnMains := same.onMains takes.1
  have record (m : Dig) : u.motions.get m = ((s.atRequest f.port).motions.get m).locked := State.lockDigs_get _ m
  have walk : u.walk = s.walk.ordered s.k o := by
    show (s.atRequest f.port).walk.ordered (s.atRequest f.port).k o = _
    rw [arrives.walk, arrives.same.k]
  have shows : u.inputs.brakeProof.get .walk = false := by
    rw [same.inputs]
    exact hidden
  have lockedAndPreparing (m : Dig) : ((State.settle s u).motions.get m).Locked ∧
      (State.settle s u).walk.Prepares o s.walk.lastOutcome := by
    refine (followThere.evolves mains s).pair m (P := fun x => x.1.Locked ∧ x.2.Prepares o s.walk.lastOutcome)
      (fun x y h change => Following.lockedFor shows h change) ⟨?_, ?_⟩
    · rw [record]
      exact ⟨rfl, rfl⟩
    · rw [walk]
      exact WalkRec.ordered_prepares endless _ _
  have bare (m : Dig) : u.Bare m.motion :=
    ⟨State.takes_dig_eq_false.2 (by rw [record]; exact ⟨nofun, nofun⟩), (s.atRequest f.port).lockDigs_ungranted m⟩
  have passed (m : Dig) : u.resolverFollow.passes.Bare m.motion :=
    ((bare m).kept rfl rfl (bare m).ungranted : u.resolverFollow.Bare m.motion).evolves (State.passes_evolves _)
      (State.passes_gives _)
  have settled := same.settled s
  have answers := State.settle_answers s own.accepted walkSpec f .nothing
  rw [takes.2.1] at answers
  refine ⟨_, taken, answers, (lockedAndPreparing .hoist).2, fun m => (lockedAndPreparing m).1.1, fun m => ?_, settled.chans,
    settled.zones, settled.k⟩
  rw [followThere.settle_eq mains s]
  exact ((passed m).holdsNothing s).2

/-- Settles O43: an order that every check passes locks the dig motions, and with every condition at its truth the completion
raises nothing; an order that fails is refused by the first check, in their order. -/
theorem walkOrders : Obligations.WalkOrders := by
  refine ⟨fun s f o takes follow _ parsed idle endless rest noTrip noStop quiet swingSet walkSet hidden swingRef walkRef heading
    payout => ?_, fun s f o takes parsed => ?_⟩
  · have arrives := s.atRequest_arrives f.port
    rw [← takes.2.1] at noTrip noStop
    have passes : (s.atRequest f.port).walkFails o = none := by
      rw [State.walkFails_of_rest (by rw [arrives.walk]; exact idle) (by rw [arrives.motions]; exact rest), if_neg]
      rw [State.walkBarred_iff]
      unfold State.swingAngle
      rw [arrives.same.chans, arrives.motions, arrives.walk, arrives.same.k]
      rintro (h | h | ⟨c, h⟩ | h | h | h | h | h | h)
      · exact absurd h (by rw [noTrip]; decide)
      · exact absurd h (by rw [noStop]; decide)
      · exact h (quiet c)
      · exact h swingSet
      · exact h walkSet
      · exact h swingRef
      · exact h walkRef
      · exact absurd h (Nat.not_lt.2 heading)
      · exact absurd h (Int.not_lt.2 payout)
    obtain ⟨t, taken, answers, w, locked, held, chans, zones, k⟩ := walk_accepted takes follow parsed passes endless hidden
    exact ⟨t, taken, answers, w.state, w.direction, w.heading, w.stepsRequested, w.stepsDone, w.haltRequested, w.siteMarked,
      w.lifted, w.setDownSeen, w.liftOff, w.setDown, w.interruptCause, w.lastOutcome, locked, held, chans, zones, k⟩
  · have taken := exec_walk takes parsed
    have arrives := s.atRequest_arrives f.port
    have refused (r : Reason) := s.refused_settles f walkSpec r
    rw [takes.2.1] at taken refused arrives
    have refuse {r : Reason} (fails : (s.atRequest .cab).walkFails o = some r) :
        ∃ t, exec (.walk f) s = .next t ∧ t.Answers .cab f.tag 8 .refused r ∧ s.SameButPorts t := by
      rw [State.walkTaken_refused fails] at taken
      exact ⟨_, taken, refused r⟩
    have angle : s.swingAngle = (s.atRequest .cab).swingAngle := by
      unfold State.swingAngle
      rw [arrives.same.chans, arrives.same.k]
    rw [← arrives.walk, ← arrives.motions, ← arrives.same.chans, ← arrives.same.k, angle]
    refine ⟨fun walking => refuse (State.walkFails_walking walking),
      fun idle tripped => refuse (State.walkFails_tripped idle tripped),
      fun idle untripped busy => refuse (State.walkFails_busy idle untripped busy), fun idle rest bars => refuse ?_⟩
    rw [State.walkFails_of_rest idle rest, if_pos (State.walkBarred_iff.2 bars)]

end Sys2Proof.Machine
end

section
/-! SUPPORT. The set proof (06 R92, R94, R104, 07 R126): the pass of one dig motion among the passes of the others, and what a set
proof makes of a motion without a demand and of a walk with an ending. -/

namespace Sys2Proof.Machine

/-! ### One dig motion among the others -/

section Passes

variable {m n : Dig}

theorem State.onMotion_other (other : m ≠ n) (s : State) (f : MotionRec → MotionRec) :
    (s.onMotion n f).motions.get m = s.motions.get m := by
  rw [State.onMotion_get, if_neg other]

theorem State.clearCondition_motions (s : State) (key : AlarmKey) : (s.clearCondition key).motions = s.motions := by
  unfold State.clearCondition
  split <;> rfl

theorem State.proofPass_other (other : m ≠ n) (s : State) : (s.proofPass n).motions.get m = s.motions.get m := by
  unfold State.proofPass
  dsimp only
  split
  · split
    · rfl
    · rw [State.clearCondition_motions, State.onMotion_other other]
  · split
    exacts [State.onMotion_other other _ _, rfl]
  · rfl
  · rfl

theorem State.restPass_other (other : m ≠ n) (s : State) : (s.restPass n).motions.get m = s.motions.get m := by
  have hold : (s.beginHold n).motions.get m = s.motions.get m := by
    unfold State.beginHold
    split
    · exact State.onMotion_other other _ _
    split
    exacts [State.endHold_motions_other other s, State.onMotion_other other _ _]
  unfold State.restPass
  dsimp only
  split
  · split
    · exact State.onMotion_other other _ _
    split
    · exact hold
    split <;> rfl
  · rfl

/-- The pass of one dig motion leaves the records of the others alone. -/
theorem State.motionPass_other (other : m ≠ n) (s : State) : (s.motionPass n).motions.get m = s.motions.get m := by
  unfold State.motionPass
  rw [State.restPass_other other, State.proofPass_other other]
  unfold State.brakePass State.readyPass State.reversalPass
  rw [State.onMotion_other other, State.onMotion_other other, State.onMotion_other other]

/-- The pass of a motion finds its record as the passes before left it, and what comes after it are followers. -/
theorem State.passes_split (m : Dig) (s : State) : ∃ w : State, w.motions.get m = s.motions.get m ∧ s.SameRecords w ∧
    (w.motionPass m).Evolves s.passes ∧ (w.motionPass m).GivesNothing s.passes ∧ (w.motionPass m).Follows s.passes := by
  cases m with
  | hoist =>
    exact ⟨s, rfl, .refl s, ((State.motionPass_evolves _ _).trans (State.motionPass_evolves _ _)).trans (State.walkPass_evolves _),
      ((State.motionPass_gives _ _).trans (State.motionPass_gives _ _)).trans (State.walkPass_gives _),
      ((State.motionPass_follows _ _).trans (State.motionPass_follows _ _)).trans (State.walkPass_follows _)⟩
  | drag =>
    exact ⟨s.motionPass .hoist, State.motionPass_other (by decide) _, s.motionPass_same _,
      (State.motionPass_evolves _ _).trans (State.walkPass_evolves _),
      (State.motionPass_gives _ _).trans (State.walkPass_gives _),
      (State.motionPass_follows _ _).trans (State.walkPass_follows _)⟩
  | swing =>
    have record : ((s.motionPass .hoist).motionPass .drag).motions.get .swing = s.motions.get .swing :=
      (State.motionPass_other (by decide) _).trans (State.motionPass_other (by decide) _)
    exact ⟨_, record, (s.motionPass_same _).trans (State.motionPass_same _ _), State.walkPass_evolves _,
      State.walkPass_gives _, State.walkPass_follows _⟩

end Passes

/-! ### A condition that a follower has made false -/

theorem State.Drops.stays_false {s t : State} (h : s.Drops t) {k : AlarmKey} (absent : s.isTrue k = false) :
    t.isTrue k = false := by
  obtain ⟨p, keys, -⟩ := h
  rw [Bool.eq_false_iff, ne_eq, State.isTrue_iff, keys, List.mem_filter]
  exact fun present => Bool.eq_false_iff.1 absent ((s.isTrue_iff k).2 present.1)

theorem State.clearCondition_false (s : State) {key : AlarmKey} (listed : key ≠ fullKey) :
    (s.clearCondition key).isTrue key = false := by
  rw [Bool.eq_false_iff, ne_eq, State.isTrue_clearCondition s key listed]
  exact fun h => h.1 rfl

/-! ### The set proof of a motion without a demand (R94, R104) -/

/-- Outside ACQUIRING and READY, with the brake in a given state. -/
structure MotionRec.Stands (r : MotionRec) (b : BrakeState) : Prop where
  notAcquiring : r.state ≠ .acquiring
  notReady : r.state ≠ .ready
  brake : r.brake.state = b

theorem Brake.dropped_at_rest {b : Brake} (rest : b.state = .set ∨ b.state = .setting) (k : Constants) (timeout : Bool) :
    b.dropped k timeout = b := by
  unfold Brake.dropped
  rcases rest with e | e <;> rw [e]

theorem Brake.follow_at_rest {b : Brake} (rest : b.state = .set ∨ b.state = .setting) (k : Constants) (now : Nat)
    (terms stopped : Bool) : b.follow k now terms stopped = b := by
  unfold Brake.follow
  rcases rest with e | e <;> rw [e]

/-- Nothing lifts the SET brake of such a motion (R92). -/
theorem MotionRec.Stands.follow {shows : Bool} {r r' : MotionRec} (h : r.Stands .set) (change : r.Follow shows r') :
    r'.Stands .set := by
  have rest : r'.state ≠ .acquiring ∧ r'.state ≠ .ready := by
    rcases change.state_of_rest h.notAcquiring h.notReady with e | e <;> rw [e]
    exacts [⟨h.notAcquiring, h.notReady⟩, by decide]
  refine ⟨rest.1, rest.2, ?_⟩
  cases change with
  | brake k now terms stopped =>
    show (r.brake.follow k now terms stopped).state = .set
    rw [Brake.follow_at_rest (.inl h.brake)]
    exact h.brake
  | provenSet b setting => exact rfl
  | provenReleased releasing =>
    rw [h.brake] at releasing
    cases releasing
  | lifted k set ready => exact absurd ready h.notReady
  | _ => exact h.brake

theorem MotionRec.Stands.unlocked {r : MotionRec} {b : BrakeState} (h : r.Stands b) : r.unlocked.Stands b := by
  unfold MotionRec.unlocked
  split
  exacts [⟨nofun, nofun, h.brake⟩, h]

/-- A raise leaves the SETTING brake to its proof (R101). -/
theorem MotionRec.Stands.tripped {r : MotionRec} (h : r.Stands .setting) (k : Constants) (c : Cause) :
    (r.tripped k c).Stands .setting :=
  ⟨nofun, nofun, by
    show (r.brake.dropped k false).state = .setting
    rw [Brake.dropped_at_rest (.inr h.brake)]
    exact h.brake⟩

theorem MotionRec.Stands.stoppedBy {r : MotionRec} {b : BrakeState} (h : r.Stands b) (c : Cause) : (r.stoppedBy c).Stands b := by
  unfold MotionRec.stoppedBy
  split
  exacts [h, ⟨nofun, nofun, h.brake⟩]

theorem MotionRec.stoppedBy_tripped {r : MotionRec} (tripped : r.state = .tripped) (c : Cause) : (r.stoppedBy c).state = .tripped := by
  unfold MotionRec.stoppedBy
  rw [if_pos tripped]
  exact tripped

theorem State.ne_fullKey {code num : Nat} (h : code ≠ 21) : (⟨code, num⟩ : AlarmKey) ≠ fullKey := fun e =>
  h (congrArg AlarmKey.code e)

/-- In the pass of its motion a SETTING brake whose proof shows set is SET, BRAKE NOT SET is false, and a TRIPPED motion holds
nothing (R92, R94, R104). -/
theorem State.motionPass_sets {s : State} {m : Dig} (stands : (s.motions.get m).Stands .setting)
    (hidden : s.showsReleased m.motion = false) : ((s.motionPass m).motions.get m).Stands .set ∧
      (s.motionPass m).isTrue ⟨9, m.motion.number⟩ = false ∧
      ((s.motions.get m).state = .tripped → ∀ g, ((s.motionPass m).gens.get g).isGrantedTo m.motion = false) := by
  let a := ((s.reversalPass m).readyPass m).brakePass m
  have reversed : ∃ b, (s.reversalPass m).motions.get m = { s.motions.get m with reversal := b } := by
    unfold State.reversalPass
    rw [State.onMotion_get, if_pos rfl]
    split
    exacts [⟨_, rfl⟩, ⟨(s.motions.get m).reversal, rfl⟩]
  obtain ⟨b, reversed⟩ := reversed
  have record : a.motions.get m = { s.motions.get m with reversal := b } := by
    show (State.brakePass _ m).motions.get m = _
    unfold State.brakePass
    rw [State.onMotion_get, if_pos rfl, State.readyPass_get, reversed]
    dsimp only
    rw [MotionState.byLease_resting stands.notAcquiring stands.notReady, Brake.follow_at_rest (.inr stands.brake)]
  have setting : (a.motions.get m).brake.state = .setting := by
    rw [record]
    exact stands.brake
  let c := (a.onMotion m fun r => { r with reversal := r.reversal && !r.brake.afterTimeout, brake := r.brake.provenSet }
    ).clearCondition ⟨9, m.motion.number⟩
  have proven : a.proofPass m = c := by
    unfold State.proofPass
    dsimp only
    rw [setting]
    exact if_neg (Bool.eq_false_iff.1 (hidden : a.showsReleased m.motion = false))
  have state : (c.motions.get m).state = (s.motions.get m).state := by
    show (State.clearCondition _ _ |>.motions.get m).state = _
    rw [State.clearCondition_motions, State.onMotion_get, if_pos rfl, record]
  have set : (c.motions.get m).Stands .set := by
    refine ⟨by rw [state]; exact stands.notAcquiring, by rw [state]; exact stands.notReady, ?_⟩
    show (State.clearCondition _ _ |>.motions.get m).brake.state = _
    rw [State.clearCondition_motions, State.onMotion_get, if_pos rfl]
    rfl
  have pass : s.motionPass m = c.restPass m := congrArg (State.restPass · m) proven
  have rested := c.restPass_evolves m
  rw [pass]
  refine ⟨rested.motion m (P := fun r => r.Stands .set) (fun _ _ h change => h.follow change) (fun _ h => h.unlocked) set,
    (c.restPass_follows m).drops.stays_false (State.clearCondition_false _ (State.ne_fullKey (by decide))), fun tripped => ?_⟩
  have notRunning : c.runs m = false := Bool.eq_false_iff.2 fun runs => set.notReady (State.ready_of_runs runs)
  have noHold : (c.motions.get m).holdDue = false := Bool.eq_false_iff.2 fun due => by
    have releasing := MotionRec.releasing_of_holdDue due
    rw [state, tripped] at releasing
    cases releasing
  have returned : c.restPass m = c.returnAll m.motion := by
    unfold State.restPass
    dsimp only
    rw [if_pos set.brake, notRunning, noHold, if_neg (by decide), if_neg (by decide), if_pos (state.trans tripped)]
  rw [returned]
  exact c.returnAll_ungranted _

/-- A set proof of a brake that is not RELEASED has no effect of its own; a step that waits for it ends in the completion (R92). -/
theorem exec_brakeSetProof {s : State} (mains : s.OnMains) {m : Motion} (notReleased : (s.brake m).state ≠ .released) :
    exec (.brakeSetProof m) s = .next (State.settle s { s with inputs := s.inputs.setBrakeProof m false }) := by
  let t : State := { s with inputs := s.inputs.setBrakeProof m false }
  have unacted : t.brakeShowsSet m = t :=
    (State.inRun_onMains (s := t) mains _).trans (if_neg (show ¬ (t.brake m).state = .released from notReleased))
  show Host.Outcome.next (s.levelEvent _ _) = _
  rw [s.levelEvent_runs _ _ mains.1]
  exact congrArg (fun x => Host.Outcome.next (State.settle s x)) unacted

theorem State.brake_motion (s : State) (m : Dig) : s.brake m.motion = (s.motions.get m).brake := by
  unfold State.brake
  rw [Motion.dig?_motion]

/-! ### The completion of a change, in its two parts -/

/-- The completion raises and follows the channels first, and then lets the motions, the walk and the arbiter follow. -/
theorem State.settle_parts {u : State} (mains : u.OnMains) (s0 : State) : ∃ v : State, u.Raises v ∧ u.SameRecords v ∧
    State.settle s0 u = (State.arbitrate s0 v.passes).passes.starvedSync.compose := by
  have resolved (t : State) : t.Raises t.resolverFollow := .of_same rfl rfl rfl
  exact ⟨_, u.syncConditions_raises.trans (resolved _), u.syncConditions_same.trans (State.resolverFollow_same _),
    State.settle_onMains s0 mains⟩

theorem State.afterPasses_evolves (s0 w : State) : w.Evolves (State.arbitrate s0 w).passes.starvedSync.compose :=
  (((State.arbitrate_evolves s0 w).trans (State.passes_evolves _)).trans (State.starvedSync_evolves _)).trans
    (State.compose_evolves _)

theorem State.afterPasses_follows (s0 w : State) : w.Follows (State.arbitrate s0 w).passes.starvedSync.compose :=
  (((State.arbitrate_follows s0 w).trans (State.passes_follows _)).trans (State.starvedSync_follows _)).trans
    (State.compose_follows _)

/-- The set proof of a motion without a demand, completed (R94, R104). -/
theorem brakeSetProof_dig {s : State} {m : Dig} (mains : s.OnMains) (stands : (s.motions.get m).Stands .setting) :
    ∃ t, exec (.brakeSetProof m.motion) s = .next t ∧ (t.motions.get m).brake.state = .set ∧
      t.isTrue ⟨9, m.motion.number⟩ = false ∧ ((s.motions.get m).state = .tripped → t.proven m.motion = 0) ∧
      t.inputs = { s.inputs with brakeProof := s.inputs.brakeProof.set m.motion false } ∧ t.chans = s.chans ∧
      t.zones = s.zones := by
  let u : State := { s with inputs := s.inputs.setBrakeProof m.motion false }
  have taken := exec_brakeSetProof (m := m.motion) mains (by rw [State.brake_motion, stands.brake]; decide)
  have settled := State.settle_same s u
  obtain ⟨v, raises, sameRaised, final⟩ := State.settle_parts (u := u) mains s
  have standsThere : (v.motions.get m).Stands .setting ∧
      ((s.motions.get m).state = .tripped → (v.motions.get m).state = .tripped) := by
    refine raises.pair m (P := fun x => x.1.Stands .setting ∧
      ((s.motions.get m).state = .tripped → x.1.state = .tripped)) (fun x y h change => ?_) ⟨stands, id⟩
    cases change with
    | trip r w k c => exact ⟨h.1.tripped k c, fun _ => rfl⟩
    | stopDig r w c => exact ⟨h.1.stoppedBy c, fun tripped => MotionRec.stoppedBy_tripped (h.2 tripped) c⟩
    | stopWalk | halt => exact h
  obtain ⟨w, record, same, evolves, gives, follows⟩ := v.passes_split m
  have hidden : w.showsReleased m.motion = false := by
    unfold State.showsReleased
    rw [same.inputs, sameRaised.inputs]
    exact PerMotion.get_set_self _ _ _
  rw [← record] at standsThere
  obtain ⟨set, clear, unheld⟩ := State.motionPass_sets standsThere.1 hidden
  have last := evolves.trans (State.afterPasses_evolves s v.passes)
  have drops := follows.trans (State.afterPasses_follows s v.passes)
  rw [← final] at last drops
  have setAfter : ((State.settle s u).motions.get m).Stands .set :=
    State.Evolves.motion last m (P := fun r => r.Stands .set) (fun _ _ h change => h.follow change) (fun _ h => h.unlocked) set
  refine ⟨_, taken, setAfter.brake, drops.drops.stays_false clear, fun tripped => ?_, settled.inputs, settled.chans,
    settled.zones⟩
  have bare : (w.motionPass m).Bare m.motion :=
    ⟨State.takes_dig_eq_false.2 ⟨set.notAcquiring, set.notReady⟩, unheld (standsThere.2 tripped)⟩
  show (State.settle s u).proven m.motion = 0
  rw [final]
  exact ((bare.evolves evolves gives).holdsNothing s).1

/-! ### The set proof of a walk with an ending (R126) -/

theorem WalkRec.Follow.ending {shows : Bool} {w w' : WalkRec} (change : w.Follow shows w') : w'.ending = w.ending := by
  cases change with
  | released k p =>
    unfold WalkRec.released
    dsimp only
    split
    · rfl
    · split <;> rfl
    · rfl
    · rfl
  | _ => rfl

theorem WalkRec.stoppedBy_ending {w : WalkRec} (ending : w.ending.isSome = true) (k : Constants) (c : Cause) :
    w.stoppedBy k c = w := if_pos ending

theorem WalkRec.tripped_ending {w : WalkRec} (ending : w.ending.isSome = true) (k : Constants) (c : Cause) :
    w.tripped k c = w := by
  unfold WalkRec.tripped
  rw [if_neg fun h => Option.isSome_iff_ne_none.1 ending h.2]
  exact WalkRec.stoppedBy_ending ending k c

theorem WalkRec.halted_ending {w : WalkRec} (ending : w.ending.isSome = true) (k : Constants) (tub : Bool) :
    w.halted k tub = w := if_pos ending

/-- No raise changes a walk that has an ending (R126, R128). -/
theorem State.Brings.walk_of_ending {s t : State} (h : s.Raises t) (ending : s.walk.ending.isSome = true) :
    t.walk = s.walk := by
  refine h.pair .hoist (P := fun x => x.2 = s.walk) (fun x y same change => ?_) rfl
  have ended : x.2.ending.isSome = true := by
    rw [same]
    exact ending
  cases change with
  | trip r w k c => exact (WalkRec.tripped_ending ended k c).trans same
  | stopDig => exact same
  | stopWalk r w k c => exact (WalkRec.stoppedBy_ending ended k c).trans same
  | halt r w k tub => exact (WalkRec.halted_ending ended k tub).trans same

theorem State.clearCondition_walk (s : State) (key : AlarmKey) : (s.clearCondition key).walk = s.walk := by
  unfold State.clearCondition
  split <;> rfl

theorem State.motionPass_walk (s : State) (m : Dig) : (s.motionPass m).walk = s.walk := by
  have proof (t : State) : (t.proofPass m).walk = t.walk := by
    unfold State.proofPass
    dsimp only
    split
    · split
      exacts [rfl, State.clearCondition_walk _ _]
    · split <;> rfl
    · rfl
    · rfl
  have rest (t : State) : (t.restPass m).walk = t.walk := by
    unfold State.restPass State.beginHold
    dsimp only
    split
    · split
      · rfl
      split
      · split
        · rfl
        split <;> rfl
      split <;> rfl
    · rfl
  exact (rest _).trans (proof _)

theorem State.motionsPass_walk (s : State) : s.motionsPass.walk = s.walk :=
  ((State.motionPass_walk _ _).trans (State.motionPass_walk _ _)).trans (State.motionPass_walk _ _)

/-- IDLE with an outcome, the brake SET. -/
structure WalkRec.Finished (w : WalkRec) (o : WalkOutcome) : Prop where
  state : w.state = .idle
  ending : w.ending = none
  lastOutcome : w.lastOutcome = some o
  brake : w.brake.state = .set

theorem WalkRec.Finished.follow {shows : Bool} {w w' : WalkRec} {o : WalkOutcome} (h : w.Finished o)
    (change : w.Follow shows w') : w'.Finished o := by
  cases change with
  | brake k now terms stopped =>
    refine ⟨h.state, h.ending, h.lastOutcome, ?_⟩
    show (w.brake.follow k now terms stopped).state = .set
    rw [Brake.follow_at_rest (.inl h.brake)]
    exact h.brake
  | provenSet => exact ⟨h.state, h.ending, h.lastOutcome, rfl⟩
  | released k p releasing =>
    rw [h.brake] at releasing
    cases releasing
  | lifted k set walks =>
    rcases walks.2 with e | e <;> rw [h.state] at e <;> cases e
  | _ => exact ⟨h.state, h.ending, h.lastOutcome, h.brake⟩

theorem MotionRec.Follow.locked {shows : Bool} {r r' : MotionRec} (change : r.Follow shows r') (locked : r'.state = .locked) :
    r.state = .locked := by
  cases change with
  | lease leased =>
    by_cases waits : r.state = .acquiring ∨ r.state = .ready
    · change r.state.byLease leased = .locked at locked
      rw [MotionState.byLease_waiting waits] at locked
      cases leased <;> cases locked
    · rw [not_or] at waits
      exact (MotionState.byLease_resting waits.1 waits.2 leased).symm.trans locked
  | idled => cases locked
  | _ => exact locked

theorem MotionRec.unlocked_ne_locked (r : MotionRec) : r.unlocked.state ≠ .locked := by
  unfold MotionRec.unlocked
  split
  · nofun
  · next other => exact other

/-- Where a walk has no ending, or once it has lost it in its finish, no motion is LOCKED (R106, R126). -/
theorem Following.unlocks {i : Inputs} {m : Dig} {x y : MotionRec × WalkRec} (change : Following i m x y)
    (h : x.2.ending = none → x.1.state ≠ .locked) : y.2.ending = none → y.1.state ≠ .locked := by
  cases change with
  | motion w change => exact fun endless locked => h endless (change.locked locked)
  | walk r change => exact fun endless => h (change.ending.symm.trans endless)
  | finish r w o => exact fun _ => r.unlocked_ne_locked

/-- In its pass a walk with an ending whose SETTING brake shows set finishes (R92, R126). -/
theorem State.walkPass_finishes {s : State} {o : WalkOutcome} (ending : s.walk.ending = some o)
    (setting : s.walk.brake.state = .setting) (hidden : s.showsReleased .walk = false) :
    s.walkPass.walk.Finished o ∧ s.walkPass.isTrue ⟨9, 4⟩ = false ∧ ∀ g, (s.walkPass.gens.get g).isGrantedTo .walk = false := by
  have followed : s.walkBrakePass.walk = s.walk := by
    show { s.walk with brake := s.walk.brake.follow s.k s.now s.walkTerms (s.stopped .walk) } = s.walk
    rw [Brake.follow_at_rest (.inr setting)]
  let c := (s.walkBrakePass.onWalk fun w => { w with brake := w.brake.provenSet }).clearCondition ⟨9, 4⟩
  have proven : s.walkBrakePass.walkProofPass = c := by
    unfold State.walkProofPass
    rw [followed, setting]
    exact if_neg (Bool.eq_false_iff.1 (hidden : s.walkBrakePass.showsReleased .walk = false))
  have walk : c.walk = { s.walk with brake := s.walk.brake.provenSet } := by
    show (State.clearCondition _ _).walk = _
    rw [State.clearCondition_walk, State.onWalk_walk, followed]
  have finishes : c.walkRestPass = c.walkFinish o := by
    have ended : c.walk.ending = some o := by
      rw [walk]
      exact ending
    unfold State.walkRestPass
    dsimp only
    rw [if_pos (by rw [walk]; rfl), ended]
  have pass : s.walkPass = c.walkFinish o := (congrArg State.walkRestPass proven).trans finishes
  have record : (c.walkFinish o).walk = c.walk.finished o := rfl
  rw [pass]
  refine ⟨?_, State.clearCondition_false _ (State.ne_fullKey (by decide)), c.returnAll_ungranted .walk⟩
  rw [record, walk]
  exact ⟨rfl, rfl, rfl, rfl⟩

/-- The set proof of a walk with an ending, completed (R94, R126). -/
theorem brakeSetProof_walk {s : State} {o : WalkOutcome} (mains : s.OnMains) (setting : s.walk.brake.state = .setting)
    (ending : s.walk.ending = some o) :
    ∃ t, exec (.brakeSetProof .walk) s = .next t ∧ t.walk.Finished o ∧ t.isTrue ⟨9, 4⟩ = false ∧ t.proven .walk = 0 ∧
      (∀ m, (t.motions.get m).state ≠ .locked) ∧ t.chans = s.chans ∧ t.zones = s.zones := by
  let u : State := { s with inputs := s.inputs.setBrakeProof .walk false }
  have notReleased : (s.brake .walk).state ≠ .released := by
    rw [show (s.brake .walk).state = .setting from setting]
    decide
  have taken := exec_brakeSetProof mains notReleased
  have settled := State.settle_same s u
  obtain ⟨v, raises, sameRaised, final⟩ := State.settle_parts (u := u) mains s
  have walk : v.motionsPass.walk = s.walk :=
    (State.motionsPass_walk v).trans (raises.walk_of_ending (by rw [show u.walk.ending = some o from ending]; rfl))
  have hidden : v.motionsPass.showsReleased .walk = false := by
    unfold State.showsReleased
    rw [(State.motionsPass_same v).inputs, sameRaised.inputs]
    exact PerMotion.get_set_self s.inputs.brakeProof .walk false
  rw [← walk] at ending setting
  obtain ⟨finished, clear, ungranted⟩ := State.walkPass_finishes ending setting hidden
  have own := State.walkPass_evolves v.motionsPass
  rw [show v.motionsPass.walkPass = v.passes from rfl] at own finished clear ungranted
  generalize v.motionsPass = x at own ending
  have last : v.passes.Evolves (State.settle s u) := by
    rw [final]
    exact State.afterPasses_evolves s v.passes
  have drops : v.passes.Follows (State.settle s u) := by
    rw [final]
    exact State.afterPasses_follows s v.passes
  have after : (State.settle s u).walk.Finished o :=
    State.Evolves.walk last (P := fun w => w.Finished o) (fun _ _ h change => h.follow change)
      (fun w o' h ended => by rw [h.ending] at ended; cases ended) finished
  refine ⟨_, taken, after, drops.drops.stays_false clear, ?_, fun m => ?_, settled.chans, settled.zones⟩
  · have bare : v.passes.Bare .walk := by
      refine ⟨State.takes_walk_eq_false.2 fun walks => ?_, ungranted⟩
      rcases walks.2 with e | e <;> rw [finished.state] at e <;> cases e
    show (State.settle s u).proven .walk = 0
    rw [final]
    exact (bare.holdsNothing s).1
  · refine (own.trans last).pair m (P := fun x => x.2.ending = none → x.1.state ≠ .locked) (fun x y h change => change.unlocks h)
      (fun endless => ?_) after.ending
    rw [ending] at endless
    cases endless

/-- Settles O41: no raise and no follower lifts the SETTING brake of a motion without a demand or of a walk with an ending, and its
proof ends it in the pass of the motion or of the walk. -/
theorem setProofSetsBrake : Obligations.SetProofSetsBrake := by
  refine ⟨fun s m mains setting notAcquiring notReady => brakeSetProof_dig mains ⟨notAcquiring, notReady, setting⟩,
    fun s o mains setting ending => ?_⟩
  obtain ⟨t, taken, finished, clear, proven, unlocked, chans, zones⟩ := brakeSetProof_walk mains setting ending
  exact ⟨t, taken, finished.brake, finished.state, finished.ending, finished.lastOutcome, clear, proven, fun m _ => unlocked m,
    chans, zones⟩

end Sys2Proof.Machine
end

section
/-! SUPPORT. EMERGENCY STOP (06 R101, R103, 07 R126, R128, 08 R136, R138): the trip that its raise begins, and the records it has tripped
through the completion of the change. -/

namespace Sys2Proof.Machine

/-! ### The trip effect (R138) -/

/-- EMERGENCY STOP, as a condition and as a cause. -/
def estopKey : AlarmKey := ⟨1, 0⟩

/-- The cause that a trip by EMERGENCY STOP records (R103). -/
def estopCause : Cause := ⟨estopKey, .trip⟩

/-- A code without a threshold has its base class in every record (R137, R142). -/
theorem Alarms.ClassesLegal.effectiveClass_estop {a : Alarms} (h : a.ClassesLegal) : a.effectiveClass estopKey = .trip := by
  unfold Alarms.effectiveClass
  split
  · next r stored =>
    obtain ⟨mem, key⟩ := Alarms.record_mem stored
    have legal : classLegal r.key.code r.cls := h r mem
    rw [key] at legal
    rcases legal with base | ⟨rises, -⟩
    · exact base
    · cases rises
  · rfl

theorem State.tripInForce_of_estop {s : State} (legal : s.ClassesLegal) (active : s.isTrue estopKey = true) :
    s.tripInForce = true := by
  obtain ⟨c, mem, same⟩ := List.any_eq_true.1 active
  refine List.any_eq_true.2 ⟨c, mem, ?_⟩
  unfold Alarms.isTripCondition
  rw [of_decide_eq_true same, Alarms.ClassesLegal.effectiveClass_estop legal]
  rfl

/-- The raise of EMERGENCY STOP on mains, with no trip effect in force before, is the trip (R136, R138). -/
theorem State.raiseCondition_estop {s : State} (mains : s.OnMains) (legal : s.ClassesLegal) (absent : s.isTrue estopKey = false)
    (untripped : s.tripInForce = false) : s.raiseCondition estopKey =
      ({ s with alarms := s.alarms.raiseCondition s.now s.k.escalationWindow estopKey } : State).tripBegins estopCause := by
  have raisedLegal := Alarms.ClassesLegal.raiseCondition (State.classesLegal_iff s |>.1 legal) s.now s.k.escalationWindow estopKey
  unfold State.raiseCondition
  dsimp only
  rw [if_neg (Bool.eq_false_iff.1 absent), if_neg (Bool.eq_false_iff.1 (State.inHoldup_of_onMains mains))]
  unfold State.conditionActs
  dsimp only
  rw [raisedLegal.effectiveClass_estop]
  exact if_neg (Bool.eq_false_iff.1 untripped)

/-! ### A dig motion that has been tripped (R101, R103) -/

theorem Brake.dropped_rests (b : Brake) (k : Constants) (timeout : Bool) :
    (b.dropped k timeout).state = .set ∨ (b.dropped k timeout).state = .setting := by
  unfold Brake.dropped
  split
  · next e => exact .inl e
  · next e => exact .inr e
  · exact .inr rfl
  · exact .inr rfl

/-- A brake that does not release stays so (R92): SET or SETTING, it waits for its set proof alone. -/
theorem Brake.follow_rests {b : Brake} (rest : b.state = .set ∨ b.state = .setting) (k : Constants) (now : Nat)
    (terms stopped : Bool) : (b.follow k now terms stopped).state = .set ∨ (b.follow k now terms stopped).state = .setting := by
  rw [Brake.follow_at_rest rest]
  exact rest

/-- TRIPPED, with neither demand, permit nor hold, the brake SET or SETTING, and with the cause of a trip where it was `fresh`. -/
structure MotionRec.TrippedFor (r : MotionRec) (fresh : Prop) (c : Cause) : Prop where
  state : r.state = .tripped
  permit : r.permit = none
  demand : r.demand = none
  holdStart : r.holdStart = none
  brake : r.brake.state = .set ∨ r.brake.state = .setting
  tripCause : fresh → r.tripCause = some c

theorem MotionRec.tripped_trippedFor (r : MotionRec) (k : Constants) (c : Cause) :
    (r.tripped k c).TrippedFor (r.state ≠ .tripped) c :=
  ⟨rfl, rfl, rfl, rfl, r.brake.dropped_rests k false, fun fresh => if_neg fresh⟩

section TrippedFor

variable {r : MotionRec} {fresh : Prop} {c : Cause}

/-- A later trip replaces the cause of a stop alone (R103). -/
theorem MotionRec.TrippedFor.tripped (h : r.TrippedFor fresh c) (trip : c.cls = .trip) (k : Constants) (d : Cause) :
    (r.tripped k d).TrippedFor fresh c := by
  refine ⟨rfl, rfl, rfl, rfl, r.brake.dropped_rests k false, fun new => ?_⟩
  unfold MotionRec.tripped
  dsimp only
  rw [if_pos h.state, h.tripCause new]
  unfold causeAfterTrip
  dsimp only
  rw [if_neg (by rw [trip]; decide)]

theorem MotionRec.TrippedFor.stoppedBy (h : r.TrippedFor fresh c) (d : Cause) : (r.stoppedBy d).TrippedFor fresh c := by
  unfold MotionRec.stoppedBy
  rw [if_pos h.state]
  exact h

theorem MotionRec.TrippedFor.follow {shows : Bool} {r' : MotionRec} (h : r.TrippedFor fresh c) (change : r.Follow shows r') :
    r'.TrippedFor fresh c := by
  have notAcquiring : r.state ≠ .acquiring := by rw [h.state]; decide
  have notReady : r.state ≠ .ready := by rw [h.state]; decide
  cases change with
  | reversal => exact ⟨h.state, h.permit, h.demand, h.holdStart, h.brake, h.tripCause⟩
  | lease leased =>
    exact ⟨(MotionState.byLease_resting notAcquiring notReady leased).trans h.state, h.permit, h.demand, h.holdStart, h.brake,
      h.tripCause⟩
  | brake k now terms stopped =>
    exact ⟨h.state, h.permit, h.demand, h.holdStart, Brake.follow_rests h.brake k now terms stopped, h.tripCause⟩
  | provenSet => exact ⟨h.state, h.permit, h.demand, h.holdStart, .inl rfl, h.tripCause⟩
  | provenReleased releasing =>
    rcases h.brake with e | e <;> rw [e] at releasing <;> cases releasing
  | lifted k set ready => exact absurd ready notReady
  | holdBegins since left releasing =>
    rw [h.state] at releasing
    cases releasing
  | idled ends =>
    rw [h.state, h.holdStart] at ends
    rcases ends with e | e <;> cases e
  | composed p q permits =>
    exact ⟨h.state, Option.not_isSome_iff_eq_none.1 fun some => notReady (permits some).1, h.demand, h.holdStart, h.brake,
      h.tripCause⟩

theorem MotionRec.TrippedFor.unlocked (h : r.TrippedFor fresh c) : r.unlocked.TrippedFor fresh c := by
  unfold MotionRec.unlocked
  rw [if_neg (by rw [h.state]; decide)]
  exact h

end TrippedFor

/-! ### A walk that has been interrupted (R128) -/

/-- INTERRUPTED in a phase by the cause of a trip, with no ending and the brake SET or SETTING. -/
structure WalkRec.InterruptedFor (w : WalkRec) (p : Option Phase) (c : Cause) : Prop where
  state : w.state = .interrupted
  ending : w.ending = none
  interruptCause : w.interruptCause = some c
  phase : w.phase = p
  brake : w.brake.state = .set ∨ w.brake.state = .setting

section InterruptedFor

variable {w : WalkRec} {p : Option Phase} {c : Cause}

theorem WalkRec.tripped_interrupts (stepping : w.state = .stepping) (endless : w.ending = none) (k : Constants) (c : Cause) :
    (w.tripped k c).InterruptedFor w.phase c := by
  have interrupted : w.tripped k c = w.interrupted k c := by
    unfold WalkRec.tripped WalkRec.stoppedBy
    rw [if_neg fun h => by rw [stepping] at h; cases h.1]
    simp only [endless, stepping, Option.isSome_none, Bool.false_eq_true, if_false]
  rw [interrupted]
  exact ⟨rfl, endless, rfl, rfl, w.brake.dropped_rests k false⟩

theorem WalkRec.InterruptedFor.tripped (h : w.InterruptedFor p c) (trip : c.cls = .trip) (k : Constants) (d : Cause) :
    (w.tripped k d).InterruptedFor p c := by
  unfold WalkRec.tripped
  rw [if_pos ⟨h.state, h.ending⟩]
  refine ⟨h.state, h.ending, ?_, h.phase, w.brake.dropped_rests k false⟩
  dsimp only
  rw [h.interruptCause]
  exact if_neg (by rw [trip]; decide)

theorem WalkRec.InterruptedFor.stoppedBy (h : w.InterruptedFor p c) (k : Constants) (d : Cause) :
    (w.stoppedBy k d).InterruptedFor p c := by
  unfold WalkRec.stoppedBy
  simp only [h.ending, h.state, Option.isSome_none, Bool.false_eq_true, if_false]
  exact h

theorem WalkRec.InterruptedFor.halted (h : w.InterruptedFor p c) (k : Constants) (tub : Bool) :
    (w.halted k tub).InterruptedFor p c := by
  unfold WalkRec.halted
  simp only [h.ending, h.state, Option.isSome_none, Bool.false_eq_true, if_false]
  exact ⟨rfl, rfl, h.interruptCause, h.phase, h.brake⟩

theorem WalkRec.InterruptedFor.follow {shows : Bool} {w' : WalkRec} (h : w.InterruptedFor p c)
    (change : w.Follow shows w') : w'.InterruptedFor p c := by
  cases change with
  | brake k now terms stopped =>
    exact ⟨h.state, h.ending, h.interruptCause, h.phase, Brake.follow_rests h.brake k now terms stopped⟩
  | provenSet => exact ⟨h.state, h.ending, h.interruptCause, h.phase, .inl rfl⟩
  | released k p releasing =>
    rcases h.brake with e | e <;> rw [e] at releasing <;> cases releasing
  | lifted k set walks =>
    rcases walks.2 with e | e <;> rw [h.state] at e <;> cases e
  | _ => exact ⟨h.state, h.ending, h.interruptCause, h.phase, h.brake⟩

end InterruptedFor

/-! ### A walk that has been cancelled (R126, R128) -/

/-- The ending CANCELLED with the brake SET or SETTING, or the finish with that outcome. -/
def WalkRec.Cancels (w : WalkRec) : Prop :=
  (w.ending = some .cancelled ∧ (w.brake.state = .set ∨ w.brake.state = .setting)) ∨
    (w.state = .idle ∧ w.ending = none ∧ w.lastOutcome = some .cancelled ∧ w.brake.state = .set)

section Cancels

variable {w : WalkRec}

theorem WalkRec.tripped_cancels (preparing : w.state = .preparing) (endless : w.ending = none) (k : Constants) (c : Cause) :
    (w.tripped k c).Cancels := by
  have ended : w.tripped k c = w.ended k .cancelled := by
    unfold WalkRec.tripped WalkRec.stoppedBy
    rw [if_neg fun h => by rw [preparing] at h; cases h.1]
    simp only [endless, preparing, Option.isSome_none, Bool.false_eq_true, if_false]
  rw [ended]
  exact .inl ⟨rfl, w.brake.dropped_rests k false⟩

/-- Neither a trip, a stop nor a halt finds a walk to act on. -/
theorem WalkRec.Cancels.tripped (h : w.Cancels) (k : Constants) (c : Cause) : w.tripped k c = w := by
  rcases h with ⟨ending, -⟩ | ⟨idle, endless, -⟩
  · exact WalkRec.tripped_ending (by rw [ending]; rfl) k c
  · unfold WalkRec.tripped WalkRec.stoppedBy
    rw [if_neg fun h => by rw [idle] at h; cases h.1]
    simp only [endless, idle, Option.isSome_none, Bool.false_eq_true, if_false]

theorem WalkRec.Cancels.stoppedBy (h : w.Cancels) (k : Constants) (c : Cause) : w.stoppedBy k c = w := by
  rcases h with ⟨ending, -⟩ | ⟨idle, endless, -⟩
  · exact WalkRec.stoppedBy_ending (by rw [ending]; rfl) k c
  · unfold WalkRec.stoppedBy
    simp only [endless, idle, Option.isSome_none, Bool.false_eq_true, if_false]

theorem WalkRec.Cancels.halted (h : w.Cancels) (k : Constants) (tub : Bool) : w.halted k tub = w := by
  rcases h with ⟨ending, -⟩ | ⟨idle, endless, -⟩
  · exact WalkRec.halted_ending (by rw [ending]; rfl) k tub
  · unfold WalkRec.halted
    simp only [endless, idle, Option.isSome_none, Bool.false_eq_true, if_false]

theorem WalkRec.Cancels.follow {shows : Bool} {w' : WalkRec} (h : w.Cancels) (change : w.Follow shows w') : w'.Cancels := by
  have ending := change.ending
  rcases h with ⟨cancelled, rest⟩ | ⟨idle, endless, outcome, set⟩
  · refine .inl ⟨ending.trans cancelled, ?_⟩
    cases change with
    | brake k now terms stopped => exact Brake.follow_rests rest k now terms stopped
    | provenSet => exact .inl rfl
    | released k p releasing => rcases rest with e | e <;> rw [e] at releasing <;> cases releasing
    | lifted k set walks =>
      rw [walks.1] at cancelled
      cases cancelled
    | _ => exact rest
  · have finished : w'.Finished .cancelled := WalkRec.Finished.follow ⟨idle, endless, outcome, set⟩ change
    exact .inr ⟨finished.state, finished.ending, finished.lastOutcome, finished.brake⟩

theorem WalkRec.Cancels.finished {o : WalkOutcome} (h : w.Cancels) (ending : w.ending = some o) (set : w.brake.state = .set) :
    (w.finished o).Cancels := by
  rcases h with ⟨cancelled, -⟩ | ⟨-, endless, -⟩
  · rw [ending] at cancelled
    cases cancelled
    exact .inr ⟨rfl, rfl, rfl, set⟩
  · rw [endless] at ending
    cases ending

end Cancels

/-- After its pass a walk with an ending has a brake that is not SET: with the brake SET it has finished (R126). -/
theorem State.walkPass_unfinished {s : State} (ending : s.walkPass.walk.ending.isSome = true) :
    s.walkPass.walk.brake.state ≠ .set := by
  unfold State.walkPass at ending ⊢
  generalize s.walkBrakePass.walkProofPass = c at ending ⊢
  unfold State.walkRestPass at ending ⊢
  dsimp only at ending ⊢
  split at ending
  · next set =>
    split at ending
    · cases ending
    · next endless =>
      have kept : ∀ f : WalkRec → WalkRec, (f c.walk).ending = c.walk.ending → (c.onWalk f).walk.ending = none :=
        fun f same => same.trans endless
      exfalso
      split at ending
      · rw [show (c.returnAll .walk).walk.ending = none from endless] at ending
        cases ending
      split at ending
      · split at ending
        · rw [endless] at ending
          cases ending
        · rw [kept _ rfl] at ending
          cases ending
      split at ending
      · rw [kept _ rfl] at ending
        cases ending
      · rw [endless] at ending
        cases ending
  · next notSet =>
    rw [if_neg notSet]
    exact notSet

theorem State.starvedSync_walk (s : State) : s.starvedSync.walk = s.walk := by
  unfold State.starvedSync
  generalize Motion.all = l
  induction l generalizing s with
  | nil => rfl
  | cons m l ih =>
    refine (ih _).trans ?_
    unfold State.starvedFollows
    split
    exacts [rfl, State.clearCondition_walk _ _]

theorem State.passes_unfinished {s : State} (ending : s.passes.walk.ending.isSome = true) : s.passes.walk.brake.state ≠ .set := by
  rw [show s.passes = s.motionsPass.walkPass from rfl] at ending ⊢
  exact State.walkPass_unfinished ending

theorem State.compose_ending (s : State) : s.compose.walk.ending = s.walk.ending := rfl

theorem State.compose_walkBrake (s : State) : s.compose.walk.brake = s.walk.brake := rfl

theorem State.settle_unfinished {u : State} (mains : u.OnMains) (s0 : State)
    (ending : (State.settle s0 u).walk.ending.isSome = true) : (State.settle s0 u).walk.brake.state ≠ .set := by
  obtain ⟨v, -, -, final⟩ := State.settle_parts mains s0
  rw [final, State.compose_ending, State.starvedSync_walk] at ending
  rw [final, State.compose_walkBrake, State.starvedSync_walk]
  exact State.passes_unfinished ending

/-! ### The input (R136) -/

/-- EMERGENCY_STOP_INPUT showing the stop is the trip, completed. -/
theorem exec_estop {s : State} (mains : s.OnMains) (legal : s.ClassesLegal) (absent : s.isTrue estopKey = false)
    (untripped : s.tripInForce = false) : exec (.emergencyStopInput true) s =
      .next (State.settle s (({ s with
        inputs := { s.inputs with estop := true }
        alarms := s.alarms.raiseCondition s.now s.k.escalationWindow estopKey } : State).tripBegins estopCause)) := by
  let t : State := { s with inputs := { s.inputs with estop := true } }
  have raised : t.setCondition estopKey true = _ := State.raiseCondition_estop (s := t) mains legal absent untripped
  show Host.Outcome.next (s.levelEvent _ _) = _
  rw [s.levelEvent_runs _ _ mains.1]
  exact congrArg (fun x => Host.Outcome.next (State.settle s x)) raised

/-- The trip by EMERGENCY STOP, completed (R101, R103, R126, R128). -/
theorem emergencyStop_trips {s : State} (mains : s.OnMains) (legal : s.ClassesLegal) (absent : s.isTrue estopKey = false)
    (untripped : s.tripInForce = false) :
    ∃ t, exec (.emergencyStopInput true) s = .next t ∧ t.isTrue estopKey = true ∧
      (∀ m, (t.motions.get m).TrippedFor ((s.motions.get m).state ≠ .tripped) estopCause) ∧ t.walk.permit = none ∧
      (s.walk.state = .stepping → s.walk.ending = none → t.walk.InterruptedFor s.walk.phase estopCause) ∧
      (s.walk.state = .preparing → s.walk.ending = none → t.walk.Cancels ∧
        (t.walk.ending.isSome = true → t.walk.brake.state ≠ .set)) ∧
      ({ s with inputs := { s.inputs with estop := true } } : State).SameRecords t := by
  let t : State := { s with inputs := { s.inputs with estop := true } }
  have raised : t.raiseCondition estopKey = _ := State.raiseCondition_estop (s := t) mains legal absent untripped
  let u := ({ t with alarms := s.alarms.raiseCondition s.now s.k.escalationWindow estopKey } : State).tripBegins estopCause
  have same : t.SameRecords u := by
    have := t.raiseCondition_same estopKey
    rw [raised] at this
    exact this
  have active : u.isTrue estopKey = true := by
    have := (State.isTrue_raiseCondition t estopKey (State.ne_fullKey (by decide))).2 (.inl rfl)
    rw [raised] at this
    exact this
  have legalThere : u.ClassesLegal := by
    have := (t.raiseCondition_tabled estopKey).classesLegal legal
    rw [raised] at this
    exact this
  have mainsThere : u.OnMains := same.mains mains
  have record (m : Dig) : u.motions.get m = (s.motions.get m).tripped s.k estopCause := State.tripBegins_get _ _ m
  have walk : u.walk = s.walk.tripped s.k estopCause := rfl
  have activeAfter : (State.settle s u).isTrue estopKey = true := (State.settle_truth s u estopKey (by decide)).trans active
  have tripAfter : (State.settle s u).tripInForce = true :=
    State.tripInForce_of_estop ((State.settle_tabled s u).classesLegal legalThere) activeAfter
  refine ⟨_, exec_estop mains legal absent untripped, activeAfter, fun m => ?_, ?_, fun stepping endless => ?_,
    fun preparing endless => ⟨?_, State.settle_unfinished mainsThere s⟩, same.trans (State.settle_same s u)⟩
  · refine State.settle_motion mainsThere s m (P := fun r => r.TrippedFor _ estopCause) (fun r k c h => h.tripped rfl k c)
      (fun r c h => h.stoppedBy c) (fun r r' h change => h.follow change) (fun r h => h.unlocked) ?_
    rw [record]
    exact MotionRec.tripped_trippedFor _ _ _
  · refine Option.eq_none_iff_forall_ne_some.2 fun d permit => ?_
    obtain ⟨-, -, -, -, -, -, noTrip⟩ := (State.settle_permits s mainsThere).2 d permit
    rw [tripAfter] at noTrip
    cases noTrip
  · refine State.settle_walk mainsThere s (P := fun w => w.InterruptedFor s.walk.phase estopCause)
      (fun w k c h => h.tripped rfl k c) (fun w k c h => h.stoppedBy k c) (fun w k tub h => h.halted k tub)
      (fun w w' h change => h.follow change) (fun w o h ending => ?_) ?_
    · rw [h.ending] at ending
      cases ending
    · rw [walk]
      exact WalkRec.tripped_interrupts stepping endless _ _
  · refine State.settle_walk mainsThere s (P := WalkRec.Cancels)
      (fun w k c h => by rw [h.tripped]; exact h) (fun w k c h => by rw [h.stoppedBy]; exact h)
      (fun w k tub h => by rw [h.halted]; exact h) (fun w w' h change => h.follow change)
      (fun w o h ending set => h.finished ending set) ?_
    rw [walk]
    exact WalkRec.tripped_cancels preparing endless _ _

/-- Settles O39: the stop raises a condition of class TRIP, and neither a raise nor a follower of the same change takes a record out
of the trip, or its cause from one that was not TRIPPED. -/
theorem emergencyStopTripsEverything : Obligations.EmergencyStopTripsEverything := by
  refine ⟨fun s mains legal absent untripped => ?_, fun s runs => ?_⟩
  · obtain ⟨t, taken, active, digs, permit, interrupted, cancels, same⟩ := emergencyStop_trips mains legal absent untripped
    refine ⟨t, taken, active, same.inputs, fun m => ?_, permit, fun stepping endless => ?_, fun preparing endless => ?_,
      same.chans, same.zones, same.ports⟩
    · have h := digs m
      exact ⟨h.state, h.permit, h.demand, h.brake, h.tripCause⟩
    · have h := interrupted stepping endless
      exact ⟨h.state, h.interruptCause, h.phase, h.brake⟩
    · obtain ⟨⟨cancelled, rest⟩ | ⟨idle, -, outcome, -⟩, unfinished⟩ := cancels preparing endless
      · exact .inl ⟨cancelled, rest.resolve_left (unfinished (by rw [cancelled]; rfl))⟩
      · exact .inr ⟨idle, outcome⟩
  · let t : State := { s with inputs := { s.inputs with estop := false } }
    have taken : exec (.emergencyStopInput false) s = .next (State.settle s (t.clearCondition estopKey)) :=
      congrArg Host.Outcome.next (s.levelEvent_runs _ _ runs)
    have same : t.SameRecords (State.settle s (t.clearCondition estopKey)) :=
      (t.clearCondition_same estopKey).trans (State.settle_same _ _)
    have cleared : (State.settle s (t.clearCondition estopKey)).isTrue estopKey = false :=
      (State.settle_truth s _ estopKey (by decide)).trans (State.clearCondition_false t (State.ne_fullKey (by decide)))
    exact ⟨_, taken, cleared, same.inputs, same.chans, same.zones, same.ports⟩

end Sys2Proof.Machine
end

section
/-! SUPPORT. What a motion that goes on taking generators keeps through the completion of a change (05 R76–R82): the arbiter recalls
none of its grants and changes its record only where a hold of it has begun. -/

namespace Sys2Proof.Machine

/-! ### Counts that grow -/

theorem Table.cells_eq_map_get {α : Type} {n : Nat} (t : Table α n) : t.cells = (List.finRange n).map t.get := by
  refine List.ext_getElem (by simp [t.size]) fun i _ _ => ?_
  simp [Table.get]

theorem Table.countP_le {α : Type} {n : Nat} {t u : Table α n} {p : α → Bool} (h : ∀ i, p (t.get i) = true → p (u.get i) = true) :
    t.cells.countP p ≤ u.cells.countP p := by
  rw [Table.cells_eq_map_get t, Table.cells_eq_map_get u, List.countP_map, List.countP_map]
  exact List.countP_mono_left fun i _ => h i

/-! ### What the arbiter spares -/

/-- The record of a motion and the walk's are as before, and what was granted to the motion still is. -/
structure State.Spared (x : Motion) (s t : State) : Prop where
  record : ∀ m : Dig, m.motion = x → t.motions.get m = s.motions.get m
  walk : t.walk = s.walk
  grants : ∀ g, (s.gens.get g).isGrantedTo x = true → (t.gens.get g).isGrantedTo x = true

/-- No release hold of the motion has begun. The walk has none. -/
def State.Unheldback (x : Motion) (s : State) : Prop := ∀ m : Dig, m.motion = x → (s.motions.get m).holdStart = none

/-- What is spared where no hold of the motion has begun. -/
def State.Spares (x : Motion) (s t : State) : Prop := State.Unheldback x s → State.Spared x s t

section Spares

variable {x : Motion} {s t u : State}

theorem State.Spared.unheldback (h : State.Spared x s t) (hold : State.Unheldback x s) : State.Unheldback x t :=
  fun m own => by
    rw [h.record m own]
    exact hold m own

theorem State.Spared.trans (h : State.Spared x s t) (g : State.Spared x t u) : State.Spared x s u :=
  ⟨fun m own => (g.record m own).trans (h.record m own), g.walk.trans h.walk, fun i => g.grants i ∘ h.grants i⟩

theorem State.Spares.refl (x : Motion) (s : State) : State.Spares x s s := fun _ => ⟨fun _ _ => rfl, rfl, fun _ => id⟩

theorem State.Spares.trans (h : State.Spares x s t) (g : State.Spares x t u) : State.Spares x s u := fun hold =>
  (h hold).trans (g ((h hold).unheldback hold))

theorem State.Spares.ite {p : Prop} [Decidable p] (ht : State.Spares x s t) (hu : State.Spares x s u) :
    State.Spares x s (if p then t else u) := by
  split
  exacts [ht, hu]

theorem State.Spares.foldl {α : Type} {f : State → α → State} (h : ∀ (s : State) (a : α), State.Spares x s (f s a))
    (l : List α) (s : State) : State.Spares x s (l.foldl f s) := by
  induction l generalizing s with
  | nil => exact .refl x s
  | cons a l ih => exact (h s a).trans (ih (f s a))

theorem State.Spares.of_gens (motions : t.motions = s.motions) (walk : t.walk = s.walk)
    (grants : ∀ g, (s.gens.get g).isGrantedTo x = true → (t.gens.get g).isGrantedTo x = true) : State.Spares x s t :=
  fun _ => ⟨fun m _ => by rw [motions], walk, grants⟩

theorem State.Spares.of_same (motions : t.motions = s.motions) (walk : t.walk = s.walk) (gens : t.gens = s.gens) :
    State.Spares x s t := .of_gens motions walk fun g => by
  rw [gens]
  exact id

theorem State.claimsFollowOf_spares (x : Motion) (s : State) (n : Motion) : State.Spares x s (s.claimsFollowOf n) := by
  have withdrawn : State.Spares x s (s.withdrawAll n) := .of_gens rfl rfl fun g granted => by
    unfold State.withdrawAll
    rw [State.onGens_get, withdrawn_granted]
    exact granted
  have failing : State.Spares x s (s.withdrawFailing n) := .of_gens rfl rfl fun g granted => by
    unfold State.withdrawFailing
    rw [State.onGens_get, withdrawnFailing_granted]
    exact granted
  exact withdrawn.ite (failing.ite (.refl x s))

theorem State.prune_spares (x : Motion) (s : State) : State.Spares x s s.prune := by
  have claims : State.Spares x s s.claimsFollow := .foldl (State.claimsFollowOf_spares x) _ s
  rw [State.prune_eq]
  exact claims.trans (.of_same rfl rfl rfl)

theorem State.joins_spares (x : Motion) (s : State) : State.Spares x s s.joins := by
  have join (t : State) (m : Motion) : State.Spares x t (t.joinOf m) := State.Spares.ite (.of_same rfl rfl rfl) (.refl x t)
  exact .foldl join _ s

/-- A hand-over leaves a GRANTED generator alone (R55). -/
theorem handOver_granted (k : Constants) (p : PerMotion Bool) (n : Motion) (seq : Nat) {g : Gen} {h : Motion}
    (granted : g.st = .granted h) : handOver k p n seq g = g := by
  unfold handOver
  rw [granted]

theorem State.grantTo_spares (x : Motion) (s : State) (n : Motion) (counted : Option Motion) (count : Nat) (i : Fin 12) :
    State.Spares x s (s.grantTo n counted count i) := by
  have handed : State.Spares x s (s.onGen i (handOver s.k (s.proofs i) n (s.arb.handed + 1))) :=
    .of_gens rfl rfl fun g granted => by
      rw [State.onGen_get]
      split
      · rw [handOver_granted _ _ _ _ ((Gen.isGrantedTo_iff _ _).1 granted)]
        exact granted
      · exact granted
  have counts (t : State) (a : Arbiter) : State.Spares x t { t with arb := a } := .of_same rfl rfl rfl
  exact (handed.trans (counts _ _)).trans (State.prune_spares x _)

theorem State.grantLoop_spares (x : Motion) (n : Nat) (s : State) : State.Spares x s (State.grantLoop n s) := by
  induction n generalizing s with
  | zero => exact .refl x s
  | succ n ih =>
    unfold State.grantLoop
    split
    · exact .refl x s
    · next t granted =>
      obtain ⟨n, counted, count, i, -, rfl⟩ := State.grantOne_eq_some granted
      exact (State.grantTo_spares x s n counted count i).trans (ih _)

theorem State.returnAll_grants {n : Motion} (other : n ≠ x) (s : State) (g : Fin 12)
    (granted : (s.gens.get g).isGrantedTo x = true) : ((s.returnAll n).gens.get g).isGrantedTo x = true :=
  (s.returnAll_lease other g).granted.trans granted

/-- The recall ends the holds of other motions alone (R82). -/
theorem State.recallHolds_spares (x : Motion) (n : Nat) (s : State) : State.Spares x s (State.recallHolds n s) := by
  induction n generalizing s with
  | zero => exact .refl x s
  | succ n ih =>
    unfold State.recallHolds
    split
    · exact .refl x s
    · next m since chosen =>
      have ended : State.Spares x s (s.endHold m) := fun hold => by
        have other : m.motion ≠ x := fun own => by
          have begun := State.recallNext_eq_some chosen
          rw [hold m own] at begun
          cases begun
        exact ⟨fun d own => State.endHold_motions_other (by rintro rfl; exact other own) s, rfl,
          State.returnAll_grants other s⟩
      exact ended.ite (ended.trans (ih _))

theorem State.arbRun_spares (x : Motion) (n : Nat) (s : State) : State.Spares x s (State.arbRun n s) := by
  induction n generalizing s with
  | zero => exact .refl x s
  | succ n ih =>
    have granted := State.grantLoop_spares x 12 s
    exact (granted.trans (((State.recallHolds_spares x 3 _).ite (.refl x _)).trans (ih _))).ite granted

theorem State.arbitrate_spares (x : Motion) (s0 s : State) : State.Spares x s (State.arbitrate s0 s) := by
  have listed : State.Spares x s s.prune.joins := (State.prune_spares x s).trans (State.joins_spares x _)
  exact ((listed.trans (State.arbRun_spares x 4 _)).trans (State.prune_spares x _)).ite listed

/-! ### The lease that grants keep -/

theorem State.leased_of_grants (k : t.k = s.k) (supply : t.supply = s.supply)
    (grants : ∀ g, (s.gens.get g).isGrantedTo x = true → (t.gens.get g).isGrantedTo x = true) (leased : s.leased x = true) :
    t.leased x = true := by
  have more : s.proven x ≤ t.proven x := by
    unfold State.proven State.inHoldup
    rw [supply]
    split
    exacts [le_rfl, Table.countP_le grants]
  refine decide_eq_true (le_trans ?_ more)
  rw [k]
  exact of_decide_eq_true leased

end Spares

/-! ### The trip effect, which no follower begins (R138) -/

theorem State.trip_of_class {s : State} (legal : s.ClassesLegal) : s.tripInForce = true ↔
    ∃ key, s.isTrue key = true ∧ baseClass key.code = .trip := by
  have effective (key : AlarmKey) : s.alarms.effectiveClass key = .trip ↔ baseClass key.code = .trip := by
    refine ⟨fun h => by_contra fun base => Alarms.ClassesLegal.effectiveClass_ne_trip legal base h, fun base => ?_⟩
    unfold Alarms.effectiveClass
    split
    · next r stored =>
      obtain ⟨mem, rfl⟩ := Alarms.record_mem stored
      rcases legal r mem with same | ⟨rises, -⟩
      · exact same.trans base
      · exact absurd base (baseClass_of_threshold rises)
    · exact base
  constructor
  · intro trip
    obtain ⟨c, mem, trips⟩ := List.any_eq_true.1 trip
    exact ⟨c.key, List.any_eq_true.2 ⟨c, mem, decide_eq_true rfl⟩, (effective _).1 (of_decide_eq_true trips)⟩
  · rintro ⟨key, active, base⟩
    obtain ⟨c, mem, same⟩ := List.any_eq_true.1 active
    refine List.any_eq_true.2 ⟨c, mem, decide_eq_true ?_⟩
    rw [of_decide_eq_true same]
    exact (effective key).2 base

/-- A follower makes no condition true, so that no trip effect is in force that was not before. -/
theorem State.Follows.untripped {s t : State} (h : s.Follows t) (carries : s.Carries t) (legal : s.ClassesLegal)
    (untripped : s.tripInForce = false) : t.tripInForce = false := by
  rw [Bool.eq_false_iff, ne_eq, State.trip_of_class (carries.table.classesLegal legal)]
  rintro ⟨key, active, base⟩
  refine Bool.eq_false_iff.1 untripped ((State.trip_of_class legal).2 ⟨key, ?_, base⟩)
  by_contra absent
  rw [h.drops.stays_false (Bool.eq_false_iff.2 absent)] at active
  cases active

end Sys2Proof.Machine
end

section
/-! SUPPORT. The release proof (06 R93, R95, 07 R116, R119): a dig motion whose run condition holds, and a walk with its minimum
proven, through the completion of the change that the proof makes. -/

namespace Sys2Proof.Machine

/-! ### A dig motion that runs (R92) -/

/-- READY with a demand that its permission grants, its minimum proven, its output energized and its brake proof showing released. -/
structure State.Driven (s : State) (m : Dig) (d : Dir) (b : BrakeState) : Prop where
  state : (s.motions.get m).state = .ready
  demand : (s.motions.get m).demand = some d
  forward : (s.motions.get m).reversal = false
  noHold : (s.motions.get m).holdStart = none
  granted : s.granted m d = true
  leased : s.leased m.motion = true
  shows : s.showsReleased m.motion = true
  brake : (s.motions.get m).brake.state = b

/-- On its terms a RELEASING brake goes on (R93, R118). -/
theorem Brake.follow_releasing {b : Brake} (releasing : b.state = .releasing) (k : Constants) (now : Nat) (stopped : Bool) :
    b.follow k now true stopped = b := by
  unfold Brake.follow
  rw [releasing]
  exact if_pos rfl

/-- On its terms a RELEASED brake has no stop wait (R94, R118). -/
theorem Brake.follow_released {b : Brake} (released : b.state = .released) (k : Constants) (now : Nat) (stopped : Bool) :
    b.follow k now true stopped = b.unwaiting := by
  unfold Brake.follow
  rw [released]
  exact if_pos rfl

section Driven

variable {s t : State} {m n : Dig} {d : Dir} {b : BrakeState}

theorem State.Driven.steady (h : s.Driven m d b) : (s.motions.get m).Steady := ⟨.inr (.inr h.state), h.noHold⟩

theorem State.Driven.runs (h : s.Driven m d b) : s.runs m = true :=
  State.runs_iff.2 ⟨d, h.demand, h.state, h.forward, h.granted⟩

theorem State.granted_of_same (same : s.SameRes t) (m : Dig) (d : Dir) : t.granted m d = s.granted m d := by
  unfold State.granted
  rw [same.res]

/-- What leaves the record, the permissions, the inputs and the grants as they were. -/
theorem State.Driven.kept (h : s.Driven m d b) (same : s.SameRecords t) (res : s.SameRes t)
    (record : t.motions.get m = s.motions.get m)
    (grants : ∀ g, (s.gens.get g).isGrantedTo m.motion = true → (t.gens.get g).isGrantedTo m.motion = true) :
    t.Driven m d b := by
  refine ⟨?_, ?_, ?_, ?_, (State.granted_of_same res m d).trans h.granted,
    State.leased_of_grants same.k same.supply grants h.leased, ?_, ?_⟩
  · rw [record]; exact h.state
  · rw [record]; exact h.demand
  · rw [record]; exact h.forward
  · rw [record]; exact h.noHold
  · unfold State.showsReleased
    rw [same.inputs]
    exact h.shows
  · rw [record]; exact h.brake

theorem State.Driven.motionPass_other (h : s.Driven m d b) (other : m ≠ n) : (s.motionPass n).Driven m d b :=
  h.kept (s.motionPass_same n) (s.motionPass_sameRes n) (State.motionPass_other other s) fun g granted =>
    ((State.motionPass_leaves other s h.steady).2 g).granted.trans granted

/-- In its own pass the motion's RELEASING brake takes its proof, and a RELEASED one stays (R93). -/
theorem State.Driven.motionPass_own (h : s.Driven m d b) (energized : b = .releasing ∨ b = .released) :
    (s.motionPass m).Driven m d .released := by
  have leased : (s.reversalPass m).leased m.motion = true := h.leased
  have reversed : (s.reversalPass m).motions.get m = s.motions.get m := by
    unfold State.reversalPass
    rw [State.onMotion_get, if_pos rfl]
    split
    · rw [← h.forward]
    · rfl
  have readied : ((s.reversalPass m).readyPass m).motions.get m = s.motions.get m := by
    rw [State.readyPass_get, reversed, h.state, leased, MotionState.byLease_waiting (.inr rfl), if_pos rfl, ← h.state]
  let a := (s.reversalPass m).readyPass m
  have runs : a.runs m = true := by
    refine State.runs_iff.2 ⟨d, ?_, ?_, ?_, h.granted⟩ <;> rw [readied]
    exacts [h.demand, h.state, h.forward]
  let b' := (s.motions.get m).brake.follow s.k s.now true (a.stopped m.motion)
  have braked : (a.brakePass m).motions.get m = { s.motions.get m with brake := b' } := by
    unfold State.brakePass
    rw [State.onMotion_get, if_pos rfl, runs, readied]
    rfl
  have shows : (a.brakePass m).showsReleased m.motion = true := h.shows
  have proven : ∃ c, ((a.brakePass m).proofPass m).motions.get m = { s.motions.get m with brake := c } ∧ c.state = .released := by
    unfold State.proofPass
    dsimp only
    rw [braked]
    rcases energized with rfl | rfl
    · have same : b' = (s.motions.get m).brake := Brake.follow_releasing h.brake _ _ _
      dsimp only
      rw [same, h.brake]
      dsimp only
      rw [if_pos shows, State.onMotion_get, if_pos rfl, braked]
      exact ⟨_, rfl, rfl⟩
    · have released : b'.state = .released := by
        show (Brake.follow _ _ _ _ _).state = _
        rw [Brake.follow_released h.brake]
        exact h.brake
      dsimp only
      rw [released]
      exact ⟨_, braked, released⟩
  obtain ⟨c, record, released⟩ := proven
  have rested : s.motionPass m = (a.brakePass m).proofPass m := by
    show ((a.brakePass m).proofPass m).restPass m = _
    refine if_neg ?_
    rw [record, released]
    decide
  have lease := (State.motionPass_followsLease m s h.steady).2
  have same := s.motionPass_same m
  have final : (s.motionPass m).motions.get m = { s.motions.get m with brake := c } := by
    rw [rested]
    exact record
  refine ⟨?_, ?_, ?_, ?_, (State.granted_of_same (s.motionPass_sameRes m) m d).trans h.granted,
    State.leased_of_grants same.k same.supply (fun g granted => (lease g).granted.trans granted) h.leased, ?_, ?_⟩
  · rw [final]; exact h.state
  · rw [final]; exact h.demand
  · rw [final]; exact h.forward
  · rw [final]; exact h.noHold
  · unfold State.showsReleased
    rw [same.inputs]
    exact h.shows
  · rw [final]; exact released

/-- The walk's pass changes the record of a LOCKED motion alone (R106). -/
theorem State.walkPass_get_unlocked {s : State} {m : Dig} (unlocked : (s.motions.get m).state ≠ .locked) :
    s.walkPass.motions.get m = s.motions.get m := by
  have proof (t : State) : t.walkProofPass.motions = t.motions := by
    unfold State.walkProofPass
    split
    · split
      exacts [rfl, State.clearCondition_motions _ _]
    · split <;> rfl
    · rfl
    · rfl
  have rest (t : State) (same : t.motions = s.motions) : t.walkRestPass.motions.get m = s.motions.get m := by
    have kept : t.motions.get m = s.motions.get m := congrArg (PerDig.get · m) same
    unfold State.walkRestPass
    dsimp only
    split
    · split
      · next o _ =>
        rw [show (t.walkFinish o).motions.get m = (t.motions.get m).unlocked from PerDig.get_map _ _ m, kept]
        exact if_neg unlocked
      · split
        · exact kept
        split
        · split <;> exact kept
        split <;> exact kept
    · exact kept
  exact rest _ (proof _)

theorem State.Driven.walkPass (h : s.Driven m d b) : s.walkPass.Driven m d b :=
  h.kept s.walkPass_same s.walkPass_sameRes (State.walkPass_get_unlocked (by rw [h.state]; decide)) fun g granted =>
    ((s.walkPass_leaves m h.steady).2 g).granted.trans granted

theorem State.Driven.passes (h : s.Driven m d b) (energized : b = .releasing ∨ b = .released) :
    s.passes.Driven m d .released := by
  have digs : s.motionsPass.Driven m d .released := by
    cases m with
    | hoist => exact ((h.motionPass_own energized).motionPass_other (by decide)).motionPass_other (by decide)
    | drag => exact ((h.motionPass_other (by decide)).motionPass_own energized).motionPass_other (by decide)
    | swing => exact ((h.motionPass_other (by decide)).motionPass_other (by decide)).motionPass_own energized
  exact digs.walkPass

theorem State.Driven.arbitrate (h : s.Driven m d b) (s0 : State) : (State.arbitrate s0 s).Driven m d b := by
  have spared := State.arbitrate_spares m.motion s0 s fun n own => by
    rw [Dig.motion_injective own]
    exact h.noHold
  exact h.kept (State.arbitrate_same s0 s) (State.arbitrate_sameRes s0 s) (spared.record m rfl) spared.grants

theorem State.Driven.starvedSync (h : s.Driven m d b) : s.starvedSync.Driven m d b := by
  have record : s.starvedSync.motions = s.motions := by
    unfold State.starvedSync
    refine List.foldlRecOn (motive := fun t : State => t.motions = s.motions) _ _ rfl fun t same n _ => ?_
    unfold State.starvedFollows
    split
    exacts [same, (State.clearCondition_motions _ _).trans same]
  exact h.kept s.starvedSync_same s.starvedSync_sameRes (by rw [record]) fun g granted =>
    ((State.starvedSync_leaves m s h.steady).2 g).granted.trans granted

/-- A permit in the demand direction, once no trip effect is in force (R95). -/
theorem State.Driven.permitOf (h : s.Driven m d .released) (untripped : s.tripInForce = false) : s.permitOf m = some d := by
  unfold State.permitOf
  dsimp only
  rw [h.runs, h.brake, h.leased, untripped, h.demand]
  rfl

end Driven

/-! ### The followers of a change whose conditions are at their truth -/

/-- The last changes before the permits are composed begin no trip effect. -/
theorem State.beforeCompose_untripped {u : State} (legal : u.ClassesLegal) (untripped : u.tripInForce = false) (s0 : State) :
    (State.arbitrate s0 u.resolverFollow.passes).motionsPass.tripInForce = false ∧
      (State.arbitrate s0 u.resolverFollow.passes).passes.starvedSync.tripInForce = false := by
  let c := State.arbitrate s0 u.resolverFollow.passes
  have follows : u.Follows c :=
    (u.resolverFollow_follows.trans (State.passes_follows _)).trans (State.arbitrate_follows s0 _)
  have carries : u.Carries c :=
    (u.resolverFollow_carries.trans (State.passes_carries _)).trans (State.arbitrate_carries s0 _)
  exact ⟨(follows.trans (State.motionsPass_follows _)).untripped (carries.trans (State.motionsPass_carries _)) legal untripped,
    ((follows.trans (State.passes_follows _)).trans (State.starvedSync_follows _)).untripped
      ((carries.trans (State.passes_carries _)).trans (State.starvedSync_carries _)) legal untripped⟩

theorem State.brakeReleaseProof_unacted {s : State} (mains : s.OnMains) {m : Motion} (notSet : (s.brake m).state ≠ .set) :
    s.releaseProofComes m = s := by
  unfold State.releaseProofComes
  rw [State.inRun_onMains mains, if_neg fun h => notSet h.1]
  unfold State.brakeShowsReleased
  rw [State.inRun_onMains mains, if_neg notSet]

/-- A release proof of a brake that is not SET has no effect of its own; a step that waits for it ends in the completion (R93). -/
theorem exec_brakeReleaseProof {s : State} (mains : s.OnMains) {m : Motion} (notSet : (s.brake m).state ≠ .set) :
    exec (.brakeReleaseProof m) s = .next (State.settle s { s with inputs := s.inputs.setBrakeProof m true }) := by
  have unacted := State.brakeReleaseProof_unacted (s := { s with inputs := s.inputs.setBrakeProof m true }) mains (m := m) notSet
  show Host.Outcome.next (s.levelEvent _ _) = _
  rw [s.levelEvent_runs _ _ mains.1]
  exact congrArg (fun x => Host.Outcome.next (State.settle s x)) unacted

/-! ### The release proof of a dig motion (R93, R95) -/

/-- A motion whose run condition holds, once its brake proof shows released. -/
theorem State.driven_of_runs {s : State} {m : Dig} {d : Dir} (mains : s.OnMains) (lawful : s.MotionsLawful) (ready : s.ReadyLaw)
    (releasing : (s.motions.get m).brake.state = .releasing) (demand : (s.motions.get m).demand = some d)
    (runs : s.runs m = true) :
    ({ s with inputs := s.inputs.setBrakeProof m.motion true } : State).Driven m d .releasing := by
  obtain ⟨e, same, state, forward, granted⟩ := State.runs_iff.1 runs
  rw [demand] at same
  cases same
  have noHold : (s.motions.get m).holdStart = none := (lawful m).holdStart (by rw [state]; decide)
  exact ⟨state, demand, forward, noHold, granted, decide_eq_true ((ready mains m (.inr state)).1 state),
    PerMotion.get_set_self s.inputs.brakeProof m.motion true, releasing⟩

theorem brakeReleaseProof_dig {s : State} {m : Dig} {d : Dir} (mains : s.OnMains) (follow : s.ConditionsFollow)
    (legal : s.ClassesLegal) (resolved : s.ResolverFollows) (lawful : s.MotionsLawful) (ready : s.ReadyLaw)
    (untripped : s.tripInForce = false) (releasing : (s.motions.get m).brake.state = .releasing)
    (demand : (s.motions.get m).demand = some d) (runs : s.runs m = true) :
    ∃ t, exec (.brakeReleaseProof m.motion) s = .next t ∧ (t.motions.get m).brake.state = .released ∧
      (t.motions.get m).permit = some d ∧
      ({ s with inputs := s.inputs.setBrakeProof m.motion true } : State).SameRecords t := by
  let u : State := { s with inputs := s.inputs.setBrakeProof m.motion true }
  have followThere : u.ConditionsFollow := follow
  have final := followThere.settle_eq (u := u) mains s
  have sameRes : u.SameRes u.resolverFollow := ⟨(congrArg State.res resolved :)⟩
  have driven : u.resolverFollow.Driven m d .releasing :=
    (State.driven_of_runs mains lawful ready releasing demand runs).kept u.resolverFollow_same sameRes rfl fun _ => id
  have before := (((driven.passes (.inl rfl)).arbitrate s).passes (.inr rfl)).starvedSync
  have permit := before.permitOf (State.beforeCompose_untripped (u := u) legal untripped s).2
  refine ⟨_, exec_brakeReleaseProof mains (by rw [State.brake_motion, releasing]; decide), ?_, ?_, State.settle_same s u⟩
  · show ((State.settle s u).motions.get m).brake.state = _
    rw [final, State.compose_get]
    exact before.brake
  · show ((State.settle s u).motions.get m).permit = _
    rw [final, State.compose_get]
    exact permit

end Sys2Proof.Machine
end

section
/-! SUPPORT. The release proof of the walk (07 R116, R119), and the statement on both proofs. -/

namespace Sys2Proof.Machine

/-! ### The walk in PREPARING and in its stride -/

/-- PREPARING with its minimum proven, no ending, and its output energized. -/
structure State.Prepares (s : State) : Prop where
  state : s.walk.state = .preparing
  endless : s.walk.ending = none
  brake : s.walk.brake.state = .releasing
  leased : s.leased .walk = true

/-- STEPPING in a phase other than DWELL, with its minimum proven and its brake RELEASED. -/
structure State.Strides (s : State) (p : Phase) (d : Dir) : Prop where
  state : s.walk.state = .stepping
  endless : s.walk.ending = none
  phase : s.walk.phase = some p
  timed : p ≠ .dwell
  direction : s.walk.direction = d
  brake : s.walk.brake.state = .released
  prepared : s.walk.prepareTimer = none
  leased : s.leased .walk = true

theorem phaseOf_ne_dwell (k : Constants) (p : Nat) : phaseOf k p ≠ .dwell := by
  unfold phaseOf
  split
  · decide
  split
  · decide
  split <;> decide

section Walk

variable {s t : State} {p : Phase} {d : Dir}

/-! ### What the dig motions leave to the walk -/

theorem State.clearCondition_gens (s : State) (key : AlarmKey) : (s.clearCondition key).gens = s.gens := by
  unfold State.clearCondition
  split <;> rfl

/-- A dig motion's pass returns its own generators alone. -/
theorem State.motionPass_grants_walk (m : Dig) (s : State) (g : Fin 12) (granted : (s.gens.get g).isGrantedTo .walk = true) :
    ((s.motionPass m).gens.get g).isGrantedTo .walk = true := by
  have other : m.motion ≠ .walk := (Dig.walk_ne_motion m).symm
  have proof (t : State) : (t.proofPass m).gens = t.gens := by
    unfold State.proofPass
    dsimp only
    split
    · split
      exacts [rfl, State.clearCondition_gens _ _]
    · split <;> rfl
    · rfl
    · rfl
  have ended (t : State) (granted : (t.gens.get g).isGrantedTo .walk = true) :
      ((t.endHold m).gens.get g).isGrantedTo .walk = true := State.returnAll_grants other t g granted
  have rest (t : State) (granted : (t.gens.get g).isGrantedTo .walk = true) :
      ((t.restPass m).gens.get g).isGrantedTo .walk = true := by
    unfold State.restPass State.beginHold
    dsimp only
    split
    · split
      · exact granted
      split
      · split
        · exact granted
        split
        exacts [ended t granted, granted]
      split
      exacts [State.returnAll_grants other t g granted, granted]
    · exact granted
  refine rest _ ?_
  rw [proof]
  exact granted

theorem State.motionsPass_leased_walk (leased : s.leased .walk = true) : s.motionsPass.leased .walk = true := by
  have one (t : State) (m : Dig) (leased : t.leased .walk = true) : (t.motionPass m).leased .walk = true :=
    State.leased_of_grants (t.motionPass_same m).k (t.motionPass_same m).supply (State.motionPass_grants_walk m t) leased
  exact one _ _ (one _ _ (one s _ leased))

/-! ### PREPARING becomes STEPPING (R116) -/

theorem State.Prepares.kept (h : s.Prepares) (walk : t.walk = s.walk) (leased : t.leased .walk = true) : t.Prepares :=
  ⟨by rw [walk]; exact h.state, by rw [walk]; exact h.endless, by rw [walk]; exact h.brake, leased⟩

theorem State.Prepares.walkPass (h : s.Prepares) (shows : s.showsReleased .walk = true) : s.walkPass = s.walkReleased := by
  have terms : s.walkTerms = true := by
    unfold State.walkTerms
    dsimp only
    rw [h.endless, h.leased, h.state]
    rfl
  have followed : s.walkBrakePass = s := by
    show ({ s with walk := { s.walk with brake := s.walk.brake.follow s.k s.now s.walkTerms (s.stopped .walk) } } : State) = s
    rw [terms, Brake.follow_releasing h.brake]
  have proven : s.walkProofPass = s.walkReleased := by
    unfold State.walkProofPass
    rw [h.brake]
    exact if_pos shows
  have released : s.walkReleased.walk.brake.state ≠ .set := by
    rw [State.walkReleased_walk]
    unfold WalkRec.released
    rw [h.state]
    exact nofun
  unfold State.walkPass State.walkRestPass
  rw [followed, proven]
  exact if_neg released

theorem State.Prepares.strides (h : s.Prepares) (shows : s.showsReleased .walk = true) :
    s.walkPass.Strides (phaseOf s.k s.stride) s.walk.direction := by
  have record : s.walkPass.walk = { s.walk.stepBegun s.k (phaseOf s.k s.stride) with
      brake := s.walk.brake.provenReleased, prepareTimer := none } := by
    rw [h.walkPass shows, State.walkReleased_walk]
    unfold WalkRec.released
    rw [h.state]
    rfl
  have leased : s.walkPass.leased .walk = true := by
    rw [h.walkPass shows]
    exact h.leased
  refine ⟨?_, ?_, ?_, phaseOf_ne_dwell _ _, ?_, ?_, ?_, leased⟩ <;> rw [record]
  · rfl
  · exact h.endless
  · rfl
  · rfl
  · rfl

/-! ### STEPPING stays (R118) -/

theorem State.Strides.kept (h : s.Strides p d) (walk : t.walk = s.walk) (leased : t.leased .walk = true) : t.Strides p d :=
  ⟨by rw [walk]; exact h.state, by rw [walk]; exact h.endless, by rw [walk]; exact h.phase, h.timed,
    by rw [walk]; exact h.direction, by rw [walk]; exact h.brake, by rw [walk]; exact h.prepared, leased⟩

theorem State.Strides.walkPass (h : s.Strides p d) (untripped : s.tripInForce = false) : s.walkPass.Strides p d := by
  have terms : s.walkTerms = true := by
    have timed : s.walk.phase ≠ some .dwell := by
      rw [h.phase]
      exact fun same => h.timed (Option.some.inj same)
    unfold State.walkTerms
    dsimp only
    rw [h.endless, h.leased, h.state, untripped, decide_eq_true timed]
    rfl
  let w := { s.walk with brake := s.walk.brake.unwaiting }
  have followed : s.walkBrakePass = s.onWalk fun _ => w := by
    show (s.onWalk fun _ => { s.walk with brake := s.walk.brake.follow s.k s.now s.walkTerms (s.stopped .walk) }) = _
    rw [terms, Brake.follow_released h.brake]
  have proven : (s.onWalk fun _ => w).walkProofPass = s.onWalk fun _ => w := by
    unfold State.walkProofPass
    rw [show (s.onWalk fun _ => w).walk.brake.state = .released from h.brake]
  have rested : s.walkPass = s.onWalk fun _ => w := by
    unfold State.walkPass State.walkRestPass
    rw [followed, proven]
    refine if_neg ?_
    rw [show (s.onWalk fun _ => w).walk.brake.state = .released from h.brake]
    decide
  rw [rested]
  exact ⟨h.state, h.endless, h.phase, h.timed, h.direction, h.brake, h.prepared, h.leased⟩

theorem State.Strides.motionsPass (h : s.Strides p d) : s.motionsPass.Strides p d :=
  h.kept s.motionsPass_walk (State.motionsPass_leased_walk h.leased)

theorem State.Strides.arbitrate (h : s.Strides p d) (s0 : State) : (State.arbitrate s0 s).Strides p d := by
  have spared := State.arbitrate_spares .walk s0 s fun m own => by cases m <;> cases own
  exact h.kept spared.walk
    (State.leased_of_grants (State.arbitrate_same s0 s).k (State.arbitrate_same s0 s).supply spared.grants h.leased)

theorem State.Strides.starvedSync (h : s.Strides p d) : s.starvedSync.Strides p d := by
  have gens : s.starvedSync.gens = s.gens := by
    unfold State.starvedSync
    refine List.foldlRecOn (motive := fun t : State => t.gens = s.gens) _ _ rfl fun t same n _ => ?_
    unfold State.starvedFollows
    split
    exacts [same, (State.clearCondition_gens _ _).trans same]
  exact h.kept s.starvedSync_walk
    (State.leased_of_grants s.starvedSync_same.k s.starvedSync_same.supply (fun g => by rw [gens]; exact id) h.leased)

/-- The permit of a stride, once no trip effect is in force (R119). -/
theorem State.Strides.walkPermitOf (h : s.Strides p d) (untripped : s.tripInForce = false) : s.walkPermitOf = some d := by
  have stepping : s.walk.stepping = true := by
    have timed : s.walk.phase ≠ some .dwell := by
      rw [h.phase]
      exact fun same => h.timed (Option.some.inj same)
    unfold WalkRec.stepping
    rw [h.state, h.endless, decide_eq_true timed]
    rfl
  unfold State.walkPermitOf
  dsimp only
  rw [stepping, h.brake, h.leased, untripped, h.direction]
  rfl

end Walk

/-! ### The release proof of the walk (R116, R119) -/

theorem State.stride_of_same {s t : State} (walk : t.walk = s.walk) (chans : t.chans = s.chans) (k : t.k = s.k) :
    t.stride = s.stride := by
  unfold State.stride State.rawCam
  rw [walk, chans, k]

theorem State.compose_walk (s : State) : s.compose.walk = { s.walk with permit := s.walkPermitOf } := rfl

/-- The proof begins the stride, and the change that completes it keeps the stride and asserts its permit. -/
theorem brakeReleaseProof_walk {s : State} (mains : s.OnMains) (follow : s.ConditionsFollow) (legal : s.ClassesLegal)
    (untripped : s.tripInForce = false) (prepares : s.Prepares) :
    ∃ v t : State, v.Strides (phaseOf s.k s.stride) s.walk.direction ∧ exec (.brakeReleaseProof .walk) s = .next t ∧
      t.walk = { v.walk with permit := some s.walk.direction } ∧
        ({ s with inputs := s.inputs.setBrakeProof .walk true } : State).SameRecords t := by
  let u : State := { s with inputs := s.inputs.setBrakeProof .walk true }
  have followThere : u.ConditionsFollow := follow
  have final := followThere.settle_eq (u := u) mains s
  obtain ⟨quietDigs, quietEnd⟩ := State.beforeCompose_untripped (u := u) legal untripped s
  let w := u.resolverFollow
  have same : u.SameRecords w.motionsPass := u.resolverFollow_same.trans w.motionsPass_same
  have walk : w.motionsPass.walk = s.walk := w.motionsPass_walk
  have digs : w.motionsPass.Prepares := prepares.kept walk (State.motionsPass_leased_walk prepares.leased)
  have shows : w.motionsPass.showsReleased .walk = true := by
    unfold State.showsReleased
    rw [same.inputs]
    exact PerMotion.get_set_self s.inputs.brakeProof .walk true
  have begun : w.passes.Strides (phaseOf s.k s.stride) s.walk.direction := by
    have strides := digs.strides shows
    rw [State.stride_of_same walk same.chans same.k, same.k, walk] at strides
    exact strides
  have again : (State.arbitrate s u.resolverFollow.passes).passes.starvedSync.Strides (phaseOf s.k s.stride) s.walk.direction :=
    ((begun.arbitrate s).motionsPass.walkPass quietDigs).starvedSync
  refine ⟨_, _, again, exec_brakeReleaseProof mains (by
    rw [show s.brake .walk = s.walk.brake from rfl, prepares.brake]
    decide), ?_, State.settle_same s u⟩
  show (State.settle s u).walk = _
  rw [final, State.compose_walk, again.walkPermitOf quietEnd]

theorem State.permit_motion (s : State) (m : Dig) : s.permit m.motion = (s.motions.get m).permit := by
  cases m <;> rfl

/-- On mains the line of the permit that a motion has is driven (R95). -/
theorem State.permitLine_of_permit {s : State} {m : Motion} {d : Dir} (mains : s.OnMains) (permit : s.permit m = some d) :
    s.permitLine m d = true := by
  obtain ⟨running, run⟩ := mains
  unfold State.permitLine State.driven State.isRunning State.inHoldup
  rw [permit, running, run]
  simp

/-- Settles O40: in the completion of the proof the motion's own pass, or the walk's, takes the RELEASING brake to RELEASED; the
arbiter recalls nothing of a motion that holds its minimum, and the permit is composed on the terms that still hold. -/
theorem releaseProofAssertsPermit : Obligations.ReleaseProofAssertsPermit := by
  refine ⟨fun s m d mains follow legal resolved lawful ready untripped releasing demand runs => ?_,
    fun s mains follow legal untripped state endless brake leased => ?_⟩
  · obtain ⟨t, taken, released, permit, same⟩ :=
      brakeReleaseProof_dig mains follow legal resolved lawful ready untripped releasing demand runs
    refine ⟨t, taken, released, permit, ?_, same.inputs, same.chans, same.zones⟩
    have there : t.OnMains := ⟨same.power.trans mains.1, (congrArg Supply.state same.supply).trans mains.2⟩
    exact State.permitLine_of_permit there ((t.permit_motion m).trans permit)
  · obtain ⟨v, t, strides, taken, walk, same⟩ :=
      brakeReleaseProof_walk mains follow legal untripped ⟨state, endless, brake, leased⟩
    refine ⟨t, taken, ?_, ?_, ?_, ?_, ?_, same.chans, same.zones⟩ <;> rw [walk]
    exacts [strides.state, strides.phase, strides.brake, strides.prepared]

end Sys2Proof.Machine
end

section
/-! SUPPORT. The walk through the completion of a change (07 R126–R130): the step that the followers leave as it is, the ending that
they leave or finish, and the finish that no raise undoes. -/

namespace Sys2Proof.Machine

/-! ### What the followers leave alone in the walk record -/

/-- The step of the walk is as before: its state, its phase, its marks, its counts, and how it ends or ended. -/
structure WalkRec.SameStep (w w' : WalkRec) : Prop where
  state : w'.state = w.state
  phase : w'.phase = w.phase
  ending : w'.ending = w.ending
  stepsDone : w'.stepsDone = w.stepsDone
  haltRequested : w'.haltRequested = w.haltRequested
  interruptCause : w'.interruptCause = w.interruptCause
  lastOutcome : w'.lastOutcome = w.lastOutcome
  lifted : w'.lifted = w.lifted
  setDownSeen : w'.setDownSeen = w.setDownSeen

theorem WalkRec.SameStep.refl (w : WalkRec) : w.SameStep w := by constructor <;> rfl

theorem WalkRec.SameStep.trans {w x y : WalkRec} (h : w.SameStep x) (g : x.SameStep y) : w.SameStep y :=
  ⟨g.state.trans h.state, g.phase.trans h.phase, g.ending.trans h.ending, g.stepsDone.trans h.stepsDone,
    g.haltRequested.trans h.haltRequested, g.interruptCause.trans h.interruptCause, g.lastOutcome.trans h.lastOutcome,
    g.lifted.trans h.lifted, g.setDownSeen.trans h.setDownSeen⟩

/-- Only the release proof that ends PREPARING begins a step (R116, R129). -/
theorem WalkRec.released_sameStep {w : WalkRec} (begun : w.state ≠ .preparing) (k : Constants) (p : Phase) :
    w.SameStep (w.released k p) := by
  unfold WalkRec.released
  dsimp only
  split
  · next preparing => exact absurd preparing begun
  · split <;> constructor <;> rfl
  · constructor <;> rfl
  · constructor <;> rfl

theorem WalkRec.Follow.sameStep {shows : Bool} {w w' : WalkRec} (change : w.Follow shows w') (begun : w.state ≠ .preparing) :
    w.SameStep w' := by
  cases change with
  | released k p => exact WalkRec.released_sameStep begun k p
  | _ => constructor <;> rfl

/-- Past PREPARING, the followers leave the step of a walk without an ending as it is. -/
theorem State.Brings.sameStep {s t : State} (h : s.Evolves t) (begun : s.walk.state ≠ .preparing)
    (endless : s.walk.ending = none) : s.walk.SameStep t.walk := by
  refine State.Evolves.walk h (P := fun w => s.walk.SameStep w) (fun w w' same change => ?_) (fun w o same ending => ?_) (.refl _)
  · exact same.trans (change.sameStep (by rw [same.state]; exact begun))
  · rw [same.ending, endless] at ending
    cases ending

theorem WalkRec.Follow.stepsDone {shows : Bool} {w w' : WalkRec} (change : w.Follow shows w') : w'.stepsDone = w.stepsDone := by
  by_cases begun : w.state = .preparing
  · cases change with
    | released k p =>
      unfold WalkRec.released
      rw [begun]
      rfl
    | _ => rfl
  · exact (change.sameStep begun).stepsDone

/-- No follower counts a step. -/
theorem State.Brings.stepsDone {s t : State} (h : s.Evolves t) : t.walk.stepsDone = s.walk.stepsDone :=
  State.Evolves.walk h (P := fun w => w.stepsDone = s.walk.stepsDone) (fun _ _ same change => change.stepsDone.trans same)
    (fun _ _ same _ _ => same) rfl

/-! ### A walk that ends (R126) -/

/-- The walk has an ending, or has finished with it. -/
def WalkRec.EndsAs (w : WalkRec) (o : WalkOutcome) : Prop :=
  w.ending = some o ∨ (w.state = .idle ∧ w.ending = none ∧ w.lastOutcome = some o)

theorem WalkRec.EndsAs.follow {shows : Bool} {w w' : WalkRec} {o : WalkOutcome} (h : w.EndsAs o) (change : w.Follow shows w') :
    w'.EndsAs o := by
  rcases h with ending | ⟨idle, endless, outcome⟩
  · exact .inl (change.ending.trans ending)
  · have same := change.sameStep (by rw [idle]; decide)
    exact .inr ⟨same.state.trans idle, same.ending.trans endless, same.lastOutcome.trans outcome⟩

theorem WalkRec.EndsAs.finished {w : WalkRec} {o p : WalkOutcome} (h : w.EndsAs o) (ending : w.ending = some p) :
    (w.finished p).EndsAs o := by
  rcases h with same | ⟨-, endless, -⟩
  · exact .inr ⟨rfl, rfl, ending.symm.trans same⟩
  · rw [endless] at ending
    cases ending

theorem State.Brings.endsAs {s t : State} {o : WalkOutcome} (h : s.Evolves t) (ends : s.walk.EndsAs o) : t.walk.EndsAs o :=
  State.Evolves.walk h (P := fun w => w.EndsAs o) (fun _ _ ends change => ends.follow change)
    (fun _ _ ends ending _ => ends.finished ending) ends

/-- After a completion the walk has a permit in STEPPING without an ending alone (R119). -/
theorem State.settle_walkPermit {u : State} (mains : u.OnMains) (s0 : State)
    (still : (State.settle s0 u).walk.state ≠ .stepping ∨ (State.settle s0 u).walk.ending ≠ none) :
    (State.settle s0 u).walk.permit = none := by
  refine Option.eq_none_iff_forall_ne_some.2 fun d permit => ?_
  obtain ⟨stepping, endless, -⟩ := (State.settle_permits s0 mains).2 d permit
  exact still.elim (absurd stepping) (absurd endless)

theorem WalkRec.EndsAs.still {w : WalkRec} {o : WalkOutcome} (h : w.EndsAs o) : w.state ≠ .stepping ∨ w.ending ≠ none := by
  rcases h with ending | ⟨idle, -⟩
  · exact .inr (by rw [ending]; exact nofun)
  · exact .inl (by rw [idle]; decide)

/-! ### The raises give no motion a generator (R62, R138) -/

/-- A trip leaves no move with a holder, and a generator that moves nowhere as it is (R62). -/
theorem trippedMove_gives (k : Constants) (p : PerMotion Bool) (g : Gen) (x : Motion) :
    (g.isGrantedTo x = false → (trippedMove k p g).isGrantedTo x = false) ∧
      (g.isClaimOf x = false → (trippedMove k p g).isClaimOf x = false) := by
  by_cases moves : ∃ v, g.st = .moving v
  · obtain ⟨v, moving⟩ := moves
    have ended : (trippedMove k p g).isGrantedTo x = false ∧ (trippedMove k p g).isClaimOf x = false := by
      unfold trippedMove
      rw [moving]
      dsimp only
      split
      · exact ⟨rfl, rfl⟩
      split
      · exact ⟨rfl, rfl⟩
      · cases v.lockPending <;> exact ⟨rfl, rfl⟩
    exact ⟨fun _ => ended.1, fun _ => ended.2⟩
  · rw [trippedMove_not_moving k p fun v moving => moves ⟨v, moving⟩]
    exact ⟨id, id⟩

theorem State.raiseCondition_gives (s : State) (key : AlarmKey) : s.GivesNothing (s.raiseCondition key) := fun g x => by
  rcases s.raiseCondition_gens key g with same | ⟨-, tripped⟩
  · rw [same]
    exact ⟨id, id⟩
  · rw [tripped]
    exact trippedMove_gives _ _ _ x

theorem State.setCondition_gives (s : State) (key : AlarmKey) (truth : Bool) : s.GivesNothing (s.setCondition key truth) :=
  (s.raiseCondition_gives key).ite (s.clearCondition_gives key)

theorem State.syncConditions_gives (s : State) : s.GivesNothing s.syncConditions := by
  have channels : s.GivesNothing s.syncChannels :=
    ((State.GivesNothing.foldl (fun s _ => (State.GivesNothing.refl s).ite (s.clearCondition_gives _)) Motion.all s).trans
      (.foldl (fun s _ => s.setCondition_gives _ _) Motion.all _)).trans
      (.foldl (fun s _ => s.setCondition_gives _ _) Motion.all _)
  have gens (t : State) : t.GivesNothing t.gensReport :=
    ((State.GivesNothing.foldl (fun s _ => s.setCondition_gives _ _) gensAll t).trans
      (.foldl (fun s _ => s.setCondition_gives _ _) gensAll _)).trans
      (.foldl (fun s _ => s.setCondition_gives _ _) gensAll _)
  have zones (t : State) : t.GivesNothing t.syncZones := by
    unfold State.syncZones
    exact (State.GivesNothing.foldl (fun s _ => s.setCondition_gives _ _) slotsAll t).trans (State.setCondition_gives _ _ _)
  exact (channels.trans ((State.GivesNothing.refl _).ite (gens _))).trans (zones _)

/-! ### A walk that has finished, through the completion (R126) -/

section Finished

variable {w : WalkRec} {o : WalkOutcome}

/-- Neither a stop, a trip nor a halt finds a walk to act on (R127, R128). -/
theorem WalkRec.Finished.stoppedBy (h : w.Finished o) (k : Constants) (c : Cause) : w.stoppedBy k c = w := by
  unfold WalkRec.stoppedBy
  rw [h.ending, h.state]
  rfl

theorem WalkRec.Finished.tripped (h : w.Finished o) (k : Constants) (c : Cause) : w.tripped k c = w := by
  unfold WalkRec.tripped
  rw [if_neg fun interrupted => by rw [h.state] at interrupted; cases interrupted.1]
  exact h.stoppedBy k c

theorem WalkRec.Finished.halted (h : w.Finished o) (k : Constants) (tub : Bool) : w.halted k tub = w := by
  unfold WalkRec.halted
  rw [h.ending, h.state]
  rfl

theorem State.Brings.finished {s t : State} (h : s.Evolves t) (finished : s.walk.Finished o) : t.walk.Finished o :=
  State.Evolves.walk h (P := fun w => w.Finished o) (fun _ _ finished change => finished.follow change)
    (fun w p finished ending => by rw [finished.ending] at ending; cases ending) finished

end Finished

theorem State.takes_of_finished {s : State} {o : WalkOutcome} (h : s.walk.Finished o) : s.takes .walk = false := by
  refine State.takes_walk_eq_false.2 fun walks => ?_
  rcases walks.2 with e | e <;> rw [h.state] at e <;> cases e

/-- IDLE with an outcome, its brake SET, and granted nothing. -/
structure State.WalkOver (s : State) (o : WalkOutcome) : Prop where
  walk : s.walk.Finished o
  ungranted : ∀ g, (s.gens.get g).isGrantedTo .walk = false

theorem State.WalkOver.evolves {s t : State} {o : WalkOutcome} (h : s.WalkOver o) (evolves : s.Evolves t)
    (gives : s.GivesNothing t) : t.WalkOver o :=
  ⟨evolves.finished h.walk, fun g => (gives g .walk).1 (h.ungranted g)⟩

theorem State.WalkOver.raises {s t : State} {o : WalkOutcome} (h : s.WalkOver o) (raises : s.Raises t)
    (gives : s.GivesNothing t) : t.WalkOver o := by
  refine ⟨raises.pair .hoist (P := fun x => x.2.Finished o) (fun x y finished change => ?_) h.walk,
    fun g => (gives g .walk).1 (h.ungranted g)⟩
  cases change with
  | trip r w k c => exact (finished.tripped k c).symm ▸ finished
  | stopDig => exact finished
  | stopWalk r w k c => exact (finished.stoppedBy k c).symm ▸ finished
  | halt r w k tub => exact (finished.halted k tub).symm ▸ finished

/-- A walk that is over in the first passes is over at the end of the change, and holds nothing. -/
theorem State.WalkOver.afterPasses {v : State} {o : WalkOutcome} (h : v.passes.WalkOver o) (s0 : State) :
    (State.arbitrate s0 v.passes).passes.starvedSync.compose.walk.Finished o ∧
      (State.arbitrate s0 v.passes).passes.starvedSync.compose.proven .walk = 0 :=
  ⟨(State.afterPasses_evolves s0 v.passes).finished h.walk,
    ((⟨State.takes_of_finished h.walk, h.ungranted⟩ : v.passes.Bare .walk).holdsNothing s0).1⟩

/-- A walk that is over before the completion of a change is over after it, whatever is raised. -/
theorem State.WalkOver.settle {u : State} {o : WalkOutcome} (h : u.WalkOver o) (mains : u.OnMains) (s0 : State) :
    (State.settle s0 u).walk.Finished o ∧ (State.settle s0 u).proven .walk = 0 := by
  have synced := h.raises u.syncConditions_raises u.syncConditions_gives
  rw [State.settle_onMains s0 mains]
  unfold State.settleInRun
  generalize u.syncConditions = v at synced
  have resolved : v.resolverFollow.WalkOver o := ⟨synced.walk, synced.ungranted⟩
  exact (resolved.evolves (State.passes_evolves _) (State.passes_gives _)).afterPasses s0

/-! ### A walk with an ending and its brake SET (R126) -/

/-- In its pass it finishes at once. -/
theorem State.walkPass_of_ending {s : State} {o : WalkOutcome} (ending : s.walk.ending = some o)
    (set : s.walk.brake.state = .set) : s.walkPass = s.walkFinish o := by
  have followed : s.walkBrakePass = s := by
    show ({ s with walk := { s.walk with brake := s.walk.brake.follow s.k s.now s.walkTerms (s.stopped .walk) } } : State) = s
    rw [Brake.follow_at_rest (.inl set)]
  have proven : s.walkProofPass = s := by
    unfold State.walkProofPass
    rw [set]
  unfold State.walkPass State.walkRestPass
  rw [followed, proven]
  dsimp only
  rw [if_pos set, ending]

theorem State.walkFinish_over {s : State} (set : s.walk.brake.state = .set) (o : WalkOutcome) : (s.walkFinish o).WalkOver o :=
  ⟨⟨rfl, rfl, rfl, set⟩, s.returnAll_ungranted .walk⟩

/-- The completion of a change finishes it, whatever is raised, and it holds nothing. -/
theorem State.settle_finishes {u : State} {o : WalkOutcome} (mains : u.OnMains) (ending : u.walk.ending = some o)
    (set : u.walk.brake.state = .set) (s0 : State) :
    (State.settle s0 u).walk.Finished o ∧ (State.settle s0 u).proven .walk = 0 := by
  obtain ⟨v, raises, -, final⟩ := State.settle_parts mains s0
  have walk : v.motionsPass.walk = u.walk :=
    v.motionsPass_walk.trans (raises.walk_of_ending (by rw [ending]; rfl))
  have finished : v.passes.WalkOver o := by
    show v.motionsPass.walkPass.WalkOver o
    rw [← walk] at ending set
    rw [State.walkPass_of_ending ending set]
    exact State.walkFinish_over set o
  rw [final]
  exact finished.afterPasses s0

theorem WalkRec.ended_brake {w : WalkRec} (set : w.brake.state = .set) (k : Constants) (o : WalkOutcome) :
    (w.ended k o).brake.state = .set := by
  show (w.brake.dropped k false).state = .set
  rw [Brake.dropped_at_rest (.inl set)]
  exact set

end Sys2Proof.Machine
end

section
/-! SUPPORT. WALK HALT, WALK RESUME and WALK CANCEL (07 R127, R129, R130): what each makes of the walk record, and the completion of
the change. -/

namespace Sys2Proof.Machine

/-- A request that is taken in HOLDUP too, by either port, and that no test stops, has its own part and its answer (R164, R167). -/
theorem request_inRun {α : Type} {q : Spec} {parse : State → List Byte → Field α} {act : α → State → Taken} {s : State}
    {f : Frame} {x : α} (runs : s.Runs) (awaits : s.Awaits f.port) (allowed : q.allows f.port = true)
    (parsed : parse (s.atRequest f.port) f.fields = .ok x) (anywhere : q.inHoldup = true) (store : q.store = false)
    (unguarded : q.guarded = false) : request q parse act f s =
      State.settle s ((act x (s.atRequest f.port)).answered q f q.after) :=
  (s.frameTaken_runs _ _ runs awaits).trans (congrArg (State.settle s)
    (takeRequest_unguarded act allowed parsed (.inr anywhere) (.inl store) unguarded))

section Requests

variable {s : State} {f : Frame}

theorem exec_walkHalt (runs : s.Runs) (awaits : s.Awaits f.port) (fields : f.fields = []) : exec (.walkHalt f) s =
    .next (State.settle s ((s.atRequest f.port).haltWalk.done.answered walkHaltSpec f .nothing)) :=
  congrArg Host.Outcome.next (request_inRun (q := walkHaltSpec) (parse := parseNothing) (x := ())
    (act := fun _ t => t.haltWalk.done) runs awaits (by cases f.port <;> rfl) (by rw [fields]; rfl) rfl rfl rfl)

theorem exec_walkCancel (runs : s.Runs) (awaits : s.Awaits f.port) (fields : f.fields = []) : exec (.walkCancel f) s =
    .next (State.settle s ((s.atRequest f.port).cancelTaken.answered walkCancelSpec f .nothing)) :=
  congrArg Host.Outcome.next (request_inRun (q := walkCancelSpec) (parse := parseNothing) (x := ())
    (act := fun _ t => t.cancelTaken) runs awaits (by cases f.port <;> rfl) (by rw [fields]; rfl) rfl rfl rfl)

theorem exec_walkResume (takes : s.Takes f .cab) (fields : f.fields = []) : exec (.walkResume f) s =
    .next (State.settle s ((s.atRequest f.port).resumeTaken.answered walkResumeSpec f .nothing)) := by
  obtain ⟨mains, port, awaits⟩ := takes
  rw [← port] at awaits
  exact congrArg Host.Outcome.next (request_onMains (q := walkResumeSpec) (parse := parseNothing) (x := ())
    (act := fun _ t => t.resumeTaken) mains awaits (by rw [port]; rfl) (by rw [fields]; rfl) rfl (.inl rfl))

/-! ### A request whose own part changes the walk record alone -/

/-- The state that such a request leaves to the completion of its change. -/
def State.walkAnswered (s : State) (f : Frame) (q : Spec) (r : Reply) (change : WalkRec → WalkRec) : State :=
  (⟨(s.atRequest f.port).onWalk change, r⟩ : Taken).answered q f .nothing

theorem State.walkAnswered_walk (s : State) (f : Frame) (q : Spec) (r : Reply) (change : WalkRec → WalkRec) :
    (s.walkAnswered f q r change).walk = change s.walk := congrArg change (s.atRequest_arrives f.port).walk

theorem State.walkAnswered_butPorts (s : State) (f : Frame) (q : Spec) (r : Reply) (change : WalkRec → WalkRec) :
    s.SameButPorts (s.walkAnswered f q r change) :=
  (s.atRequest_arrives f.port).same.trans
    (((s.atRequest f.port).onWalk_same _).butPorts.trans (State.answer_butPorts _ _ _))

/-- With every condition at its truth before, followers alone complete the change. -/
theorem State.ConditionsFollow.walkAnswered_evolves (follow : s.ConditionsFollow) (mains : s.OnMains) (f : Frame) (q : Spec)
    (r : Reply) (change : WalkRec → WalkRec) :
    (s.walkAnswered f q r change).Evolves (State.settle s (s.walkAnswered f q r change)) := by
  have same := s.walkAnswered_butPorts f q r change
  have truth : State.TruthBut [2, 21] s (s.walkAnswered f q r change) :=
    (s.atRequest_truth f.port).trans (.of_alarms rfl)
  have gens : (s.walkAnswered f q r change).gens = s.gens := (s.atRequest_arrives f.port).gens
  refine (follow.kept truth same fun g => ?_).evolves (same.onMains mains) s
  rw [gens]
  exact .refl _

/-! ### WALK HALT (R127) -/

theorem WalkRec.halted_ends {w : WalkRec} {tub : Bool} (endless : w.ending = none) (here : w.state = .preparing ∨
    (w.state = .stepping ∧ w.phase = some .lowerShoes ∧ w.lifted = false ∧ tub = true)) (k : Constants) :
    w.halted k tub = w.ended k .halted := by
  unfold WalkRec.halted
  rw [endless]
  rcases here with preparing | ⟨stepping, onGround⟩
  · rw [preparing]
    rfl
  · rw [stepping]
    exact if_pos onGround

theorem WalkRec.halted_requests {w : WalkRec} {tub : Bool} (endless : w.ending = none) (underWay : w.state = .interrupted ∨
    (w.state = .stepping ∧ ¬ (w.phase = some .lowerShoes ∧ w.lifted = false ∧ tub = true))) (k : Constants) :
    w.halted k tub = { w with haltRequested := true } := by
  unfold WalkRec.halted
  rw [endless]
  rcases underWay with interrupted | ⟨stepping, offGround⟩
  · rw [interrupted]
    rfl
  · rw [stepping]
    exact if_neg offGround

/-! ### WALK RESUME (R129) -/

theorem State.held_of_same {t : State} (gens : t.gens = s.gens) (supply : t.supply = s.supply) (m : Motion) :
    t.held m = s.held m := by
  unfold State.held State.inHoldup
  rw [gens, supply]

theorem State.resumeFails_none (interrupted : s.walk.state = .interrupted) (endless : s.walk.ending = none)
    (untripped : s.tripInForce = false) (unstopped : s.stopInForce .walk = false)
    (inactive : ∀ c, s.walk.interruptCause = some c → s.isTrue c.key = false)
    (referenced : s.chans.ch.walk.refState = .referenced) (set : s.walk.brake.state = .set) (unheld : s.held .walk = 0) :
    s.resumeFails = none := by
  have cause : s.causeActive = false := by
    unfold State.causeActive
    split
    · next c held => exact inactive c held
    · rfl
  have known : s.referenced .walk = true := decide_eq_true referenced
  unfold State.resumeFails
  rw [interrupted, endless, untripped, unstopped, cause, known, set, unheld]
  rfl

theorem WalkRec.resumed_unhalted {w : WalkRec} (noHalt : w.haltRequested = false) (k : Constants) (p : Phase) (tub : Bool) :
    (w.resumed p).haltedIfAsked k tub = w.resumed p :=
  if_neg (show ¬ w.haltRequested = true by rw [noHalt]; decide)

theorem State.resumeTaken_accepted (passes : s.resumeFails = none) : s.resumeTaken =
    (s.onWalk fun w => (w.resumed (phaseOf s.k s.stride)).haltedIfAsked s.k s.inputs.tub).accepted := by
  unfold State.resumeTaken
  rw [passes]

/-! ### WALK CANCEL (R130) -/

/-- With the tub bearing and the brake SET, an INTERRUPTED walk finishes in the request's own part. -/
theorem State.cancelTaken_done (outOfHoldup : s.inHoldup = false) (interrupted : s.walk.state = .interrupted)
    (endless : s.walk.ending = none) (bears : s.inputs.tub = true) (set : s.walk.brake.state = .set) :
    s.cancelTaken = ((s.onWalk fun w => w.ended s.k .cancelled).walkFinish .cancelled).done := by
  have pass : (s.onWalk fun w => w.ended s.k .cancelled).walkPass =
      (s.onWalk fun w => w.ended s.k .cancelled).walkFinish .cancelled :=
    State.walkPass_of_ending rfl (WalkRec.ended_brake set _ _)
  have cancelled : s.cancelled = (s.onWalk fun w => w.ended s.k .cancelled).walkFinish .cancelled := by
    unfold State.cancelled
    rw [if_neg (Bool.eq_false_iff.1 outOfHoldup), pass]
  unfold State.cancelTaken
  rw [endless, interrupted, bears, cancelled]
  rfl

theorem State.cancelTaken_lifted (interrupted : s.walk.state = .interrupted) (endless : s.walk.ending = none)
    (lifted : s.inputs.tub = false) : s.cancelTaken = s.refuses .condition := by
  unfold State.cancelTaken
  rw [endless, interrupted, lifted]
  rfl

/-- A motion that is not LOCKED is not LOCKED after the completion, whatever is raised (R106). -/
theorem State.settle_unlocked {u : State} (mains : u.OnMains) (s0 : State) {m : Dig}
    (unlocked : (u.motions.get m).state ≠ .locked) : ((State.settle s0 u).motions.get m).state ≠ .locked := by
  refine State.settle_motion mains s0 m (P := fun r => r.state ≠ .locked) (fun r k c _ => nofun) (fun r c free => ?_)
    (fun r r' free change locked => free (change.locked locked)) (fun r _ => r.unlocked_ne_locked) unlocked
  unfold MotionRec.stoppedBy
  split
  exacts [free, nofun]

theorem walkCancel_finishes (mains : s.OnMains) (awaits : s.Awaits f.port) (fields : f.fields = [])
    (interrupted : s.walk.state = .interrupted) (endless : s.walk.ending = none) (bears : s.inputs.tub = true)
    (set : s.walk.brake.state = .set) :
    ∃ t, exec (.walkCancel f) s = .next t ∧ t.Answers f.port f.tag 11 .done .none ∧ t.walk.Finished .cancelled ∧
      t.proven .walk = 0 ∧ (∀ m, (t.motions.get m).state ≠ .locked) ∧ s.SameButPorts t := by
  have arrives := s.atRequest_arrives f.port
  have taken := exec_walkCancel mains.1 awaits fields
  rw [State.cancelTaken_done (State.inHoldup_of_onMains (arrives.same.onMains mains)) (by rw [arrives.walk]; exact interrupted)
    (by rw [arrives.walk]; exact endless) (by rw [arrives.same.inputs]; exact bears) (by rw [arrives.walk]; exact set)] at taken
  let ended := (s.atRequest f.port).onWalk fun w => w.ended (s.atRequest f.port).k .cancelled
  let u := (ended.walkFinish .cancelled).done.answered walkCancelSpec f .nothing
  have same : s.SameButPorts u := arrives.same.trans
    (((State.onWalk_same _ _).trans (ended.walkFinish_same .cancelled)).butPorts.trans (State.answer_butPorts _ _ _))
  have mainsThere : u.OnMains := same.onMains mains
  have setThere : ended.walk.brake.state = .set := WalkRec.ended_brake (by rw [arrives.walk]; exact set) _ _
  have finished := State.walkFinish_over setThere .cancelled
  have answered : u.WalkOver .cancelled := ⟨finished.walk, finished.ungranted⟩
  obtain ⟨walk, proven⟩ := answered.settle mainsThere s
  refine ⟨_, taken, State.settle_answers s (ended.walkFinish .cancelled).done walkCancelSpec f .nothing, walk, proven,
    fun m => State.settle_unlocked mainsThere s ?_, same.settled s⟩
  rw [show u.motions.get m = (ended.motions.get m).unlocked from PerDig.get_map _ _ m]
  exact MotionRec.unlocked_ne_locked _

end Requests

/-- Settles O44: a halt gives the walk its ending or requests the halt, and with every condition at its truth the completion raises
nothing against it. -/
theorem walkHaltActs : Obligations.WalkHaltActs := by
  intro s f mains awaits follow _ fields
  have arrives := s.atRequest_arrives f.port
  let t := s.atRequest f.port
  let halt : WalkRec → WalkRec := fun w => w.halted t.k t.inputs.tub
  let u := s.walkAnswered f walkHaltSpec (Reply.of .done) halt
  have taken : exec (.walkHalt f) s = .next (State.settle s u) := exec_walkHalt mains.1 awaits fields
  have same : s.SameButPorts u := s.walkAnswered_butPorts f _ _ halt
  have evolves : u.Evolves (State.settle s u) := follow.walkAnswered_evolves mains f _ _ halt
  have walk : u.walk = s.walk.halted s.k s.inputs.tub := by
    rw [← arrives.same.k, ← arrives.same.inputs]
    exact s.walkAnswered_walk f _ _ halt
  refine ⟨_, taken, State.settle_answers s t.haltWalk.done walkHaltSpec f .nothing, same.settled s, fun endless here => ?_,
    fun endless underWay => ?_⟩
  · rw [WalkRec.halted_ends endless here] at walk
    have ends : (State.settle s u).walk.EndsAs .halted :=
      evolves.endsAs (.inl (by rw [walk]; rfl))
    exact ⟨State.settle_walkPermit (same.onMains mains) s ends.still, ends.imp_right fun ⟨idle, _, outcome⟩ => ⟨idle, outcome⟩⟩
  · rw [WalkRec.halted_requests endless underWay] at walk
    have begun : s.walk.state ≠ .preparing := by
      rcases underWay with e | ⟨e, -⟩ <;> rw [e] <;> decide
    have step := evolves.sameStep (by rw [walk]; exact begun) (by rw [walk]; exact endless)
    rw [walk] at step
    exact ⟨step.haltRequested, step.ending.trans endless⟩

/-- Settles O45: a RESUME that passes begins the step that the followers leave as it is; a CANCEL of a walk that stands on the tub
with its brake SET finishes it in the request's own part, and no raise or follower undoes a finish. -/
theorem walkResumesOrIsCancelled : Obligations.WalkResumesOrIsCancelled := by
  refine ⟨fun s f takes follow _ fields interrupted endless noHalt untripped unstopped inactive referenced set _ unheld => ?_,
    fun s f mains awaits fields interrupted endless bears set => ?_, fun s f runs awaits fields interrupted endless lifted => ?_⟩
  · have arrives := s.atRequest_arrives f.port
    let t := s.atRequest f.port
    have passes : t.resumeFails = none := by
      rw [← arrives.walk] at interrupted endless inactive set
      rw [← arrives.same.chans] at referenced
      rw [← State.held_of_same arrives.gens arrives.same.supply] at unheld
      rw [← takes.2.1] at untripped unstopped inactive
      exact State.resumeFails_none interrupted endless untripped unstopped inactive referenced set unheld
    let resume : WalkRec → WalkRec := fun w => (w.resumed (phaseOf t.k t.stride)).haltedIfAsked t.k t.inputs.tub
    let u := s.walkAnswered f walkResumeSpec (Reply.of .accepted) resume
    have taken : exec (.walkResume f) s = .next (State.settle s u) := by
      rw [exec_walkResume takes fields, State.resumeTaken_accepted passes]
      rfl
    have walk : u.walk = s.walk.resumed (phaseOf s.k s.stride) := by
      rw [← State.stride_of_same arrives.walk arrives.same.chans arrives.same.k, ← arrives.same.k]
      exact (s.walkAnswered_walk f _ _ resume).trans (WalkRec.resumed_unhalted noHalt _ _ _)
    have evolves : u.Evolves (State.settle s u) := follow.walkAnswered_evolves takes.1 f _ _ resume
    have step := evolves.sameStep (by rw [walk]; exact nofun) (by rw [walk]; exact endless)
    rw [walk] at step
    have answers := State.settle_answers s (t.onWalk resume).accepted walkResumeSpec f .nothing
    rw [takes.2.1] at answers
    exact ⟨_, taken, answers, step.state, step.phase, step.interruptCause, step.stepsDone,
      (s.walkAnswered_butPorts f _ _ resume).settled s⟩
  · obtain ⟨t, taken, answers, walk, proven, unlocked, same⟩ :=
      walkCancel_finishes mains awaits fields interrupted endless bears set
    exact ⟨t, taken, answers, walk.state, walk.lastOutcome, proven, fun m _ => unlocked m, same⟩
  · have arrives := s.atRequest_arrives f.port
    have taken := exec_walkCancel runs awaits fields
    rw [State.cancelTaken_lifted (by rw [arrives.walk]; exact interrupted) (by rw [arrives.walk]; exact endless)
      (by rw [arrives.same.inputs]; exact lifted)] at taken
    exact ⟨_, taken, s.refused_settles f walkCancelSpec .condition⟩

end Sys2Proof.Machine
end

section
/-! SUPPORT. The ends of the walk's times (07 R117, R120, R125): the prepare timeout, the phase timeout with the trip that it raises,
and the end of the dwell time. -/

namespace Sys2Proof.Machine

/-- The end of a time, on mains (log entry 4). -/
theorem State.event_onMains {s : State} (mains : s.OnMains) (f : State → State) :
    s.event (fun t => t.inRun f) = State.settle s (f s) := by
  rw [s.event_runs _ mains.1, State.inRun_onMains mains]

/-! ### The prepare timeout (R117) -/

theorem prepareTimeout_finishes {s : State} (mains : s.OnMains) (preparing : s.walk.state = .preparing)
    (endless : s.walk.ending = none) (set : s.walk.brake.state = .set) :
    ∃ t, exec .prepareTimeout s = .next t ∧ t.walk.Finished .prepareFailed ∧ t.walk.permit = none ∧ t.proven .walk = 0 ∧
      s.SameRecords t := by
  let ended := s.onWalk fun w => w.ended s.k .prepareFailed
  let u := ended.raiseEvent ⟨17, 0⟩
  have same : s.SameRecords u := (s.onWalk_same _).trans (ended.raiseEvent_same _)
  have taken : exec .prepareTimeout s = .next (State.settle s u) := by
    show Host.Outcome.next (s.event fun t => t.inRun State.prepareTimesOut) = _
    rw [State.event_onMains mains, show s.prepareTimesOut = u from if_pos ⟨preparing, endless⟩]
  have walk : u.walk = s.walk.ended s.k .prepareFailed := (ended.raiseEvent_raises _).walk_of_ending rfl
  have mainsThere : u.OnMains := same.mains mains
  obtain ⟨finished, proven⟩ := State.settle_finishes (o := .prepareFailed) mainsThere (by rw [walk]; rfl)
    (by rw [walk]; exact WalkRec.ended_brake set _ _) s
  exact ⟨_, taken, finished, State.settle_walkPermit mainsThere s (.inl (by rw [finished.state]; decide)), proven,
    same.trans (State.settle_same s u)⟩

/-! ### The phase timeout (R120, R128) -/

/-- A code with the base class TRIP has it in every record (R137, R142). -/
theorem Alarms.ClassesLegal.effectiveClass_trip {a : Alarms} (h : a.ClassesLegal) {key : AlarmKey}
    (base : baseClass key.code = .trip) : a.effectiveClass key = .trip := by
  unfold Alarms.effectiveClass
  split
  · next r stored =>
    obtain ⟨mem, rfl⟩ := Alarms.record_mem stored
    rcases h r mem with same | ⟨rises, -⟩
    · exact same.trans base
    · exact absurd base (baseClass_of_threshold rises)
  · exact base

/-- An event acts with the class TRIP where its code has that base class, whether or not it finds a slot (R136). -/
theorem Alarms.ClassesLegal.raiseEvent_class {a : Alarms} (h : a.ClassesLegal) (now window : Nat) {key : AlarmKey}
    (base : baseClass key.code = .trip) : (a.raiseEvent now window key).2 = .trip := by
  have raised := h.raiseRecord now window key
  unfold Alarms.raiseEvent
  dsimp only
  split
  exacts [raised.effectiveClass_trip base, base]

/-- On mains an event of class TRIP is the trip (R136, R138). -/
theorem State.raiseEvent_trips {s : State} (mains : s.OnMains) (legal : s.ClassesLegal) {key : AlarmKey}
    (base : baseClass key.code = .trip) : s.raiseEvent key =
      ({ s with alarms := (s.alarms.raiseEvent s.now s.k.escalationWindow key).1 } : State).tripBegins ⟨key, .trip⟩ := by
  unfold State.raiseEvent
  dsimp only
  rw [if_neg (Bool.eq_false_iff.1 (State.inHoldup_of_onMains mains)),
    Alarms.ClassesLegal.raiseEvent_class (State.classesLegal_iff s |>.1 legal) _ _ base]
  rfl

/-- A trip, completed: every dig motion TRIPPED, and a STEPPING walk without an ending INTERRUPTED (R101, R128). -/
theorem State.settle_tripBegins {s : State} (mains : s.OnMains) (s0 : State) {c : Cause} (trip : c.cls = .trip) :
    (∀ m, ((State.settle s0 (s.tripBegins c)).motions.get m).TrippedFor ((s.motions.get m).state ≠ .tripped) c) ∧
      (s.walk.state = .stepping → s.walk.ending = none →
        (State.settle s0 (s.tripBegins c)).walk.InterruptedFor s.walk.phase c) := by
  have mainsThere : (s.tripBegins c).OnMains := mains
  refine ⟨fun m => ?_, fun stepping endless => ?_⟩
  · refine State.settle_motion mainsThere s0 m (P := fun r => r.TrippedFor _ c) (fun r k d h => h.tripped trip k d)
      (fun r d h => h.stoppedBy d) (fun r r' h change => h.follow change) (fun r h => h.unlocked) ?_
    rw [State.tripBegins_get]
    exact MotionRec.tripped_trippedFor _ _ _
  · exact State.settle_walk mainsThere s0 (P := fun w => w.InterruptedFor s.walk.phase c)
      (fun w k d h => h.tripped trip k d) (fun w k d h => h.stoppedBy k d) (fun w k tub h => h.halted k tub)
      (fun w w' h change => h.follow change) (fun w o h ending => by rw [h.ending] at ending; cases ending)
      (WalkRec.tripped_interrupts stepping endless s.k c)

theorem State.phaseTimesOut_timed {s : State} {p : Phase} {left : Nat} (stepping : s.walk.state = .stepping)
    (endless : s.walk.ending = none) (phase : s.walk.phase = some p) (timed : p ≠ .dwell)
    (timer : s.walk.phaseTimer = some left) : s.phaseTimesOut = s.raiseEvent ⟨18, p.number⟩ := by
  have notDwell : some p ≠ some Phase.dwell := fun same => timed (Option.some.inj same)
  have steps : s.walk.stepping = true := by
    unfold WalkRec.stepping
    rw [stepping, endless, phase, decide_eq_true notDwell]
    rfl
  unfold State.phaseTimesOut
  rw [phase, timer]
  exact if_pos steps

theorem phaseTimeout_interrupts {s : State} {p : Phase} {left : Nat} (mains : s.OnMains) (legal : s.ClassesLegal)
    (stepping : s.walk.state = .stepping) (endless : s.walk.ending = none) (phase : s.walk.phase = some p)
    (timed : p ≠ .dwell) (timer : s.walk.phaseTimer = some left) :
    ∃ t, exec .phaseTimeout s = .next t ∧ t.walk.InterruptedFor (some p) ⟨⟨18, p.number⟩, .trip⟩ ∧ t.walk.permit = none ∧
      (∀ m, (t.motions.get m).state = .tripped) ∧ s.SameRecords t := by
  have own := State.phaseTimesOut_timed stepping endless phase timed timer
  have same := s.raiseEvent_same ⟨18, p.number⟩
  rw [State.raiseEvent_trips (key := ⟨18, p.number⟩) mains legal rfl] at own same
  let noted : State := { s with alarms := (s.alarms.raiseEvent s.now s.k.escalationWindow ⟨18, p.number⟩).1 }
  let u := noted.tripBegins ⟨⟨18, p.number⟩, .trip⟩
  have taken : exec .phaseTimeout s = .next (State.settle s u) := by
    show Host.Outcome.next (s.event fun t => t.inRun State.phaseTimesOut) = _
    rw [State.event_onMains mains, own]
  obtain ⟨digs, walks⟩ := State.settle_tripBegins (s := noted) (c := ⟨⟨18, p.number⟩, .trip⟩) mains s rfl
  have interrupted := walks stepping endless
  rw [show noted.walk.phase = some p from phase] at interrupted
  exact ⟨_, taken, interrupted, State.settle_walkPermit (same.mains mains) s (.inl (by rw [interrupted.state]; decide)),
    fun m => (digs m).state, same.trans (State.settle_same s u)⟩

/-! ### The end of the dwell time (R125) -/

section Dwell

variable {w : WalkRec} {k : Constants}

theorem WalkRec.dwellEnded_last (last : w.stepsRequested = some w.stepsDone) : w.dwellEnded k = w.ended k .completed :=
  if_pos last.symm

theorem WalkRec.dwellEnded_halted (more : w.stepsRequested ≠ some w.stepsDone) (halt : w.haltRequested = true) :
    w.dwellEnded k = w.ended k .halted := (if_neg more.symm).trans (if_pos halt)

theorem WalkRec.dwellEnded_next (more : w.stepsRequested ≠ some w.stepsDone) (noHalt : w.haltRequested = false) :
    w.dwellEnded k = { w.stepBegun k .lowerShoes with dwellTimer := none } :=
  (if_neg more.symm).trans (if_neg (Bool.eq_false_iff.1 noHalt))

theorem WalkRec.dwellEnded_stepsDone : (w.dwellEnded k).stepsDone = w.stepsDone := by
  unfold WalkRec.dwellEnded
  split
  · rfl
  split <;> rfl

end Dwell

theorem exec_dwellEnd {s : State} {left : Nat} (mains : s.OnMains) (stepping : s.walk.state = .stepping)
    (endless : s.walk.ending = none) (phase : s.walk.phase = some .dwell) (timer : s.walk.dwellTimer = some left) :
    exec .dwellEnd s = .next (State.settle s (s.onWalk fun w => w.dwellEnded s.k)) := by
  have own : s.dwellEnds = s.onWalk fun w => w.dwellEnded s.k :=
    if_pos ⟨stepping, phase, endless, by rw [timer]; rfl⟩
  show Host.Outcome.next (s.event fun t => t.inRun State.dwellEnds) = _
  rw [State.event_onMains mains, own]

/-- Settles O46: each end of a time gives the walk an ending that its SET brake finishes in the completion, interrupts it by the trip
of its event, or begins a step that the followers leave as it is. -/
theorem walkTimersEnd : Obligations.WalkTimersEnd := by
  refine ⟨fun s mains preparing endless set _ => ?_, fun s p left mains legal stepping endless phase timed timer => ?_,
    fun s left mains follow _ stepping endless phase timer set _ => ?_⟩
  · obtain ⟨t, taken, finished, permit, proven, same⟩ := prepareTimeout_finishes mains preparing endless set
    exact ⟨t, taken, finished.state, finished.lastOutcome, permit, proven, same⟩
  · obtain ⟨t, taken, interrupted, permit, digs, same⟩ :=
      phaseTimeout_interrupts mains legal stepping endless phase timed timer
    exact ⟨t, taken, interrupted.state, interrupted.phase, permit, interrupted.interruptCause, digs, same⟩
  · let u := s.onWalk fun w => w.dwellEnded s.k
    have walk : u.walk = s.walk.dwellEnded s.k := rfl
    have followThere : u.ConditionsFollow := follow
    have evolves : u.Evolves (State.settle s u) := followThere.evolves mains s
    have finishes {o : WalkOutcome} (ends : s.walk.dwellEnded s.k = s.walk.ended s.k o) :
        (State.settle s u).walk.state = .idle ∧ (State.settle s u).walk.lastOutcome = some o ∧
          (State.settle s u).proven .walk = 0 := by
      rw [ends] at walk
      obtain ⟨finished, proven⟩ := State.settle_finishes (u := u) (o := o) mains (by rw [walk]; rfl)
        (by rw [walk]; exact WalkRec.ended_brake set _ _) s
      exact ⟨finished.state, finished.lastOutcome, proven⟩
    refine ⟨_, exec_dwellEnd mains stepping endless phase timer, (s.onWalk_same _).trans (State.settle_same s u),
      evolves.stepsDone.trans WalkRec.dwellEnded_stepsDone, fun last => finishes (WalkRec.dwellEnded_last last),
      fun more halt => finishes (WalkRec.dwellEnded_halted more halt), fun more noHalt => ?_⟩
    rw [WalkRec.dwellEnded_next more noHalt] at walk
    have same := evolves.sameStep (by rw [walk]; exact nofun) (by rw [walk]; exact endless)
    rw [walk] at same
    exact ⟨same.state, same.phase, same.lifted, same.setDownSeen⟩

end Sys2Proof.Machine
end

section
/-! SUPPORT. The announce settings of the ports through every raise and clear and through the completion of a change (08 R148): no
follower of a change writes them. -/

namespace Sys2Proof.Machine

/-! ### Operations on the alarm table -/

section Table

variable (a : Alarms) (now window : Nat) (key : AlarmKey)

@[simp] theorem Alarms.onRecord_announce (f : AlarmRec → Option AlarmRec) : (a.onRecord key f).announce = a.announce := by
  unfold Alarms.onRecord
  split <;> rfl

@[simp] theorem Alarms.raiseRecord_announce : (a.raiseRecord now window key).1.announce = a.announce := by
  unfold Alarms.raiseRecord
  split
  · exact a.onRecord_announce key _
  · split <;> rfl

@[simp] theorem Alarms.clearBare_announce : (a.clearBare now key).announce = a.announce :=
  (a.dropCondition key).onRecord_announce key _

theorem Alarms.recordLate_announce (c : Condition) : (a.recordLate c).announce = a.announce := by
  unfold Alarms.recordLate
  split <;> rfl

theorem Alarms.recordLates_announce (l : List Condition) : (l.foldl Alarms.recordLate a).announce = a.announce := by
  induction l generalizing a with
  | nil => rfl
  | cons c l ih => exact (ih _).trans (a.recordLate_announce c)

theorem Alarms.afterRetirement_announce : (a.afterRetirement now).announce = a.announce := by
  unfold Alarms.afterRetirement Alarms.fullFollows
  split
  · exact (Alarms.clearBare_announce _ now fullKey).trans (a.recordLates_announce _)
  · exact a.recordLates_announce _

theorem Alarms.clearCondition_announce : (a.clearCondition now key).announce = a.announce :=
  (Alarms.afterRetirement_announce _ now).trans (a.clearBare_announce now key)

theorem Alarms.raiseCondition_announce : (a.raiseCondition now window key).announce = a.announce := by
  unfold Alarms.raiseCondition
  dsimp only
  split
  · exact a.raiseRecord_announce now window key
  · exact (Alarms.raiseRecord_announce _ now window fullKey).trans (a.raiseRecord_announce now window key)

end Table

/-! ### What keeps the announce settings -/

/-- The announce settings are the same (R148). -/
structure State.SameAnnounce (s t : State) : Prop where
  announce : t.alarms.announce = s.alarms.announce

theorem State.SameAnnounce.refl (s : State) : s.SameAnnounce s := ⟨rfl⟩

theorem State.SameAnnounce.trans {s t u : State} (h : s.SameAnnounce t) (g : t.SameAnnounce u) : s.SameAnnounce u :=
  ⟨g.announce.trans h.announce⟩

theorem State.SameAnnounce.ite {s t u : State} {p : Prop} [Decidable p] (ht : s.SameAnnounce t) (hu : s.SameAnnounce u) :
    s.SameAnnounce (if p then t else u) := by
  split
  exacts [ht, hu]

theorem State.SameAnnounce.foldl {α : Type} {f : State → α → State} (h : ∀ (s : State) (a : α), s.SameAnnounce (f s a))
    (l : List α) (s : State) : s.SameAnnounce (l.foldl f s) := by
  induction l generalizing s with
  | nil => exact .refl s
  | cons a l ih => exact (h s a).trans (ih (f s a))

section State

variable (s : State)

theorem State.clearCondition_sameAnnounce (key : AlarmKey) : s.SameAnnounce (s.clearCondition key) :=
  State.SameAnnounce.ite ⟨s.alarms.clearCondition_announce _ key⟩ (.refl s)

theorem State.raiseCondition_sameAnnounce (key : AlarmKey) : s.SameAnnounce (s.raiseCondition key) := by
  constructor
  rw [s.raiseCondition_alarms]
  split
  exacts [rfl, s.alarms.raiseCondition_announce _ _ key]

theorem State.setCondition_sameAnnounce (key : AlarmKey) (truth : Bool) : s.SameAnnounce (s.setCondition key truth) :=
  (s.raiseCondition_sameAnnounce key).ite (s.clearCondition_sameAnnounce key)

theorem State.syncChannels_sameAnnounce : s.SameAnnounce s.syncChannels :=
  ((State.SameAnnounce.foldl (fun t _ => (State.SameAnnounce.refl t).ite (t.clearCondition_sameAnnounce _)) Motion.all s).trans
    (.foldl (fun t _ => t.setCondition_sameAnnounce _ _) Motion.all _)).trans
    (.foldl (fun t _ => t.setCondition_sameAnnounce _ _) Motion.all _)

theorem State.gensReport_sameAnnounce : s.SameAnnounce s.gensReport :=
  ((State.SameAnnounce.foldl (fun t _ => t.setCondition_sameAnnounce _ _) gensAll s).trans
    (.foldl (fun t _ => t.setCondition_sameAnnounce _ _) gensAll _)).trans
    (.foldl (fun t _ => t.setCondition_sameAnnounce _ _) gensAll _)

theorem State.syncZones_sameAnnounce : s.SameAnnounce s.syncZones := by
  unfold State.syncZones
  exact (State.SameAnnounce.foldl (fun t _ => t.setCondition_sameAnnounce _ _) slotsAll s).trans
    (State.setCondition_sameAnnounce _ _ _)

theorem State.syncConditions_sameAnnounce : s.SameAnnounce s.syncConditions :=
  (s.syncChannels_sameAnnounce.trans ((State.SameAnnounce.refl _).ite (State.gensReport_sameAnnounce _))).trans
    (State.syncZones_sameAnnounce _)

theorem State.resolverFollow_sameAnnounce : s.SameAnnounce s.resolverFollow := ⟨rfl⟩

/-! ### The motions and the walk -/

theorem State.onMotion_sameAnnounce (m : Dig) (f : MotionRec → MotionRec) : s.SameAnnounce (s.onMotion m f) := ⟨rfl⟩

theorem State.onGens_sameAnnounce (f : PerMotion Bool → Gen → Gen) : s.SameAnnounce (s.onGens f) := ⟨rfl⟩

theorem State.endHold_sameAnnounce (m : Dig) : s.SameAnnounce (s.endHold m) := ⟨rfl⟩

theorem State.beginHold_sameAnnounce (m : Dig) : s.SameAnnounce (s.beginHold m) :=
  State.SameAnnounce.ite ⟨rfl⟩ (State.SameAnnounce.ite ⟨rfl⟩ ⟨rfl⟩)

theorem State.proofPass_sameAnnounce (m : Dig) : s.SameAnnounce (s.proofPass m) := by
  have proven (f : MotionRec → MotionRec) (key : AlarmKey) : s.SameAnnounce ((s.onMotion m f).clearCondition key) :=
    ⟨((s.onMotion m f).clearCondition_sameAnnounce key).announce⟩
  unfold State.proofPass
  dsimp only
  split
  · exact (State.SameAnnounce.refl s).ite (proven _ _)
  · exact State.SameAnnounce.ite ⟨rfl⟩ (.refl s)
  · exact .refl s
  · exact .refl s

theorem State.restPass_sameAnnounce (m : Dig) : s.SameAnnounce (s.restPass m) :=
  (State.SameAnnounce.ite (s.onMotion_sameAnnounce m _)
    ((s.beginHold_sameAnnounce m).ite ((s.onGens_sameAnnounce _).ite (.refl s)))).ite (.refl s)

theorem State.motionPass_sameAnnounce (m : Dig) : s.SameAnnounce (s.motionPass m) := by
  have followed : s.SameAnnounce (((s.reversalPass m).readyPass m).brakePass m) := ⟨rfl⟩
  exact (followed.trans (State.proofPass_sameAnnounce _ m)).trans (State.restPass_sameAnnounce _ m)

theorem State.walkProofPass_sameAnnounce : s.SameAnnounce s.walkProofPass := by
  have proven (f : WalkRec → WalkRec) (key : AlarmKey) : s.SameAnnounce ((s.onWalk f).clearCondition key) :=
    ⟨((s.onWalk f).clearCondition_sameAnnounce key).announce⟩
  unfold State.walkProofPass
  split
  · exact (State.SameAnnounce.refl s).ite (proven _ _)
  · exact State.SameAnnounce.ite ⟨rfl⟩ (.refl s)
  · exact .refl s
  · exact .refl s

theorem State.walkRestPass_sameAnnounce : s.SameAnnounce s.walkRestPass := by
  unfold State.walkRestPass
  dsimp only
  refine State.SameAnnounce.ite ?_ (.refl s)
  split
  · exact ⟨rfl⟩
  · refine State.SameAnnounce.ite ⟨rfl⟩ (State.SameAnnounce.ite ?_ (State.SameAnnounce.ite ⟨rfl⟩ (.refl s)))
    split
    exacts [.refl s, ⟨rfl⟩]

theorem State.passes_sameAnnounce : s.SameAnnounce s.passes := by
  have walk (t : State) : t.SameAnnounce t.walkPass := by
    have followed : t.SameAnnounce t.walkBrakePass := ⟨rfl⟩
    exact (followed.trans (State.walkProofPass_sameAnnounce _)).trans (State.walkRestPass_sameAnnounce _)
  exact (((s.motionPass_sameAnnounce _).trans (State.motionPass_sameAnnounce _ _)).trans
    (State.motionPass_sameAnnounce _ _)).trans (walk _)

/-! ### The arbiter -/

theorem State.withArb_sameAnnounce (x : Arbiter) : s.SameAnnounce { s with arb := x } := ⟨rfl⟩

theorem State.claimsFollowOf_sameAnnounce (m : Motion) : s.SameAnnounce (s.claimsFollowOf m) :=
  (s.onGens_sameAnnounce _).ite ((s.onGens_sameAnnounce _).ite (.refl s))

theorem State.prune_sameAnnounce : s.SameAnnounce s.prune :=
  (State.SameAnnounce.foldl State.claimsFollowOf_sameAnnounce Motion.all s).trans (State.withArb_sameAnnounce _ _)

theorem State.joins_sameAnnounce : s.SameAnnounce s.joins :=
  .foldl (fun t _ => (t.withArb_sameAnnounce _).ite (.refl t)) Motion.all s

theorem State.grantTo_sameAnnounce (m : Motion) (counted : Option Motion) (count : Nat) (i : Fin 12) :
    s.SameAnnounce (s.grantTo m counted count i) := by
  have handed : s.SameAnnounce (s.onGen i (handOver s.k (s.proofs i) m (s.arb.handed + 1))) := ⟨rfl⟩
  exact (handed.trans (State.withArb_sameAnnounce _ _)).trans (State.prune_sameAnnounce _)

end State

theorem State.grantOne_sameAnnounce {s t : State} (h : s.grantOne = some t) : s.SameAnnounce t := by
  unfold State.grantOne at h
  split at h
  · cases h
  · split at h
    · cases h
    · cases h
      exact s.grantTo_sameAnnounce _ _ _ _

theorem State.grantLoop_sameAnnounce (n : Nat) (s : State) : s.SameAnnounce (State.grantLoop n s) := by
  induction n generalizing s with
  | zero => exact .refl s
  | succ n ih =>
    unfold State.grantLoop
    split
    · exact .refl s
    · next t granted => exact (State.grantOne_sameAnnounce granted).trans (ih t)

theorem State.recallHolds_sameAnnounce (n : Nat) (s : State) : s.SameAnnounce (State.recallHolds n s) := by
  induction n generalizing s with
  | zero => exact .refl s
  | succ n ih =>
    unfold State.recallHolds
    split
    · exact .refl s
    · next m _ _ => exact (s.endHold_sameAnnounce m).ite ((s.endHold_sameAnnounce m).trans (ih _))

theorem State.arbRun_sameAnnounce (n : Nat) (s : State) : s.SameAnnounce (State.arbRun n s) := by
  induction n generalizing s with
  | zero => exact .refl s
  | succ n ih =>
    have recalled (t : State) : t.SameAnnounce t.recall := (State.recallHolds_sameAnnounce 3 t).ite (.refl t)
    have granted := State.grantLoop_sameAnnounce 12 s
    exact (granted.trans ((recalled _).trans (ih _))).ite granted

theorem State.arbitrate_sameAnnounce (s0 s : State) : s.SameAnnounce (State.arbitrate s0 s) := by
  have listed : s.SameAnnounce s.prune.joins := s.prune_sameAnnounce.trans (State.joins_sameAnnounce _)
  exact ((listed.trans (State.arbRun_sameAnnounce 4 _)).trans (State.prune_sameAnnounce _)).ite listed

/-! ### The end of a change -/

theorem State.starvedSync_sameAnnounce (s : State) : s.SameAnnounce s.starvedSync :=
  .foldl (fun t _ => (State.SameAnnounce.refl t).ite (t.clearCondition_sameAnnounce _)) Motion.all s

theorem State.compose_sameAnnounce (s : State) : s.SameAnnounce s.compose := ⟨rfl⟩

theorem State.settleInRun_sameAnnounce (s0 s : State) : s.SameAnnounce (State.settleInRun s0 s) :=
  (((((s.syncConditions_sameAnnounce.trans (State.resolverFollow_sameAnnounce _)).trans (State.passes_sameAnnounce _)).trans
    (State.arbitrate_sameAnnounce s0 _)).trans (State.passes_sameAnnounce _)).trans (State.starvedSync_sameAnnounce _)).trans
    (State.compose_sameAnnounce _)

/-- The completion of a change writes no announce setting (R148). -/
theorem State.settle_sameAnnounce (s0 s : State) : s.SameAnnounce (State.settle s0 s) := by
  unfold State.settle
  split
  · exact (s.syncConditions_sameAnnounce.trans (State.resolverFollow_sameAnnounce _)).ite
      (State.settleInRun_sameAnnounce s0 s)
  · exact .refl s
  · exact .refl s

end Sys2Proof.Machine
end

section
/-! SUPPORT. The requests on alarm records (08 R143, R144, R148) and the count of a shelf: a held record by its slot, and each request's
own part on the table. -/

namespace Sys2Proof.Machine

/-! ### A held record and its slot (R135) -/

section Held

variable {a : Alarms} {key : AlarmKey} {i : Nat}

/-- The first slot of a key holds the record of the key. -/
theorem Alarms.record_of_slotOf (h : a.slotOf key = some i) :
    ∃ r, a.record key = some r ∧ a.slots.cells[i]? = some (some r) ∧ r.key = key := by
  obtain ⟨r, held, named⟩ := Alarms.slotOf_holds h
  obtain ⟨bound, holds, first⟩ := List.findIdx?_eq_some_iff_getElem.1 h
  have found : a.slots.cells.find? (holdsKey key) = some a.slots.cells[i] :=
    List.find?_eq_some_iff_getElem.2 ⟨holds, i, bound, rfl, fun j lower => by simpa using first j lower⟩
  have content : a.slots.cells[i] = some r := Option.some.inj ((List.getElem?_eq_getElem bound).symm.trans held)
  refine ⟨r, ?_, held, named⟩
  unfold Alarms.record
  rw [found, content]
  rfl

theorem Alarms.onRecord_held {r : AlarmRec} (slot : a.slotOf key = some i) (record : a.record key = some r)
    (f : AlarmRec → Option AlarmRec) : a.onRecord key f = { a with slots := a.slots.setAt i (f r) } := by
  unfold Alarms.onRecord
  rw [slot, record]
  rfl

/-- A change of one key's record leaves a slot that does not hold that key. -/
theorem Alarms.onRecord_otherSlot (other : ∀ r, a.slots.cells[i]? = some (some r) → r.key ≠ key)
    (f : AlarmRec → Option AlarmRec) : (a.onRecord key f).slots.cells[i]? = a.slots.cells[i]? := by
  cases slot : a.slotOf key with
  | none =>
    unfold Alarms.onRecord
    rw [slot]
  | some j =>
    obtain ⟨r, record, held, named⟩ := Alarms.record_of_slotOf slot
    have apart : j ≠ i := fun same => other r (same ▸ held) named
    rw [Alarms.onRecord_held slot record]
    exact List.getElem?_set_ne apart

/-- With no true condition unrecorded nothing is recorded late, and ALARM TABLE FULL alone can end (R146, R147). -/
theorem Alarms.afterRetirement_recorded (recorded : a.anyUnrecorded = false) (now : Nat) :
    a.afterRetirement now = a.fullFollows now := by
  have none_late : a.conditions.filter (fun c => c.unrecorded) = [] :=
    List.filter_eq_nil_iff.2 fun c mem late => Bool.eq_false_iff.1 recorded (List.any_eq_true.2 ⟨c, mem, late⟩)
  unfold Alarms.afterRetirement Alarms.unrecordedInOrder
  rw [none_late]
  rfl

/-- A retirement leaves the slot of any key but ALARM TABLE FULL when no true condition is unrecorded (R146, R147). -/
theorem Alarms.afterRetirement_otherSlot (recorded : a.anyUnrecorded = false) (now : Nat)
    (other : ∀ r, a.slots.cells[i]? = some (some r) → r.key ≠ fullKey) :
    (a.afterRetirement now).slots.cells[i]? = a.slots.cells[i]? := by
  rw [Alarms.afterRetirement_recorded recorded]
  unfold Alarms.fullFollows
  split
  · exact Alarms.onRecord_otherSlot (a := a.dropCondition fullKey) other _
  · rfl

end Held

/-! ### ACKNOWLEDGE (R143) -/

theorem AlarmRec.acknowledged_key {r r' : AlarmRec} {p : Port} (h : r.acknowledged p = some r') : r'.key = r.key := by
  unfold AlarmRec.acknowledged at h
  split at h <;> cases h <;> rfl

/-- The slot of the record after an ACKNOWLEDGE with no true condition unrecorded. -/
theorem Alarms.acknowledge_slot {a : Alarms} {key : AlarmKey} {i : Nat} {r : AlarmRec} (slot : a.slotOf key = some i)
    (held : a.slots.cells[i]? = some (some r)) (recorded : a.anyUnrecorded = false) (notFull : key ≠ fullKey) (now : Nat)
    (p : Port) : (a.acknowledge now p key).slots.cells[i]? = some (r.acknowledged p) := by
  obtain ⟨r', record, held', named⟩ := Alarms.record_of_slotOf slot
  obtain rfl : r' = r := Option.some.inj (Option.some.inj (held'.symm.trans held))
  have written : (a.onRecord key fun r => r.acknowledged p).slots.cells[i]? = some (r'.acknowledged p) := by
    rw [Alarms.onRecord_held slot record]
    exact List.getElem?_set_self (List.getElem?_eq_some_iff.1 held).1
  have same : (a.onRecord key fun r => r.acknowledged p).anyUnrecorded = false := by
    rw [Alarms.onRecord_held slot record]
    exact recorded
  refine (Alarms.afterRetirement_otherSlot same now fun x there => ?_).trans written
  have acknowledged := Option.some.inj (written.symm.trans there)
  rw [AlarmRec.acknowledged_key acknowledged, named]
  exact notFull

section Requests

variable {s : State} {f : Frame} {key : AlarmKey}

theorem exec_acknowledge (runs : s.Runs) (awaits : s.Awaits f.port) (parsed : parseAlarmKey s f.fields = .ok key) :
    exec (.acknowledge f) s = .next (State.settle s
      (((s.atRequest f.port).acknowledgeTaken f.port key).answered acknowledgeSpec f .nothing)) :=
  congrArg Host.Outcome.next (request_inRun (q := acknowledgeSpec) (parse := parseAlarmKey) (x := key)
    (act := fun key t => t.acknowledgeTaken f.port key) runs awaits (by cases f.port <;> rfl) parsed rfl rfl rfl)

theorem State.acknowledgeTaken_held {i : Nat} {p : Port} (slot : s.alarms.slotOf key = some i) :
    s.acknowledgeTaken p key = State.done { s with alarms := s.alarms.acknowledge s.now p key } := by
  obtain ⟨r, record, -, -⟩ := Alarms.record_of_slotOf slot
  unfold State.acknowledgeTaken
  rw [record]

theorem State.acknowledgeTaken_none {p : Port} (record : s.alarms.record key = none) :
    s.acknowledgeTaken p key = s.replies (Reply.of .noRecord) := by
  unfold State.acknowledgeTaken
  rw [record]

/-! ### A request whose own part changes the alarm table alone -/

/-- Such a request leaves the records of a request alone. -/
theorem State.withAlarms_answered_butPorts (s : State) (x : Alarms) (r : Reply) (q : Spec) (f : Frame) (after : AfterSent) :
    s.SameButPorts ((⟨{ s with alarms := x }, r⟩ : Taken).answered q f after) :=
  (s.withAlarms_same x).butPorts.trans (State.answer_butPorts _ _ _)

/-! ### SET ANNOUNCE (R148) -/

theorem State.atRequest_sameAnnounce (s : State) (p : Port) : s.SameAnnounce (s.atRequest p) := by
  cases p with
  | service => exact ⟨rfl⟩
  | cab =>
    have restarted (t : State) (x : CabTimer) : t.SameAnnounce { t with cabTimer := x } := ⟨rfl⟩
    have hunted : s.SameAnnounce (s.hunt .cab) := ⟨rfl⟩
    exact hunted.trans ((State.SameAnnounce.refl _).ite ((restarted _ _).trans (State.clearCondition_sameAnnounce _ _)))

theorem exec_setAnnounce {a : Announce} (runs : s.Runs) (awaits : s.Awaits f.port)
    (parsed : parseAnnounce s f.fields = .ok a) : exec (.setAnnounce f) s = .next (State.settle s
      (((s.atRequest f.port).announceSet f.port a).done.answered setAnnounceSpec f .nothing)) :=
  congrArg Host.Outcome.next (request_inRun (q := setAnnounceSpec) (parse := parseAnnounce) (x := a)
    (act := fun a t => (t.announceSet f.port a).done) runs awaits (by cases f.port <;> rfl) parsed rfl rfl rfl)

/-- Settles O47: an ACKNOWLEDGE writes the slot of its record, and what a retirement brings besides leaves that slot; SET ANNOUNCE
writes its port's setting, which no completion of a change touches. -/
theorem alarmRequests : Obligations.AlarmRequests := by
  refine ⟨fun s f key i runs awaits parsed => ⟨fun slot => ?_, fun record => ?_⟩, fun s f a runs awaits parsed => ?_⟩
  · have taken := exec_acknowledge runs awaits parsed
    rw [State.acknowledgeTaken_held slot] at taken
    refine ⟨_, taken, Taken.answered_answers _ _ _ _, State.withAlarms_answered_butPorts _ _ _ _ _ _,
      fun r held recorded notFull => ?_⟩
    have written := Alarms.acknowledge_slot slot held recorded notFull (s.atRequest f.port).now f.port
    have by_state {x : Option AlarmRec} (acknowledged : r.acknowledged f.port = x) :
        ((s.atRequest f.port).alarms.acknowledge (s.atRequest f.port).now f.port key).slots.cells[i]? = some x :=
      written.trans (congrArg some acknowledged)
    unfold AlarmRec.acknowledged at by_state
    refine ⟨fun state => by_state (by rw [state]), fun state => by_state (by rw [state]),
      fun state => by_state (by rw [state])⟩
  · have taken := exec_acknowledge runs awaits parsed
    rw [State.acknowledgeTaken_none record] at taken
    exact ⟨_, taken, State.settle_answers s _ _ f _,
      ((s.atRequest_arrives f.port).same.trans (State.answer_butPorts _ _ _)).settled s⟩
  · refine ⟨_, exec_setAnnounce runs awaits parsed, State.settle_answers s _ _ f _, ?_,
      ((s.atRequest_arrives f.port).same.trans (State.withAlarms_answered_butPorts _ _ _ _ _ _)).settled s⟩
    rw [(State.settle_sameAnnounce s _).announce]
    exact congrArg (fun x => x.set f.port a) (s.atRequest_sameAnnounce f.port).announce

/-! ### SHELVE and UNSHELVE (R144) -/

theorem exec_shelve {x : AlarmKey × Nat} (takes : s.Takes f .service) (parsed : parseShelve s f.fields = .ok x) :
    exec (.shelve f) s = .next (State.settle s (((s.atRequest f.port).shelveTaken x).answered shelveSpec f .nothing)) := by
  obtain ⟨mains, port, awaits⟩ := takes
  rw [← port] at awaits
  exact congrArg Host.Outcome.next (request_onMains (q := shelveSpec) (parse := parseShelve) (x := x)
    (act := fun x t => t.shelveTaken x) mains awaits (by rw [port]; rfl) parsed rfl (.inl rfl))

theorem exec_unshelve (takes : s.Takes f .service) (parsed : parseAlarmKey s f.fields = .ok key) :
    exec (.unshelve f) s =
      .next (State.settle s (((s.atRequest f.port).unshelveTaken key).answered unshelveSpec f .nothing)) := by
  obtain ⟨mains, port, awaits⟩ := takes
  rw [← port] at awaits
  exact congrArg Host.Outcome.next (request_onMains (q := unshelveSpec) (parse := parseAlarmKey) (x := key)
    (act := fun key t => t.unshelveTaken key) mains awaits (by rw [port]; rfl) parsed rfl (.inl rfl))

end Requests

section Shelves

variable {s : State} {key : AlarmKey} {r : AlarmRec}

theorem State.shelveTaken_shelves (record : s.alarms.record key = some r) (cls : r.cls = .warn ∨ r.cls = .notice) (n : Nat) :
    s.shelveTaken (key, n) = (s.setShelf key (some ⟨n, 60000⟩)).done := by
  unfold State.shelveTaken
  rw [record]
  rcases cls with cls | cls <;> simp only [cls]

theorem State.shelveTaken_refused (record : s.alarms.record key = some r) (cls : r.cls = .trip ∨ r.cls = .stop) (n : Nat) :
    s.shelveTaken (key, n) = s.refuses .state := by
  unfold State.shelveTaken
  rw [record]
  rcases cls with cls | cls <;> simp only [cls]

theorem State.unshelveTaken_ends (record : s.alarms.record key = some r) (shelved : r.shelf.isSome = true) :
    s.unshelveTaken key = (s.setShelf key none).done := by
  obtain ⟨h, shelf⟩ := Option.isSome_iff_exists.1 shelved
  unfold State.unshelveTaken
  rw [record]
  simp only [shelf]

theorem State.unshelveTaken_refused (record : s.alarms.record key = some r) (unshelved : r.shelf = none) :
    s.unshelveTaken key = s.refuses .state := by
  unfold State.unshelveTaken
  rw [record]
  simp only [unshelved]

/-- A request on the Service port that sets or ends the shelf of a held record. -/
theorem State.setShelf_answered {i : Nat} {f : Frame} (port : f.port = .service) (slot : s.alarms.slotOf key = some i)
    (record : s.alarms.record key = some r) (h : Option Shelf) (q : Spec) :
    (((s.atRequest f.port).setShelf key h).done.answered q f .nothing).Answers .service f.tag q.code .done .none ∧
      s.SameButPorts (((s.atRequest f.port).setShelf key h).done.answered q f .nothing) ∧
      (((s.atRequest f.port).setShelf key h).done.answered q f .nothing).alarms =
        { s.alarms with slots := s.alarms.slots.setAt i (some { r with shelf := h }) } := by
  have answers := ((s.atRequest f.port).setShelf key h).done.answered_answers q f .nothing
  refine ⟨port ▸ answers, (s.atRequest_arrives f.port).same.trans (State.withAlarms_answered_butPorts _ _ _ _ _ _), ?_⟩
  rw [port]
  exact Alarms.onRecord_held slot record _

end Shelves

/-- Settles O48: each request's own part goes by the record's class or shelf, and writes the slot of the record alone. -/
theorem shelvesAreKept : Obligations.ShelvesAreKept := by
  refine ⟨fun s f key n i r takes parsed slot record => ⟨fun cls => ?_, fun cls => ?_⟩,
    fun s f key i r takes parsed slot record => ⟨fun shelved => ?_, fun unshelved => ?_⟩,
    fun s key i r h runs slot record shelf => ?_⟩
  · have recordThere : (s.atRequest f.port).alarms.record key = some r := by rw [takes.2.1]; exact record
    have taken := exec_shelve takes parsed
    rw [State.shelveTaken_shelves recordThere cls] at taken
    exact ⟨_, taken, State.setShelf_answered takes.2.1 slot record _ _⟩
  · have recordThere : (s.atRequest f.port).alarms.record key = some r := by rw [takes.2.1]; exact record
    have taken := exec_shelve takes parsed
    rw [State.shelveTaken_refused recordThere cls] at taken
    exact ⟨_, taken, takes.2.1 ▸ s.refused_settles f shelveSpec .state⟩
  · have recordThere : (s.atRequest f.port).alarms.record key = some r := by rw [takes.2.1]; exact record
    have taken := exec_unshelve takes parsed
    rw [State.unshelveTaken_ends recordThere shelved] at taken
    exact ⟨_, taken, State.setShelf_answered takes.2.1 slot record _ _⟩
  · have recordThere : (s.atRequest f.port).alarms.record key = some r := by rw [takes.2.1]; exact record
    have taken := exec_unshelve takes parsed
    rw [State.unshelveTaken_refused recordThere unshelved] at taken
    exact ⟨_, taken, takes.2.1 ▸ s.refused_settles f unshelveSpec .state⟩
  · have counted : r.shelfCounted = { r with shelf := if h.minutes ≤ 1 then none else some ⟨h.minutes - 1, 60000⟩ } := by
      unfold AlarmRec.shelfCounted
      rw [shelf]
    show Host.Outcome.next (s.event fun t => t.shelfCounts key) = _
    rw [s.event_runs _ runs]
    unfold State.shelfCounts
    rw [Alarms.onRecord_held slot record, counted]

/-! ### Repeated raises (R141, R142) -/

section Raised

variable {r : AlarmRec} (now window : Nat)

/-- What every raise of a held record does (R141). -/
theorem AlarmRec.raised_counts : (r.raised now window).state = .activeUnack ∧ (r.raised now window).lastRaised = now ∧
    (r.raised now window).raiseCount = min (r.raiseCount + 1) 255 ∧ (r.raised now window).key = r.key := by
  unfold AlarmRec.raised
  cases r.state
  exacts [⟨rfl, rfl, rfl, rfl⟩, ⟨rfl, rfl, rfl, rfl⟩, ⟨rfl, rfl, rfl, rfl⟩]

theorem AlarmRec.raised_active (active : r.state ≠ .clearedUnack) : (r.raised now window).cls = r.cls ∧
    (r.raised now window).repeatRun = r.repeatRun ∧ (r.raised now window).shelf = r.shelf := by
  unfold AlarmRec.raised
  cases state : r.state with
  | activeUnack | activeAck => exact ⟨rfl, rfl, rfl⟩
  | clearedUnack => exact absurd state active

theorem AlarmRec.raised_ackBy (acknowledged : r.state = .activeAck) : (r.raised now window).ackBy = none := by
  unfold AlarmRec.raised
  rw [acknowledged]

theorem AlarmRec.raised_repeatRun (cleared : r.state = .clearedUnack) :
    (r.raised now window).repeatRun = r.nextRun now window := by
  unfold AlarmRec.raised
  rw [cleared]

/-- A re-raise whose run is a new multiple of the threshold raises the class one step, and a rise to STOP unshelves. -/
theorem AlarmRec.raised_rises (cleared : r.state = .clearedUnack) (rises : r.rises (r.nextRun now window) = true) :
    (r.raised now window).cls = r.cls.risen ∧
      (r.raised now window).shelf = if r.cls.risen = .stop then none else r.shelf := by
  unfold AlarmRec.raised
  simp only [cleared, rises, if_true, Bool.true_and, decide_eq_true_eq, and_self]

theorem AlarmRec.raised_keeps (cleared : r.state = .clearedUnack) (rises : r.rises (r.nextRun now window) = false) :
    (r.raised now window).cls = r.cls ∧ (r.raised now window).shelf = r.shelf := by
  unfold AlarmRec.raised
  simp [cleared, rises]

end Raised

theorem AlarmRec.rises_iff {r : AlarmRec} {t : Nat} (escalates : threshold r.key.code = some t) (run : Nat) :
    r.rises run = true ↔ run % t = 0 ∧ run ≠ r.repeatRun := by
  unfold AlarmRec.rises
  rw [escalates]
  exact decide_eq_true_iff

/-- Settles O49: a raise by the state of the record, and the class and the shelf of a re-raise by whether its run is a new multiple of
the threshold. -/
theorem repeatedRaisesEscalate : Obligations.RepeatedRaisesEscalate := by
  intro r now window
  obtain ⟨state, raised, count, key⟩ := r.raised_counts now window
  refine ⟨state, raised, count, key, AlarmRec.raised_active now window, AlarmRec.raised_ackBy now window,
    fun c cleared last => ?_⟩
  have run := AlarmRec.raised_repeatRun now window cleared
  rw [run]
  refine ⟨?_, fun t escalates multiple new => ?_, fun t escalates old => ?_, fun none => ?_⟩
  · unfold AlarmRec.nextRun
    rw [last]
    rfl
  · obtain ⟨cls, shelf⟩ :=
      AlarmRec.raised_rises now window cleared ((AlarmRec.rises_iff escalates _).2 ⟨multiple, new⟩)
    rw [cls, shelf]
    refine ⟨fun notice => ?_, fun warn => ?_, fun stop => ?_⟩
    · rw [notice]; exact ⟨rfl, rfl⟩
    · rw [warn]; exact ⟨rfl, rfl⟩
    · rw [stop]; rfl
  · refine AlarmRec.raised_keeps now window cleared (Bool.eq_false_iff.2 fun rises => ?_)
    obtain ⟨multiple, new⟩ := (AlarmRec.rises_iff escalates _).1 rises
    exact old.elim (fun no => no multiple) fun same => new same
  · refine AlarmRec.raised_keeps now window cleared ?_
    unfold AlarmRec.rises
    rw [none]

end Sys2Proof.Machine
end

section
/-! SUPPORT. The orders of NEXT (08 R150, 10 R169): each kind by its numbers, alarm records in listing order, constants by number and
channel. -/

namespace Sys2Proof.Machine

/-! ### Kinds that go by a number -/

theorem follows_iff {start : Option Nat} {n : Nat} : follows start n = true ↔ StandsAfter start n := by
  cases start with
  | none => exact ⟨fun _ => nofun, fun _ => rfl⟩
  | some i => exact decide_eq_true_iff.trans ⟨fun less k start => Option.some.inj start ▸ less, fun after => after i rfl⟩

theorem find?_finRange_eq_some {n : Nat} {p : Fin n → Bool} {i : Fin n} :
    (List.finRange n).find? p = some i ↔ p i = true ∧ ∀ j < i, p j = false := by
  rw [← Fin.find?_eq_find?_finRange, Fin.find?_eq_some_iff]

theorem find?_finRange_eq_none {n : Nat} {p : Fin n → Bool} :
    (List.finRange n).find? p = none ↔ ∀ j, p j = false := by
  rw [← Fin.find?_eq_find?_finRange, Fin.find?_eq_none_iff]

section Numbered

variable (s : State) (start : Option Nat)

/-- A slot that NEXT can return: after the start and not EMPTY. -/
theorem zoneListed_eq_false {j : Fin 40} :
    (follows start j.val && decide ((s.zones.slots.get j).state ≠ .empty)) = false ↔
      (StandsAfter start j.val → (s.zones.slots.get j).state = .empty) := by
  rw [← Bool.not_eq_true, Bool.and_eq_true, decide_eq_true_iff, follows_iff, not_and, not_not]

theorem State.nextOf_zone (i : Fin 40) : s.nextOf (.zone start) = some (.zone i) ↔
    StandsAfter start i.val ∧ (s.zones.slots.get i).state ≠ .empty ∧
      ∀ j : Fin 40, j < i → StandsAfter start j.val → (s.zones.slots.get j).state = .empty := by
  have injective : Function.Injective RecordKey.zone := fun _ _ => RecordKey.zone.inj
  show (slotsAll.find? _).map .zone = (some i).map RecordKey.zone ↔ _
  rw [(Option.map_injective injective).eq_iff, slotsAll, find?_finRange_eq_some, Bool.and_eq_true, decide_eq_true_iff,
    follows_iff, and_assoc]
  simp only [zoneListed_eq_false]

theorem State.nextOf_zone_none : s.nextOf (.zone start) = none ↔
    ∀ j : Fin 40, StandsAfter start j.val → (s.zones.slots.get j).state = .empty := by
  show (slotsAll.find? _).map RecordKey.zone = none ↔ _
  rw [Option.map_eq_none_iff, slotsAll, find?_finRange_eq_none]
  simp only [zoneListed_eq_false]

theorem State.nextOf_generator (g : Fin 12) : s.nextOf (.generator start) = some (.generator g) ↔
    StandsAfter start (g.val + 1) ∧ g.val < s.fitted ∧ ∀ h : Fin 12, h < g → ¬ StandsAfter start (h.val + 1) := by
  have injective : Function.Injective RecordKey.generator := fun _ _ => RecordKey.generator.inj
  show (gensAll.find? _).map .generator = (some g).map RecordKey.generator ↔ _
  rw [(Option.map_injective injective).eq_iff, gensAll, find?_finRange_eq_some, Bool.and_eq_true, decide_eq_true_iff,
    follows_iff, and_assoc]
  refine and_congr_right fun _ => and_congr_right fun fitted => forall₂_congr fun h lower => ?_
  have below : h.val < s.fitted := lt_trans lower fitted
  rw [← Bool.not_eq_true, Bool.and_eq_true, decide_eq_true_iff, follows_iff, and_iff_left below]

theorem State.nextOf_cacheEntry {i j : Fin 16} (next : j.val = i.val + 1) :
    s.nextOf (.cacheEntry (some i.val)) = some (.cacheEntry j) := by
  have found : (List.finRange 16).find? (fun k => follows (some i.val) k.val) = some j :=
    find?_finRange_eq_some.2 ⟨decide_eq_true (by omega), fun k lower => decide_eq_false (by
      have := Fin.lt_def.1 lower
      omega)⟩
  exact congrArg (Option.map RecordKey.cacheEntry) found

end Numbered

/-! ### Alarm records in listing order (R150) -/

section Listing

variable {a b c : ListingKey}

theorem before_iff : a.before b = true ↔ ListedBefore a b := decide_eq_true_iff

theorem ListedBefore.irrefl : ¬ ListedBefore a a := by
  unfold ListedBefore
  omega

theorem ListedBefore.trans (h : ListedBefore a b) (g : ListedBefore b c) : ListedBefore a c := by
  unfold ListedBefore at *
  omega

/-- What stands no later than `b` stands before all that `b` stands before. -/
theorem ListedBefore.of_not (h : ¬ ListedBefore b a) (g : ListedBefore b c) : ListedBefore a c := by
  unfold ListedBefore at *
  omega

theorem listedAs_iff {r : AlarmRec} {k : ListingKey} : ListedAs r k ↔ k = listingOf r := by
  have rank : r.cls.rank = (match r.cls with
    | .trip => 0
    | .stop => 1
    | .warn => 2
    | .notice => 3) := by cases r.cls <;> rfl
  constructor
  · rintro ⟨cls, acknowledged, first, code, num⟩
    obtain ⟨_, _, _, _, _⟩ := k
    cases cls.trans rank.symm
    cases acknowledged
    cases first
    cases code
    cases num
    rfl
  · rintro rfl
    exact ⟨rank, rfl, rfl, rfl, rfl⟩

theorem follows?_iff {start : Option ListingKey} {k : ListingKey} :
    follows? start k = true ↔ ∀ i, start = some i → ListedBefore i k := by
  cases start with
  | none => exact ⟨fun _ => nofun, fun _ => rfl⟩
  | some i => exact before_iff.trans ⟨fun less j start => Option.some.inj start ▸ less, fun after => after i rfl⟩

/-- The search for the first in listing order finds one of its keys, and none of them stands before it. -/
theorem foldl_firstListed {l : List ListingKey} {best : Option ListingKey} {k : ListingKey}
    (found : l.foldl firstListed best = some k) :
    (k ∈ l ∨ best = some k) ∧ (∀ x ∈ l, ¬ ListedBefore x k) ∧ ∀ b, best = some b → ¬ ListedBefore b k := by
  induction l generalizing best with
  | nil =>
    refine ⟨.inr found, nofun, fun b held => ?_⟩
    cases held.symm.trans found
    exact ListedBefore.irrefl
  | cons x l ih =>
    obtain ⟨member, first, noBetter⟩ := ih found
    cases best with
    | none =>
      refine ⟨.inl (member.elim (List.mem_cons_of_mem x) fun taken => ?_),
        List.forall_mem_cons.2 ⟨noBetter x rfl, first⟩, nofun⟩
      cases taken
      exact List.mem_cons_self
    | some b =>
      by_cases earlier : ListedBefore x b
      · have taken : firstListed (some b) x = some x := if_pos (before_iff.2 earlier)
        rw [taken] at member noBetter
        refine ⟨.inl (member.elim (List.mem_cons_of_mem x) fun same => ?_),
          List.forall_mem_cons.2 ⟨noBetter x rfl, first⟩, fun b' held before => ?_⟩
        · cases same
          exact List.mem_cons_self
        · cases held
          exact noBetter x rfl (earlier.trans before)
      · have kept : firstListed (some b) x = some b := if_neg (mt before_iff.1 earlier)
        rw [kept] at member noBetter
        exact ⟨member.imp (List.mem_cons_of_mem x) id,
          List.forall_mem_cons.2 ⟨fun before => noBetter b rfl (ListedBefore.of_not earlier before), first⟩, noBetter⟩

theorem foldl_firstListed_eq_none {l : List ListingKey} {best : Option ListingKey} :
    l.foldl firstListed best = none ↔ l = [] ∧ best = none := by
  induction l generalizing best with
  | nil => exact (and_iff_right rfl).symm
  | cons x l ih =>
    refine ih.trans ⟨fun ⟨_, lost⟩ => ?_, fun ⟨empty, _⟩ => absurd empty (List.cons_ne_nil x l)⟩
    cases best with
    | none => cases lost
    | some b =>
      unfold firstListed at lost
      split at lost
      · next none => cases none
      · split at lost <;> cases lost

variable {s : State} {start : Option ListingKey}

/-- The keys among which NEXT of kind 11 looks for the first. -/
theorem State.mem_listing {k : ListingKey} : k ∈ s.alarms.listing.filter (follows? start) ↔ s.ListedAfter start k := by
  have held : k ∈ s.alarms.listing ↔ ∃ r, some r ∈ s.alarms.slots.cells ∧ ListedAs r k := by
    unfold Alarms.listing
    simp only [List.mem_map, List.mem_filterMap, id, exists_eq_right, listedAs_iff, eq_comm]
  rw [List.mem_filter, held, follows?_iff]
  exact Iff.rfl

theorem State.nextOf_listed {key : AlarmKey} (next : s.nextOf (.alarm start) = some (.alarm key)) :
    ∃ k, s.ListedAfter start k ∧ key = ⟨k.code, k.num⟩ ∧ ∀ k', s.ListedAfter start k' → ¬ ListedBefore k' k := by
  obtain ⟨x, listed, same⟩ := Option.map_eq_some_iff.1 next
  cases same
  obtain ⟨k, found, rfl⟩ := Option.map_eq_some_iff.1 listed
  obtain ⟨member, first, -⟩ := foldl_firstListed found
  exact ⟨k, State.mem_listing.1 (member.resolve_right nofun), rfl, fun k' after => first k' (State.mem_listing.2 after)⟩

theorem State.nextOf_listed_none : s.nextOf (.alarm start) = none ↔ ∀ k, ¬ s.ListedAfter start k := by
  show (s.alarms.nextListed start).map RecordKey.alarm = none ↔ _
  unfold Alarms.nextListed
  rw [Option.map_eq_none_iff, Option.map_eq_none_iff, foldl_firstListed_eq_none, and_iff_left rfl,
    List.eq_nil_iff_forall_not_mem]
  exact forall_congr' fun k => not_congr State.mem_listing

/-- The record of a key that NEXT returns is held. -/
theorem State.alarmRead_isSome_of_next {key : AlarmKey} (next : s.nextOf (.alarm start) = some (.alarm key)) :
    (s.alarmRead key).isSome = true := by
  obtain ⟨k, ⟨⟨r, held, listed⟩, -⟩, rfl, -⟩ := State.nextOf_listed next
  rw [listedAs_iff.1 listed]
  cases slot : s.alarms.slotOf r.key with
  | none =>
    have holds : holdsKey r.key (some r) = true := decide_eq_true rfl
    exact absurd holds (Bool.eq_false_iff.1 (List.findIdx?_eq_none_iff.1 slot _ held))
  | some i =>
    obtain ⟨r', record, -, -⟩ := Alarms.record_of_slotOf slot
    have slotThere : s.alarms.slotOf ⟨(listingOf r).code, (listingOf r).num⟩ = some i := slot
    have recordThere : s.alarms.record ⟨(listingOf r).code, (listingOf r).num⟩ = some r' := record
    unfold State.alarmRead
    rw [slotThere, recordThere]
    rfl

end Listing

/-! ### Constants by number and channel -/

/-- The starting key that names a constant. -/
def ConstKey.start (key : ConstKey) : Option (Nat × Nat) := some (key.no, constFollows.channelNumber key)

/-- One constant follows another in the order of NEXT, and not the other way round. -/
def ConstKey.Precedes (a b : ConstKey) : Prop := constFollows a.start b = true ∧ constFollows b.start a = false

/-- The list of the constants stands in the order of NEXT. -/
theorem constantKeys_ordered : constantKeys.Pairwise ConstKey.Precedes := by
  have ordered : constantKeys.Pairwise fun a b => constFollows a.start b = true ∧ constFollows b.start a = false := by
    decide +kernel
  exact ordered

theorem constFollows_self (key : ConstKey) : constFollows key.start key = false := by
  unfold ConstKey.start constFollows
  simp

/-- In an ordered list the first that follows an element is the element after it. -/
theorem find?_constFollows {l : List ConstKey} (ordered : l.Pairwise ConstKey.Precedes) {i : Nat} {key : ConstKey}
    (held : l[i]? = some key) : l.find? (constFollows key.start) = l[i + 1]? := by
  induction l generalizing i with
  | nil => cases held
  | cons x l ih =>
    obtain ⟨first, rest⟩ := List.pairwise_cons.1 ordered
    cases i with
    | zero =>
      cases held
      rw [List.find?_cons_of_neg (Bool.eq_false_iff.1 (constFollows_self _))]
      cases l with
      | nil => rfl
      | cons y l => exact List.find?_cons_of_pos (first y List.mem_cons_self).1
    | succ i =>
      have later : key ∈ l := List.mem_of_getElem? held
      rw [List.find?_cons_of_neg (Bool.eq_false_iff.1 (first key later).2)]
      exact ih rest held

/-- NEXT steps through each kind in its order (R169). -/
theorem State.nextFollowsOrder (s : State) : s.NextFollowsOrder :=
  ⟨s.nextOf_zone, s.nextOf_zone_none, s.nextOf_generator, ⟨rfl, rfl, rfl, rfl⟩, ⟨rfl, rfl, rfl, rfl⟩,
    ⟨rfl, rfl, rfl, rfl, rfl⟩, ⟨rfl, rfl, fun _ _ => s.nextOf_cacheEntry⟩, fun _ _ => State.nextOf_listed,
    fun _ => State.nextOf_listed_none, rfl,
    fun _ _ held => congrArg (Option.map RecordKey.constant) (find?_constFollows constantKeys_ordered held)⟩

/-- A record that NEXT returns is held. -/
theorem State.recordOf_isSome_of_next {s : State} {start : NextKey} {key : RecordKey} (next : s.nextOf start = some key) :
    (s.recordOf key).isSome = true := by
  cases key with
  | alarm key =>
    cases start with
    | alarm start => exact State.alarmRead_isSome_of_next next
    | _ =>
      obtain ⟨x, -, same⟩ := Option.map_eq_some_iff.1 next
      cases same
  | _ => rfl

end Sys2Proof.Machine
end

section
/-! SUPPORT. READ, NEXT and STATUS (10 R168–R170): the record bodies of R175 byte by byte, and what the three requests answer. -/

namespace Sys2Proof.Machine

/-! ### Fields that may be absent -/

theorem opt_length {α : Type} {n : Nat} {g : α → List Byte} (o : Option α) (each : ∀ x, (g x).length = n) :
    (opt n g o).length = n := by
  cases o with
  | none => exact List.length_replicate
  | some x => exact each x

/-- An optional byte is 255 where it is absent. -/
theorem opt_byte {α : Type} (g : α → Byte) (o : Option α) : opt 1 (fun x => [g x]) o = [o.elim 255 g] := by
  cases o <;> rfl

theorem exists_causeBytes (c : Option Cause) : ∃ b₀ b₁, causeBytes c = [b₀, b₁] :=
  List.length_eq_two.1 (opt_length c fun _ => rfl)

/-- A machine time, absent or not, is four bytes. -/
theorem exists_time?_bytes (t : Option Nat) : ∃ b₀ b₁ b₂ b₃, time? t = [b₀, b₁, b₂, b₃] :=
  List.length_eq_four.1 (opt_length t fun _ => rfl)

theorem exists_window_bytes (w : Option SwingWindow) :
    ∃ b₀ b₁ b₂ b₃, opt 4 (fun w : SwingWindow => u16 w.base ++ u16 w.span) w = [b₀, b₁, b₂, b₃] :=
  List.length_eq_four.1 (opt_length w fun _ => rfl)

/-- Four bytes that stand for a machine time are that time at their place. -/
theorem timeAt_of_bytes {b : List Byte} {place : Nat} {t : Option Nat} {b₀ b₁ b₂ b₃ : Byte}
    (bytes : time? t = [b₀, b₁, b₂, b₃]) (there : (b.drop place).take 4 = [b₀, b₁, b₂, b₃]) : TimeAt b place t := by
  unfold TimeAt FieldAt
  rw [there, ← bytes]
  cases t <;> rfl

/-! ### Enumerated bytes -/

theorem motionAt_of_byte {b : List Byte} {place : Nat} {m : Option Motion} (there : b[place]? = some (motionByte m)) :
    MotionAt b place m := by
  unfold MotionAt ByteAt
  rw [there]
  rcases m with _ | m
  · rfl
  · cases m <;> rfl

theorem directionAt_of_byte {b : List Byte} {place : Nat} {d : Option Dir} (there : b[place]? = some (demandByte d)) :
    DirectionAt b place d := by
  unfold DirectionAt ByteAt
  rw [there]
  rcases d with _ | d
  · rfl
  · cases d <;> rfl

/-- The byte of a code is its position (R175). -/
theorem permissionByte_eq (p : Permission) : permissionByte p = match p with
    | .none => 0
    | .plus => 1
    | .minus => 2
    | .both => 3 := by
  cases p <;> rfl

/-- The proof levels stand in the four low bits (R175). -/
theorem proofByte_bits (p : PerMotion Bool) :
    ((proofByte p).getLsbD 0, (proofByte p).getLsbD 1, (proofByte p).getLsbD 2, (proofByte p).getLsbD 3) =
      (p.hoist, p.drag, p.swing, p.walk) := by
  obtain ⟨hoist, drag, swing, walk⟩ := p
  revert hoist drag swing walk
  decide

theorem attentionByte_bits (s : State) : ((attentionByte s).getLsbD 0, (attentionByte s).getLsbD 1) =
    (s.attentionLine .cab, s.attentionLine .service) := by
  have bits : ∀ cab service : Bool, ((u8 ((if cab then 1 else 0) + if service then 2 else 0)).getLsbD 0,
      (u8 ((if cab then 1 else 0) + if service then 2 else 0)).getLsbD 1) = (cab, service) := by decide
  exact bits _ _

/-! ### The record bodies (R175) -/

theorem motionBytes_body (s : State) (m : Dig) : s.MotionBody m (motionBytes s m) := by
  obtain ⟨c₀, c₁, hCause⟩ := exists_causeBytes (s.motions.get m).tripCause
  obtain ⟨t₀, t₁, t₂, t₃, hStart⟩ := exists_time?_bytes (s.motions.get m).holdStart
  obtain ⟨w₀, w₁, w₂, w₃, hWait⟩ := exists_time?_bytes (s.motions.get m).brake.stopWait
  have bytes : motionBytes s m = [motionByte (some m.motion), motionStateByte (s.motions.get m).state,
      demandByte (s.motions.get m).demand, complementByte (s.motions.get m).complement, u8 (s.held m.motion),
      u8 (s.proven m.motion), brakeByte (s.motions.get m).brake.state, demandByte (s.motions.get m).permit,
      (s.motions.get m).holdReason.elim 255 holdReasonByte, c₀, c₁, t₀, t₁, t₂, t₃,
      yesNo (s.motions.get m).reversal, w₀, w₁, w₂, w₃] := by
    unfold motionBytes
    dsimp only
    rw [opt_byte holdReasonByte, hCause, hStart, hWait]
    rfl
  rw [bytes]
  refine ⟨rfl, motionAt_of_byte rfl, congrArg some ?state, directionAt_of_byte rfl, congrArg some ?complement, rfl, rfl,
    congrArg some ?brake, directionAt_of_byte rfl, congrArg some ?reason, ?cause, timeAt_of_bytes hStart rfl, rfl,
    timeAt_of_bytes hWait rfl⟩
  case state => cases (s.motions.get m).state <;> rfl
  case complement => cases (s.motions.get m).complement <;> rfl
  case brake => cases (s.motions.get m).brake.state <;> rfl
  case reason =>
    rcases (s.motions.get m).holdReason with _ | h
    · rfl
    · cases h <;> rfl
  case cause =>
    refine Eq.trans (b := causeBytes (s.motions.get m).tripCause) hCause.symm ?_
    cases (s.motions.get m).tripCause <;> rfl

theorem genBytes_body (s : State) (g : Fin 12) :
    s.GeneratorBody g (genBytes (g.val + 1) (s.gens.get g) (s.inputs.proof.get g)) := by
  have proofs : (some (proofByte (s.proofs g))).map (fun p : Byte => (p.getLsbD 0, p.getLsbD 1, p.getLsbD 2, p.getLsbD 3)) =
      some ((s.proofs g).hoist, (s.proofs g).drag, (s.proofs g).swing, (s.proofs g).walk) :=
    congrArg some (proofByte_bits _)
  unfold State.GeneratorBody
  generalize s.gens.get g = gen
  obtain ⟨st, attempts⟩ := gen
  cases st with
  | noRecord => exact ⟨rfl, rfl, rfl, proofs, trivial⟩
  | free => exact ⟨rfl, rfl, rfl, proofs, rfl, rfl, rfl, rfl, rfl, rfl, rfl, rfl⟩
  | parked l since =>
    exact ⟨rfl, rfl, rfl, proofs, rfl, motionAt_of_byte rfl, rfl, rfl, rfl, rfl, rfl, rfl⟩
  | granted h =>
    exact ⟨rfl, rfl, rfl, proofs, rfl, motionAt_of_byte rfl, motionAt_of_byte rfl, rfl, rfl, rfl, rfl, rfl⟩
  | lockedOut c l =>
    refine ⟨rfl, rfl, rfl, proofs, rfl, motionAt_of_byte rfl, rfl, rfl, rfl, rfl, rfl, congrArg some ?_⟩
    cases c <;> rfl
  | moving v =>
    have bytes : genBytes (g.val + 1) ⟨.moving v, attempts⟩ (s.inputs.proof.get g) = [u8 (g.val + 1), 2, loopByte v.loop,
        motionByte v.holder, moveStepByte v.step, loopByte v.target, u8 attempts, v.lockPending.elim 255 pendingByte,
        255, 255, 255, 255, 255, proofByte (s.proofs g)] := by
      show _ ++ opt 1 (fun c => [pendingByte c]) v.lockPending ++ _ ++ _ ++ _ = _
      rw [opt_byte pendingByte]
      rfl
    rw [bytes]
    refine ⟨rfl, rfl, rfl, proofs, rfl, motionAt_of_byte rfl, motionAt_of_byte rfl, congrArg some ?step,
      motionAt_of_byte rfl, congrArg some ?pending, rfl, rfl⟩
    case step => cases v.step <;> rfl
    case pending =>
      rcases v.lockPending with _ | c
      · rfl
      · cases c <;> rfl

theorem zoneBytes_body (s : State) (i : Fin 40) : s.ZoneBodyBytes i (zoneBytes i.val (s.zones.slots.get i)) := by
  unfold State.ZoneBodyBytes
  generalize s.zones.slots.get i = z
  obtain ⟨state, revision, window, body, fault⟩ := z
  obtain ⟨w₀, w₁, w₂, w₃, hWindow⟩ := exists_window_bytes window
  have windowAt (rest : List Byte) : FieldAt ([u8 i.val, zoneStateByte state] ++ u16 revision.toNat ++ [w₀, w₁, w₂, w₃] ++ rest)
      4 4 window fun w => [BitVec.ofNat 8 (w.base / 256), BitVec.ofNat 8 w.base, BitVec.ofNat 8 (w.span / 256),
        BitVec.ofNat 8 w.span] := by
    refine Eq.trans (b := opt 4 (fun w : SwingWindow => u16 w.base ++ u16 w.span) window) hWindow.symm ?_
    cases window <;> rfl
  unfold zoneBytes
  dsimp only
  rw [hWindow]
  have permissions (m : Dig) : ByteAt ([u8 i.val, zoneStateByte state] ++ u16 revision.toNat ++ [w₀, w₁, w₂, w₃] ++
      zoneBodyBytes body) (13 + m.motion.number) (match body.permission.get m with
        | .none => 0
        | .plus => 1
        | .minus => 2
        | .both => 3) := by
    cases m <;> exact congrArg some (permissionByte_eq _)
  have kind : zoneKindByte body.kind = match body.kind with
      | .machine => 0
      | .site => 1 := by
    cases body.kind <;> rfl
  cases state with
  | empty => exact ⟨rfl, rfl, rfl, windowAt _, fun _ => rfl, fun held => by simp at held⟩
  | defective => exact ⟨rfl, rfl, rfl, windowAt _, fun _ => rfl, fun held => by simp at held⟩
  | inForce =>
    exact ⟨rfl, rfl, rfl, windowAt _, fun bare => by simp at bare,
      fun _ => ⟨congrArg some kind, rfl, rfl, permissions, rfl, rfl⟩⟩
  | stale =>
    exact ⟨rfl, rfl, rfl, windowAt _, fun bare => by simp at bare,
      fun _ => ⟨congrArg some kind, rfl, rfl, permissions, rfl, rfl⟩⟩

theorem supplyBytes_body (s : State) : s.SupplyBody (supplyBytes s) := by
  obtain ⟨e₀, e₁, e₂, e₃, hEntry⟩ := exists_time?_bytes s.supply.lastEntry
  obtain ⟨r₀, r₁, r₂, r₃, hReturn⟩ := exists_time?_bytes s.supply.lastReturn
  unfold supplyBytes
  rw [hEntry, hReturn]
  refine ⟨rfl, congrArg some ?_, timeAt_of_bytes hEntry rfl, timeAt_of_bytes hReturn rfl, rfl⟩
  cases s.supply.state <;> rfl

theorem statusBytes_body (s : State) : s.StatusBody (statusBytes s) := by
  refine ⟨rfl, rfl, ⟨Config.designLevelLessOne.val + 1, by omega, by omega, rfl⟩, rfl, congrArg some ?supply, rfl, rfl, rfl,
    rfl, rfl, rfl, fun closed => congrArg some ?closed, fun ms opened => congrArg some ?opened, congrArg some ?cab, rfl,
    congrArg some (attentionByte_bits s)⟩
  case supply => cases s.supply.state <;> rfl
  case closed => rw [closed]; rfl
  case opened => rw [opened]; rfl
  case cab => cases s.cabTimer <;> rfl

/-! ### The three requests (R168–R170) -/

theorem Taken.answered_answersBody {t : Taken} (plain : t.reply.reason = .none) (q : Spec) (f : Frame) (after : AfterSent) :
    (t.answered q f after).AnswersBody f.port f.tag q.code t.reply.status t.reply.body := by
  unfold State.AnswersBody Taken.answered
  rw [State.answer_ports, PerPort.get_set_self]
  exact ⟨_, rfl, rfl, rfl, rfl, plain, rfl⟩

/-- An answer changes the ports alone. -/
theorem Taken.answered_butPorts (t : Taken) (q : Spec) (f : Frame) (after : AfterSent) (x : PerPort PortState) :
    { t.answered q f after with ports := x } = { t.state with ports := x } := rfl

section Reads

variable {s : State} {f : Frame}

theorem generatorOf_atRequest (s : State) (p : Port) : generatorOf (s.atRequest p) = generatorOf s := by
  funext n
  unfold generatorOf
  rw [(s.atRequest_arrives p).same.fitted]

theorem parseRead_atRequest (s : State) (p : Port) (fs : List Byte) : parseRead (s.atRequest p) fs = parseRead s fs := by
  unfold parseRead
  rw [generatorOf_atRequest]

theorem parseNext_atRequest (s : State) (p : Port) (fs : List Byte) : parseNext (s.atRequest p) fs = parseNext s fs := by
  unfold parseNext
  rw [generatorOf_atRequest]

theorem exec_read {key : RecordKey} (runs : s.Runs) (awaits : s.Awaits f.port) (parsed : parseRead s f.fields = .ok key) :
    exec (.read f) s = .next (State.settle s (((s.atRequest f.port).readTaken key).answered readSpec f .nothing)) :=
  congrArg Host.Outcome.next (request_inRun (q := readSpec) (parse := parseRead) (x := key)
    (act := fun key t => t.readTaken key) runs awaits (by cases f.port <;> rfl)
    ((parseRead_atRequest s f.port f.fields).trans parsed) rfl rfl rfl)

theorem exec_next {start : NextKey} (runs : s.Runs) (awaits : s.Awaits f.port) (parsed : parseNext s f.fields = .ok start) :
    exec (.next f) s = .next (State.settle s (((s.atRequest f.port).nextTaken start).answered nextSpec f .nothing)) :=
  congrArg Host.Outcome.next (request_inRun (q := nextSpec) (parse := parseNext) (x := start)
    (act := fun start t => t.nextTaken start) runs awaits (by cases f.port <;> rfl)
    ((parseNext_atRequest s f.port f.fields).trans parsed) rfl rfl rfl)

theorem exec_status (runs : s.Runs) (awaits : s.Awaits f.port) (fields : f.fields = []) : exec (.status f) s =
    .next (State.settle s (((s.atRequest f.port).replies ⟨.done, .none, statusBytes (s.atRequest f.port)⟩).answered
      statusSpec f .nothing)) :=
  congrArg Host.Outcome.next (request_inRun (q := statusSpec) (parse := parseNothing) (x := ())
    (act := fun _ t => t.replies ⟨.done, .none, statusBytes t⟩) runs awaits (by cases f.port <;> rfl)
    (by rw [fields]; rfl) rfl rfl rfl)

theorem State.readTaken_held {key : RecordKey} {body : List Byte} (held : (s.checkedFor key).recordOf key = some body) :
    s.readTaken key = ⟨s.checkedFor key, ⟨.done, .none, body⟩⟩ := by
  unfold State.readTaken
  simp only [held]

theorem State.readTaken_none {key : RecordKey} (absent : (s.checkedFor key).recordOf key = none) :
    s.readTaken key = ⟨s.checkedFor key, Reply.of .noRecord⟩ := by
  unfold State.readTaken
  simp only [absent]

theorem State.nextTaken_follows {start : NextKey} {key : RecordKey} (next : s.nextOf start = some key) :
    s.nextTaken start = s.readTaken key := by
  unfold State.nextTaken
  rw [next]

theorem State.nextTaken_none {start : NextKey} (last : s.nextOf start = none) :
    s.nextTaken start = s.replies (Reply.of .noRecord) := by
  unfold State.nextTaken
  rw [last]

/-- Every key but an alarm key names a record that is there. -/
theorem State.recordOf_isSome {key : RecordKey} (noAlarm : ∀ a, key ≠ .alarm a) : (s.recordOf key).isSome = true := by
  cases key with
  | alarm a => exact absurd rfl (noAlarm a)
  | _ => rfl

theorem State.checkedFor_of_not_zone {key : RecordKey} (noZone : ∀ i, key ≠ .zone i) : s.checkedFor key = s := by
  cases key with
  | zone i => exact absurd rfl (noZone i)
  | _ => rfl

theorem State.AnswersBody.settled {u : State} {p : Port} {tag code : Byte} {status : Status} {body : List Byte}
    (h : u.AnswersBody p tag code status body) (s0 : State) : (State.settle s0 u).AnswersBody p tag code status body := by
  unfold State.AnswersBody at *
  rw [(State.settle_same s0 u).ports]
  exact h

end Reads

/-- Settles O58: READ and NEXT answer with what the key names once its body is checked, NEXT by the order of its kind, and each body
is laid out as R175 gives it. -/
theorem readingAnswersWithRecords : Obligations.ReadingAnswersWithRecords := by
  refine ⟨fun s f key runs awaits parsed => ⟨State.recordOf_isSome, fun body held => ?_, fun absent => ?_⟩,
    fun s key => State.checkedFor_of_not_zone,
    fun s f start runs awaits parsed => ⟨fun key body next held => ?_, fun last => ?_⟩,
    fun s start key => State.recordOf_isSome_of_next, State.nextFollowsOrder, fun s m => ⟨_, rfl, motionBytes_body s m⟩,
    fun s g => ⟨_, rfl, genBytes_body s g⟩, fun s i => ⟨_, rfl, zoneBytes_body s i⟩,
    fun s => ⟨_, rfl, supplyBytes_body s⟩, fun s f runs awaits fields => ?_⟩
  · have taken := exec_read runs awaits parsed
    rw [State.readTaken_held held] at taken
    exact ⟨_, taken, Taken.answered_answersBody rfl _ _ _, Taken.answered_butPorts _ _ _ _ _⟩
  · have taken := exec_read runs awaits parsed
    rw [State.readTaken_none absent] at taken
    exact ⟨_, taken, Taken.answered_answersBody rfl _ _ _, Taken.answered_butPorts _ _ _ _ _⟩
  · have taken := exec_next runs awaits parsed
    rw [State.nextTaken_follows next, State.readTaken_held held] at taken
    exact ⟨_, taken, Taken.answered_answersBody rfl _ _ _, Taken.answered_butPorts _ _ _ _ _⟩
  · have taken := exec_next runs awaits parsed
    rw [State.nextTaken_none last] at taken
    exact ⟨_, taken, Taken.answered_answersBody rfl _ _ _, Taken.answered_butPorts _ _ _ _ _⟩
  · exact ⟨_, _, exec_status runs awaits fields, (Taken.answered_answersBody rfl _ _ _).settled s,
      statusBytes_body (s.atRequest f.port),
      ((s.atRequest_arrives f.port).same.trans (State.answer_butPorts _ _ _)).settled s⟩

end Sys2Proof.Machine
end

section
/-! SUPPORT. A part in HOLDUP (09 R155–R157): raises and clears show in the alarm table alone, every field output is off, and the
records stand as the entry left them through the end of its change. -/

namespace Sys2Proof.Machine

/-! ### Field outputs and leases without mains (R52, R84, R155) -/

section OnBackup

variable {s : State}

theorem State.OnBackup.inHoldup (backup : s.OnBackup) : s.inHoldup = true := decide_eq_true backup.2

theorem State.OnBackup.driven (backup : s.OnBackup) : s.driven = false := by
  unfold State.driven
  rw [backup.inHoldup]
  exact Bool.and_false _

theorem State.OnBackup.coilOutput (backup : s.OnBackup) (g : Fin 12) (loop : Motion) : s.coilOutput g loop = false := by
  unfold State.coilOutput
  rw [backup.driven, Bool.false_and]

theorem State.OnBackup.fieldEnable (backup : s.OnBackup) (g : Fin 12) : s.fieldEnable g = false := by
  unfold State.fieldEnable
  rw [backup.driven, Bool.false_and]

theorem State.OnBackup.brakeOutput (backup : s.OnBackup) (m : Motion) : s.brakeOutput m = false := by
  unfold State.brakeOutput
  rw [backup.driven, Bool.false_and]

theorem State.OnBackup.permitLine (backup : s.OnBackup) (m : Motion) (d : Dir) : s.permitLine m d = false := by
  unfold State.permitLine
  rw [backup.driven, Bool.false_and]

theorem State.OnBackup.held (backup : s.OnBackup) (m : Motion) : s.held m = 0 := if_pos backup.inHoldup

theorem State.OnBackup.proven (backup : s.OnBackup) (m : Motion) : s.proven m = 0 := if_pos backup.inHoldup

end OnBackup

/-! ### Raises and clears in HOLDUP (R156) -/

/-- A change that, made in HOLDUP, is one of the alarm table alone. -/
def State.ReportsOnly (s t : State) : Prop := s.inHoldup = true → ∃ a, t = { s with alarms := a }

section ReportsOnly

variable {s t u : State}

theorem State.ReportsOnly.refl (s : State) : s.ReportsOnly s := fun _ => ⟨s.alarms, rfl⟩

theorem State.ReportsOnly.trans (h : s.ReportsOnly t) (g : t.ReportsOnly u) : s.ReportsOnly u := by
  intro holdup
  obtain ⟨a, rfl⟩ := h holdup
  exact g holdup

theorem State.ReportsOnly.ite {p : Prop} [Decidable p] (ht : s.ReportsOnly t) (hu : s.ReportsOnly u) :
    s.ReportsOnly (if p then t else u) := by
  split
  exacts [ht, hu]

theorem State.ReportsOnly.foldl {α : Type} {f : State → α → State} (h : ∀ (s : State) (a : α), s.ReportsOnly (f s a))
    (l : List α) (s : State) : s.ReportsOnly (l.foldl f s) := by
  induction l generalizing s with
  | nil => exact .refl s
  | cons a l ih => exact (h s a).trans (ih (f s a))

end ReportsOnly

theorem State.clearCondition_reportsOnly (s : State) (key : AlarmKey) : s.ReportsOnly (s.clearCondition key) :=
  .ite (fun _ => ⟨_, rfl⟩) (.refl s)

/-- A raise in HOLDUP begins no class effect (R156). -/
theorem State.raiseCondition_reportsOnly (s : State) (key : AlarmKey) : s.ReportsOnly (s.raiseCondition key) :=
  .ite (.refl s) fun holdup => ⟨_, if_pos holdup⟩

theorem State.setCondition_reportsOnly (s : State) (key : AlarmKey) (b : Bool) : s.ReportsOnly (s.setCondition key b) :=
  (s.raiseCondition_reportsOnly key).ite (s.clearCondition_reportsOnly key)

theorem State.starvedCleared_reportsOnly (s : State) : s.ReportsOnly s.starvedCleared :=
  .foldl (fun s _ => s.clearCondition_reportsOnly _) _ s

theorem State.syncChannels_reportsOnly (s : State) : s.ReportsOnly s.syncChannels :=
  ((State.ReportsOnly.foldl (fun s _ => (State.ReportsOnly.refl s).ite (s.clearCondition_reportsOnly _)) _ s).trans
    (.foldl (fun s _ => s.setCondition_reportsOnly _ _) _ _)).trans (.foldl (fun s _ => s.setCondition_reportsOnly _ _) _ _)

/-- The codes of the generator table keep their truth in HOLDUP (R69). -/
theorem State.syncGens_reportsOnly (s : State) : s.ReportsOnly s.syncGens := fun holdup => ⟨s.alarms, if_pos holdup⟩

theorem State.syncZones_reportsOnly (s : State) : s.ReportsOnly s.syncZones := by
  unfold State.syncZones
  exact (State.ReportsOnly.foldl (fun s _ => s.setCondition_reportsOnly _ _) _ s).trans (State.setCondition_reportsOnly _ _ _)

theorem State.syncConditions_reportsOnly (s : State) : s.ReportsOnly s.syncConditions :=
  (s.syncChannels_reportsOnly.trans (State.syncGens_reportsOnly _)).trans (State.syncZones_reportsOnly _)

/-- A change completed in HOLDUP moves the alarm table and the resolver alone: the motions, the walk and the generators stand
(R156). -/
theorem State.OnBackup.settle {s : State} (backup : s.OnBackup) (s0 : State) :
    ∃ a r, State.settle s0 s = { s with alarms := a, res := r } := by
  obtain ⟨a, synced⟩ := s.syncConditions_reportsOnly backup.inHoldup
  have completed : State.settle s0 s = s.syncConditions.resolverFollow := by
    unfold State.settle
    rw [backup.1]
    exact if_pos backup.inHoldup
  rw [completed, synced]
  exact ⟨a, _, rfl⟩

/-! ### Holdup entry (R155) -/

theorem Brake.atEntry_rests (b : Brake) : b.atEntry.state = .set ∨ b.atEntry.state = .setting := by
  unfold Brake.atEntry
  split
  exacts [.inl rfl, .inr rfl, .inr rfl, .inr rfl]

theorem MotionRec.atEntry_tripCause (r : MotionRec) (c : Cause) :
    (r.state ≠ .tripped → (r.atEntry c).tripCause = some c) ∧ (r.state = .tripped → (r.atEntry c).tripCause = r.tripCause) :=
  ⟨fun fresh => if_neg fresh, fun tripped => if_pos tripped⟩

theorem State.recordsAtEntry_motion (s : State) (m : Dig) :
    s.recordsAtEntry.motions.get m = (s.motions.get m).atEntry supplyLost := PerDig.get_map _ _ m

theorem State.recordsAtEntry_permit (s : State) (m : Motion) : s.recordsAtEntry.permit m = none := by
  cases m with
  | walk => exact WalkRec.atEntry_permit _ _
  | _ => rfl

theorem State.starvedCleared_truth (s : State) : State.TruthBut [13, 21] s s.starvedCleared := by
  unfold State.starvedCleared
  exact .foldl (fun s _ => .clearCondition s (by decide) (by decide)) _ s

/-- SUPPLY LOST becomes true at the entry, and stays so through the clears of LEASE STARVED and the end of the change (R155). -/
theorem State.settle_holdupEntry_supplyLost (s0 s : State) : (State.settle s0 s.holdupEntry).isTrue ⟨3, 0⟩ = true := by
  have raised : (s.recordsAtEntry.raiseCondition ⟨3, 0⟩).isTrue ⟨3, 0⟩ = true :=
    (State.isTrue_raiseCondition _ _ (by decide)).2 (.inl rfl)
  have starved : s.holdupEntry.isTrue ⟨3, 0⟩ = true := (State.starvedCleared_truth _ _ (by decide)).trans raised
  exact (State.settle_truth s0 _ _ (by decide)).trans starved

/-- A completed holdup entry is that of the records, but for what the alarm table and the resolver show (R155). -/
theorem State.settle_holdupEntry (s0 : State) {s : State} (runs : s.Runs) :
    ∃ a r, State.settle s0 s.holdupEntry = { s.recordsAtEntry with alarms := a, res := r } := by
  have entry : s.recordsAtEntry.ReportsOnly s.holdupEntry :=
    (s.recordsAtEntry.raiseCondition_reportsOnly _).trans (State.starvedCleared_reportsOnly _)
  obtain ⟨a, entered⟩ := entry rfl
  rw [entered]
  have backup : State.OnBackup { s.recordsAtEntry with alarms := a } := ⟨runs, rfl⟩
  obtain ⟨b, r, settled⟩ := backup.settle s0
  exact ⟨b, r, settled⟩

/-- MAINS_LOSS of a part on mains is the holdup entry and the completion of the change (R153, R155). -/
theorem exec_mainsLoss_onMains {s : State} (mains : s.OnMains) : exec .mainsLoss s =
    .next (State.settle s { s with inputs := { s.inputs with mains := false } }.holdupEntry) := by
  have inRun : ¬ ({ s with inputs := { s.inputs with mains := false } } : State).inHoldup = true :=
    Bool.eq_false_iff.1 (State.inHoldup_of_onMains (s := s) mains)
  show Host.Outcome.next (s.levelEvent _ _) = _
  rw [s.levelEvent_runs _ _ mains.1, if_neg inRun]

/-- Settles O50: the entry changes each record by its own rule, nothing that its change completes touches those records, and a part
in HOLDUP drives no output and holds no lease. -/
theorem mainsLossEntersHoldup : Obligations.MainsLossEntersHoldup := by
  intro s mains
  let e : State := { s with inputs := { s.inputs with mains := false } }
  have lost := State.settle_holdupEntry_supplyLost s e
  obtain ⟨a, r, entered⟩ := State.settle_holdupEntry s (s := e) mains.1
  refine ⟨_, exec_mainsLoss_onMains mains, ?_⟩
  rw [entered] at lost ⊢
  have backup : State.OnBackup { e.recordsAtEntry with alarms := a, res := r } := ⟨mains.1, rfl⟩
  refine ⟨rfl, rfl, fun g l => ⟨backup.coilOutput g l, backup.fieldEnable g⟩,
    fun m => ⟨backup.brakeOutput m, e.recordsAtEntry_permit m, backup.permitLine m⟩, fun m => ?_,
    fun m => ⟨backup.held m, backup.proven m⟩, rfl, rfl, rfl, lost, rfl, rfl, rfl, rfl, rfl, rfl, rfl⟩
  have record : e.recordsAtEntry.motions.get m = (s.motions.get m).atEntry supplyLost := e.recordsAtEntry_motion m
  obtain ⟨fresh, kept⟩ := (s.motions.get m).atEntry_tripCause supplyLost
  show (e.recordsAtEntry.motions.get m).state = _ ∧ _
  rw [record]
  exact ⟨rfl, Brake.atEntry_rests _, fresh, kept⟩

end Sys2Proof.Machine
end

section
/-! SUPPORT. The writes to the settings store (09 R154, 11 R178): the image that a COMMIT forms, the end of its write, and the end of
the marker's. -/

namespace Sys2Proof.Machine

/-! ### COMMIT (R178) -/

/-- A Service request behind the OPEN guard that its port takes, with no COMMIT in progress, has its own part and its answer (R164,
R171). -/
theorem request_behindGuard {α : Type} {q : Spec} {parse : State → List Byte → Field α} {act : α → State → Taken} {s : State}
    {f : Frame} {x : α} (takes : s.TakesEdit f) (allowed : q.allows .service = true) (opened : s.guardLeft.isSome = true)
    (parsed : parse (s.hunt .service) f.fields = .ok x) : request q parse act f s =
      State.settle s ((act x (s.hunt .service)).answered q f q.after) := by
  obtain ⟨mains, port, awaits, idle⟩ := takes
  have tests : firstTests q (.ok x) .service (s.hunt .service) = none :=
    firstTests_none allowed (.inl (State.inHoldup_of_onMains (s := s.hunt .service) mains)) (.inr idle)
  have passes : (q.guarded && !(s.hunt .service).guardOpen) = false := by
    have guardOpen : (s.hunt .service).guardOpen = true := opened
    rw [guardOpen, Bool.not_true, Bool.and_false]
  have taken : takeRequest q parse act f (s.hunt .service) = (act x (s.hunt .service)).answered q f q.after := by
    unfold takeRequest
    simp only [parsed, port, tests]
    unfold guardTest
    rw [passes]
    rfl
  unfold request
  rw [port, s.frameTaken_runs _ _ mains.1 awaits]
  exact congrArg (State.settle s) taken

/-- With sound bodies a COMMIT begins on the image of the slots as they stand (R178). -/
theorem State.commitBegun_sound {s : State} (sound : s.BodiesSound) :
    s.commitBegun = { s with commit := some ⟨s.imageNow, commitTime⟩ } := by
  unfold State.commitBegun
  rw [State.checkAll_sound sound]

theorem exec_commit_taken {s : State} {f : Frame} (takes : s.TakesEdit f) (sound : s.BodiesSound)
    (opened : s.guardLeft.isSome = true) (fields : f.fields = []) : exec (.commit f) s = .next (State.settle s
      (({ s.hunt .service with commit := some ⟨s.imageNow, commitTime⟩ } : State).accepted.answered commitSpec f
        .closeGuard)) := by
  have begun : (s.hunt .service).commitBegun = { s.hunt .service with commit := some ⟨s.imageNow, commitTime⟩ } :=
    State.commitBegun_sound (s := s.hunt .service) sound
  rw [← begun]
  exact congrArg Host.Outcome.next (request_behindGuard (q := commitSpec) (parse := parseNothing) (x := ())
    (act := fun _ t => t.commitBegun.accepted) takes rfl opened (by rw [fields]; rfl))

theorem storedForm_empty {z : ZoneSlot} (state : z.state = .empty) : storedForm z = .empty := by
  unfold storedForm
  rw [state]

theorem storedForm_defective {z : ZoneSlot} {w : SwingWindow} (window : z.window = some w) (state : z.state = .defective) :
    storedForm z = .defective z.revision w := by
  unfold storedForm
  rw [state, window]

/-- A slot IN FORCE or STALE is stored with its body; that it was STALE is not (R31). -/
theorem storedForm_held {z : ZoneSlot} {w : SwingWindow} (window : z.window = some w)
    (state : z.state = .inForce ∨ z.state = .stale) : storedForm z = .zone z.revision w z.body := by
  unfold storedForm
  rcases state with inForce | stale
  · rw [inForce, window]
  · rw [stale, window]

theorem State.imageNow_zone (s : State) (i : Fin 40) : s.imageNow.zones.get i = storedForm (s.zones.slots.get i) :=
  Table.get_map _ _ i

/-! ### The ends of the writes (R154, R178) -/

theorem State.commitEnds_of_commit {s : State} {c : CommitRun} (begun : s.commit = some c) (left : Option Image) :
    s.commitEnds left = ({ s with commit := none, store := { s.store with image := left } } : State).setCondition ⟨20, 0⟩
      (decide (left ≠ some c.image)) := by
  unfold State.commitEnds
  rw [begun]

/-- The end of a COMMIT's write sets SETTINGS STORE FAULT by its read-back, and the end of the change leaves it so (R178). -/
theorem State.settle_commitEnds_storeFault (s0 : State) {s : State} {c : CommitRun} (begun : s.commit = some c)
    (left : Option Image) : (State.settle s0 (s.commitEnds left)).isTrue ⟨20, 0⟩ = true ↔ left ≠ some c.image := by
  rw [State.settle_truth s0 _ ⟨20, 0⟩ (by decide), State.commitEnds_of_commit begun,
    State.isTrue_setCondition _ _ _ (by decide), if_pos rfl]
  exact decide_eq_true_iff

theorem Store.markerDone_of_write {st : Store} {v : Bool} (writing : st.markerWrite = some v) :
    st.markerDone = { st with marker := if v then .set else .clear, markerWrite := none } := by
  unfold Store.markerDone
  rw [writing]
  rfl

/-- Settles O53: each of the three puts its own records down, which the completion of the change leaves; the image is the slots
in their stored forms. -/
theorem storeWrites : Obligations.StoreWrites := by
  refine ⟨fun s f takes sound opened fields => ?_, fun s c left runs begun => ?_, fun s v runs writing => ?_⟩
  · let begun : State := { s.hunt .service with commit := some ⟨s.imageNow, commitTime⟩ }
    have answers := State.settle_answers s begun.accepted commitSpec f .closeGuard
    rw [takes.2.1] at answers
    have settled := State.settle_same s (begun.accepted.answered commitSpec f .closeGuard)
    refine ⟨_, ⟨s.imageNow, commitTime⟩, exec_commit_taken takes sound opened fields, answers, settled.commit, rfl,
      settled.store, settled.zones, settled.chans, settled.k, fun i => ?_⟩
    rw [s.imageNow_zone i]
    exact ⟨storedForm_empty, fun w window => ⟨storedForm_defective window, storedForm_held window⟩⟩
  · have ended := State.settle_same s (s.commitEnds left)
    have written := State.setCondition_same { s with commit := none, store := { s.store with image := left } } ⟨20, 0⟩
      (decide (left ≠ some c.image))
    rw [← State.commitEnds_of_commit begun] at written
    have same := written.trans ended
    exact ⟨_, congrArg Host.Outcome.next (s.event_runs _ runs), same.commit, same.store,
      State.settle_commitEnds_storeFault s begun left, same.chans, same.zones, same.k, same.ports⟩
  · have same := State.settle_same s { s with store := s.store.markerDone }
    exact ⟨_, congrArg Host.Outcome.next (s.event_runs _ runs), same.store.trans (Store.markerDone_of_write writing),
      same.supply, same.chans, same.zones, same.k⟩

end Sys2Proof.Machine
end

section
/-! SUPPORT. The tests before a request's own and the guard (10 R163–R171, 11 R179): each of the 26 requests is one frame taken with
its row of R167 and its field test, a request that fails a test is answered and changes no record, and what the sending of an
answer does besides. -/

namespace Sys2Proof.Machine

/-! ### The tests of R164 in their order -/

section Tests

variable {α : Type} {q : Spec} {parsed : Field α} {p : Port} {s : State}

theorem State.inHoldup_of_holdup (holdup : s.supply.state = .holdup) : s.inHoldup = true := decide_eq_true holdup

theorem State.inHoldup_of_run (run : s.supply.state = .run) : s.inHoldup = false :=
  decide_eq_false (by rw [run]; decide)

theorem failedField_eq_some {st : Status} : failedField parsed = some st ↔ parsed = .error st := by
  cases parsed with
  | error e => exact ⟨fun failed => congrArg Except.error (Option.some.inj failed),
      fun failed => congrArg some (Except.error.inj failed)⟩
  | ok x => exact ⟨nofun, nofun⟩

theorem failedField_eq_none : failedField parsed = none ↔ ∃ x, parsed = .ok x := by
  cases parsed with
  | error e => exact ⟨nofun, nofun⟩
  | ok x => exact ⟨fun _ => ⟨x, rfl⟩, fun _ => rfl⟩

theorem firstTests_wrongPort (barred : q.allows p = false) : firstTests q parsed p s = some (Reply.of .wrongPort) :=
  if_pos (by rw [barred]; rfl)

theorem firstTests_field {st : Status} (allowed : q.allows p = true) :
    firstTests q (.error st : Field α) p s = some (Reply.of st) := if_neg (by rw [allowed]; decide)

/-- A request of an allowed port with sound fields comes to the tests of the supply and of the store. -/
theorem firstTests_ok {x : α} (allowed : q.allows p = true) : firstTests q (.ok x) p s =
    if s.inHoldup && !q.inHoldup then some (Reply.refused .holdup)
    else if s.commit.isSome && q.store then some (Reply.of .busy) else none := if_neg (by rw [allowed]; decide)

theorem firstTests_holdup {x : α} (allowed : q.allows p = true) (holdup : s.supply.state = .holdup)
    (mainsOnly : q.inHoldup = false) : firstTests q (.ok x) p s = some (Reply.refused .holdup) := by
  rw [firstTests_ok allowed, State.inHoldup_of_holdup holdup, mainsOnly]
  rfl

theorem firstTests_busy {x : α} (allowed : q.allows p = true) (run : s.supply.state = .run)
    (committing : s.commit.isSome = true) (store : q.store = true) :
    firstTests q (.ok x) p s = some (Reply.of .busy) := by
  rw [firstTests_ok allowed, State.inHoldup_of_run run, committing, store]
  rfl

end Tests

/-! ### A request that fails a test -/

section Fails

variable {α : Type} {q : Spec} {parse : State → List Byte → Field α} {act : α → State → Taken} {s : State} {f : Frame}

theorem takeRequest_fails {r : Reply} (fails : firstTests q (parse s f.fields) f.port s = some r) :
    takeRequest q parse act f s = (s.replies r).answered q f .nothing := by
  unfold takeRequest
  rw [fails]

/-- A request that passes every test but the guard's is answered GUARDED (R171). -/
theorem takeRequest_guarded {x : α} (parsed : parse s f.fields = .ok x) (allowed : q.allows f.port = true)
    (run : s.supply.state = .run) (free : s.commit = none ∨ q.store = false) (guarded : q.guarded = true)
    (closed : s.guardLeft = none) :
    takeRequest q parse act f s = (s.replies (Reply.of .guarded)).answered q f q.closes := by
  unfold takeRequest
  simp only [parsed, firstTests_none allowed (.inl (State.inHoldup_of_run run)) free.symm]
  unfold guardTest State.guardOpen
  rw [guarded, closed]
  rfl

/-- A request that is only answered changes no record. -/
theorem State.replies_settles (s : State) (f : Frame) (q : Spec) (r : Reply) (after : AfterSent) :
    (State.settle s (((s.atRequest f.port).replies r).answered q f after)).Answers f.port f.tag q.code r.status r.reason ∧
      s.SameButPorts (State.settle s (((s.atRequest f.port).replies r).answered q f after)) :=
  ⟨State.settle_answers s _ q f after,
    ((s.atRequest_arrives f.port).same.trans (State.answer_butPorts _ _ _)).settled s⟩

end Fails

/-! ### The 26 requests (R166, R167) -/

theorem parseGenerator_atRequest (s : State) (p : Port) : parseGenerator (s.atRequest p) = parseGenerator s := by
  funext fs
  unfold parseGenerator
  rw [generatorOf_atRequest]

/-- A command with a row in R167 is a frame taken as that request, and its field test is the request's; the frame's arrival does
not touch what the field test reads. -/
theorem exec_asRequest {c : Instr} {f : Frame} {q : Spec} (framed : c.frame? = some f) (row : requestSpec? c = some q) :
    ∃ (α : Type) (parse : State → List Byte → Field α) (act : α → State → Taken),
      (∀ s, exec c s = .next (request q parse act f s)) ∧
      (∀ s, requestFieldFails s c = failedField (parse s f.fields)) ∧ ∀ s p, parse (s.atRequest p) = parse s := by
  cases c with
  | read g =>
    cases framed; cases row
    exact ⟨_, parseRead, _, fun _ => rfl, fun _ => rfl, fun s p => funext (parseRead_atRequest s p)⟩
  | next g =>
    cases framed; cases row
    exact ⟨_, parseNext, _, fun _ => rfl, fun _ => rfl, fun s p => funext (parseNext_atRequest s p)⟩
  | lockOutGenerator g | returnGenerator g =>
    cases framed; cases row
    exact ⟨_, parseGenerator, _, fun _ => rfl, fun _ => rfl, parseGenerator_atRequest⟩
  | status g | demand g | arm g | stopAll g | parkMachine g | walk g | walkHalt g | walkResume g | walkCancel g | writeZone g
  | retireZone g | confirmZones g | flushCache g | referenceReset g | acknowledge g | shelve g | unshelve g | setAnnounce g
  | openGuard g | writeConstant g | commit g | restart g =>
    cases framed; cases row
    exact ⟨_, _, _, fun _ => rfl, fun _ => rfl, fun _ _ => rfl⟩
  | _ => cases row

/-- Settles O57: a request that fails a test is answered from the state at its arrival, in which every test reads what it reads in
the state before; the tests then go by their order. -/
theorem requestsAreTestedInOrder : Obligations.RequestsAreTestedInOrder := by
  intro s c f q runs framed row awaits
  obtain ⟨α, parse, act, execs, field, atRequest⟩ := exec_asRequest framed row
  obtain ⟨same, _, _, _, guardLeft⟩ := s.atRequest_arrives f.port
  have supply : (s.atRequest f.port).supply.state = s.supply.state := congrArg Supply.state same.supply
  have answered {r : Reply} {after : AfterSent} (taken : takeRequest q parse act f (s.atRequest f.port) =
      ((s.atRequest f.port).replies r).answered q f after) :
      ∃ t, exec c s = .next t ∧ t.Answers f.port f.tag q.code r.status r.reason ∧ s.SameButPorts t := by
    have settled : exec c s = .next (State.settle s (((s.atRequest f.port).replies r).answered q f after)) :=
      (execs s).trans (congrArg Host.Outcome.next
        ((s.frameTaken_runs _ _ runs awaits).trans (congrArg (State.settle s) taken)))
    exact ⟨_, settled, s.replies_settles f q r after⟩
  have fieldsPass (passes : requestFieldFails s c = none) : ∃ x, parse (s.atRequest f.port) f.fields = .ok x := by
    rw [atRequest]
    exact failedField_eq_none.1 ((field s).symm.trans passes)
  refine ⟨fun barred => answered (takeRequest_fails (firstTests_wrongPort barred)), fun st allowed fails => ?_,
    fun allowed passes holdup mainsOnly => ?_, fun allowed passes run committing store => ?_,
    fun allowed passes run free guarded closed => ?_⟩
  · have failed : parse (s.atRequest f.port) f.fields = .error st := by
      rw [atRequest]
      exact failedField_eq_some.1 ((field s).symm.trans fails)
    exact answered (takeRequest_fails (failed ▸ firstTests_field allowed))
  · obtain ⟨x, parsed⟩ := fieldsPass passes
    exact answered (takeRequest_fails (parsed ▸ firstTests_holdup allowed (supply.trans holdup) mainsOnly))
  · obtain ⟨x, parsed⟩ := fieldsPass passes
    exact answered (takeRequest_fails
      (parsed ▸ firstTests_busy allowed (supply.trans run) (same.commit ▸ committing) store))
  · obtain ⟨x, parsed⟩ := fieldsPass passes
    exact answered (takeRequest_guarded parsed allowed (supply.trans run) (same.commit ▸ free) guarded
      (guardLeft.trans closed))

/-! ### The guard and the sending of an answer (R163, R171, R179) -/

/-- OPEN GUARD's own part (R171). -/
def State.openGuardTaken (s : State) : Taken := ⟨{ s with guardLeft := some guardWindow }, Reply.of .done⟩

theorem State.openGuardTaken_butPorts (s : State) : s.SameButPorts s.openGuardTaken.state := by
  constructor <;> rfl

theorem exec_openGuard {s : State} {f : Frame} (takes : s.Takes f .service) (fields : f.fields = []) : exec (.openGuard f) s =
    .next (State.settle s ((s.hunt .service).openGuardTaken.answered openGuardSpec f .nothing)) := by
  obtain ⟨mains, port, awaits⟩ := takes
  rw [← port] at awaits
  have taken := request_onMains (q := openGuardSpec) (parse := parseNothing) (x := ())
    (act := fun _ t => t.openGuardTaken) mains awaits (by rw [port]; rfl) (by rw [fields]; rfl) rfl (.inl rfl)
  rw [port] at taken
  exact congrArg Host.Outcome.next taken

theorem exec_restart_taken {s : State} {f : Frame} (takes : s.TakesEdit f) (opened : s.guardLeft.isSome = true)
    (fields : f.fields = []) : exec (.restart f) s =
      .next (State.settle s ((s.hunt .service).done.answered restartSpec f .closeGuardAndRestart)) :=
  congrArg Host.Outcome.next (request_behindGuard (q := restartSpec) (parse := parseNothing) (x := ())
    (act := fun _ t => t.done) takes rfl opened (by rw [fields]; rfl))

theorem State.guardClosed_butPorts (s : State) : s.SameButPorts (s.afterSent .closeGuard) := by
  constructor <;> rfl

theorem State.onPort_butPorts (s : State) (p : Port) (change : PortState → PortState) : s.SameButPorts (s.onPort p change) := by
  constructor <;> rfl

/-- The port without its answer, the last byte of which has been sent (R163). -/
def State.answerEnded (s : State) (p : Port) : State := s.onPort p fun q => { q with answer := none }

theorem State.answerEnded_answer (s : State) (p : Port) : ((s.answerEnded p).ports.get p).answer = none := by
  show ((s.ports.set p _).get p).answer = none
  rw [PerPort.get_set_self]

theorem State.answerLeaves_of_answer {s : State} {p : Port} {a : Answer} (answers : (s.ports.get p).answer = some a) :
    s.answerLeaves p = (s.answerEnded p).afterSent a.after := by
  unfold State.answerLeaves
  rw [answers]
  rfl

/-- No port of a part that begins a cold start answers (R180). -/
theorem State.coldStart_answer (s : State) (p : Port) : (s.coldStart.ports.get p).answer = none := by
  cases p <;> rfl

theorem exec_answerSent {s : State} {p : Port} {a : Answer} (runs : s.Runs) (answers : (s.ports.get p).answer = some a) :
    exec (.answerSent p) s = .next (State.settle s ((s.answerEnded p).afterSent a.after)) :=
  congrArg Host.Outcome.next
    ((s.event_runs _ runs).trans (congrArg (State.settle s) (State.answerLeaves_of_answer answers)))

/-- Settles O56: OPEN GUARD and RESTART are requests that pass their tests, and the end of an answer goes by what its sending does
besides. -/
theorem guardAndRestart : Obligations.GuardAndRestart := by
  refine ⟨fun s f takes fields => ?_, fun s runs => congrArg Host.Outcome.next (s.event_runs _ runs),
    fun s f takes opened fields => ?_, fun s p a runs answers => ?_⟩
  · have answers := State.settle_answers s (s.hunt .service).openGuardTaken openGuardSpec f .nothing
    rw [takes.2.1] at answers
    exact ⟨_, exec_openGuard takes fields, answers, (State.settle_same s _).guardLeft,
      (((s.onPort_butPorts .service _).trans (State.openGuardTaken_butPorts _)).trans
        (State.answer_butPorts _ _ _)).settled s⟩
  · have answers := State.settle_answers s (s.hunt .service).done restartSpec f .closeGuardAndRestart
    have settled := State.settle_same s ((s.hunt .service).done.answered restartSpec f .closeGuardAndRestart)
    rw [takes.2.1] at answers
    refine ⟨_, ⟨f.tag, restartSpec.code, .done, .none, [], .closeGuardAndRestart⟩, exec_restart_taken takes opened fields,
      answers, settled.guardLeft, ?_, rfl,
      ((s.onPort_butPorts .service _).trans (State.answer_butPorts _ _ _)).settled s⟩
    rw [settled.ports, Taken.answered, State.answer_ports, takes.2.1, PerPort.get_set_self]
    rfl
  · have same := State.settle_same s ((s.answerEnded p).afterSent a.after)
    refine ⟨_, exec_answerSent runs answers, ?_, fun nothing => ?_, fun closes => ?_, fun restarts => ?_⟩
    · rw [same.ports]
      cases a.after with
      | nothing | closeGuard => exact s.answerEnded_answer p
      | closeGuardAndRestart => exact (s.answerEnded p).coldStart_answer p
    · rw [nothing] at same ⊢
      exact ⟨same.guardLeft, (s.onPort_butPorts p _).settled s⟩
    · rw [closes] at same ⊢
      exact ⟨same.guardLeft, ((s.onPort_butPorts p _).trans (State.guardClosed_butPorts _)).settled s⟩
    · rw [restarts] at same ⊢
      exact ⟨same.power, same.inputs, same.guardLeft⟩

end Sys2Proof.Machine
end

section
/-! SUPPORT. The lines (10 R161–R164, R175): a frame that completes while its port answers, the answers UNKNOWN and CHECK, and the
frame of an answer. -/

namespace Sys2Proof.Machine

/-! ### Frames (R161, R163) -/

/-- A command that carries a frame brings it to its port. -/
theorem exec_frame {c : Instr} {f : Frame} (framed : c.frame? = some f) :
    ∃ take : State → State, ∀ s, exec c s = .next (s.frameTaken f.port take) := by
  cases c with
  | read g | next g | status g | demand g | arm g | stopAll g | parkMachine g | walk g | walkHalt g | walkResume g
  | walkCancel g | writeZone g | retireZone g | confirmZones g | flushCache g | referenceReset g | acknowledge g | shelve g
  | unshelve g | setAnnounce g | lockOutGenerator g | returnGenerator g | openGuard g | writeConstant g | commit g
  | restart g | unknown g code =>
    cases framed
    exact ⟨_, fun _ => rfl⟩
  | _ => cases framed

/-- A frame that completes while its port's answer is in progress is discarded (R163). -/
theorem State.frameTaken_answering {s : State} {p : Port} (take : State → State) (runs : s.Runs)
    (answering : (s.ports.get p).answer.isSome = true) : s.frameTaken p take = s.hunt p := by
  unfold State.frameTaken
  rw [runs]
  exact if_pos answering

/-! ### UNKNOWN and CHECK (R162, R164) -/

/-- An answer outlasts the completion of its change. -/
theorem State.settle_answer (s0 s : State) (p : Port) (a : Answer) :
    (State.settle s0 (s.answer p a)).Answers p a.tag a.code a.status a.reason := by
  unfold State.Answers
  rw [(State.settle_same s0 _).ports, State.answer_ports, PerPort.get_set_self]
  exact ⟨_, rfl, rfl, rfl, rfl, rfl⟩

theorem exec_unknown {s : State} {f : Frame} (runs : s.Runs) (awaits : s.Awaits f.port) (code : Byte) :
    exec (.unknown f code) s = .next (State.settle s
      ((s.atRequest f.port).answer f.port ⟨f.tag, code, .unknown, .none, [], .nothing⟩)) :=
  congrArg Host.Outcome.next (s.frameTaken_runs _ _ runs awaits)

theorem State.checkFails_of_awaits {s : State} {p : Port} (awaits : s.Awaits p) (tag code : Byte) :
    s.checkFails p tag code = (s.hunt p).answer p ⟨tag, code, .check, .none, [], .nothing⟩ :=
  if_neg (by unfold State.answering; rw [awaits]; decide)

theorem exec_check {s : State} {p : Port} (runs : s.Runs) (awaits : s.Awaits p) (tag code : Byte) :
    exec (.check p tag code) s = .next (State.settle s
      ((s.hunt p).answer p ⟨tag, code, .check, .none, [], .nothing⟩)) :=
  congrArg Host.Outcome.next
    ((s.event_runs _ runs).trans (congrArg (State.settle s) (State.checkFails_of_awaits awaits tag code)))

/-! ### The frame of an answer (R162, R175) -/

theorem Answer.covered_eq (a : Answer) : a.covered =
    [u8 (a.body.length + 4), a.tag, a.code, statusByte a.status, reasonByte a.reason] ++ a.body := by
  rw [Nat.add_comm]
  rfl

theorem Answer.frame_eq (a : Answer) : a.frame =
    [0xB6, u8 (a.body.length + 4), a.tag, a.code, statusByte a.status, reasonByte a.reason] ++ a.body ++
      [u8 ((crc a.covered).toNat / 256), u8 (crc a.covered).toNat] := by
  rw [Nat.add_comm]
  rfl

/-- The check of R162 over the nine bytes of the text 123456789. -/
theorem crc_text : crc [0x31, 0x32, 0x33, 0x34, 0x35, 0x36, 0x37, 0x38, 0x39] = 0x29B1 := by decide +kernel

/-- Settles O60: UNKNOWN and CHECK only answer, the lines' other events only move the receiver, and the frame of an answer is its
covered bytes between the sync byte and the check. -/
theorem linesCarryFrames : Obligations.LinesCarryFrames := by
  refine ⟨⟨fun s f code runs awaits => ?_, fun s p tag code runs awaits => ?_, fun s c f runs framed answering => ?_,
    fun s p length runs => congrArg Host.Outcome.next (s.event_runs _ runs),
    fun s p runs => congrArg Host.Outcome.next (s.event_runs _ runs),
    fun s p runs => congrArg Host.Outcome.next (s.event_runs _ runs),
    fun s p byte runs => congrArg Host.Outcome.next (s.event_runs _ runs)⟩,
    crc_text, fun a => ⟨a.frame_eq, a.covered_eq⟩⟩
  · exact ⟨_, exec_unknown runs awaits code, State.settle_answer s _ f.port ⟨f.tag, code, .unknown, .none, [], .nothing⟩,
      ((s.atRequest_arrives f.port).same.trans (State.answer_butPorts _ _ _)).settled s⟩
  · exact ⟨_, exec_check runs awaits tag code, State.settle_answer s _ p ⟨tag, code, .check, .none, [], .nothing⟩,
      ((s.onPort_butPorts p _).trans (State.answer_butPorts _ _ _)).settled s, (State.settle_same s _).cabTimer⟩
  · obtain ⟨take, taken⟩ := exec_frame framed
    exact (taken s).trans (congrArg Host.Outcome.next (State.frameTaken_answering take runs answering))

end Sys2Proof.Machine
end

section
/-! SUPPORT. WRITE CONSTANT (11 R176, R177): the tests of its own, and what the owner of a constant does on its new value. -/

namespace Sys2Proof.Machine

/-! ### The request's own tests (R176, R177) -/

theorem State.allIdle_iff {s : State} : s.allIdle = true ↔ (∀ m, (s.motions.get m).state = .idle) ∧ s.walk.state = .idle := by
  unfold State.allIdle
  rw [Bool.and_eq_true, List.all_eq_true]
  exact and_congr ⟨fun all m => of_decide_eq_true (all m (Dig.mem_all m)), fun all m _ => decide_eq_true (all m)⟩
    decide_eq_true_iff

/-- The one constant written, and its owner's act on the new value (R177). -/
def State.constantTaken (s : State) (key : ConstKey) (v : Int) : State :=
  State.constantWritten { s with k := setConst s.k key v } key s.k

section Tests

variable {s : State} {key : ConstKey} {v : Int}

theorem State.writeConstantTaken_busy (busy : s.allIdle = false) : s.writeConstantTaken (key, v) = s.refuses .state :=
  if_pos (by rw [busy]; rfl)

theorem State.writeConstantTaken_disagrees (idle : s.allIdle = true) (disagrees : constantsAgree (setConst s.k key v) = false) :
    s.writeConstantTaken (key, v) = s.replies (Reply.of .badField) :=
  (if_neg (by rw [idle]; decide)).trans (if_pos (by rw [disagrees]; rfl))

theorem State.writeConstantTaken_done (idle : s.allIdle = true) (agrees : constantsAgree (setConst s.k key v) = true) :
    s.writeConstantTaken (key, v) = (s.constantTaken key v).done :=
  (if_neg (by rw [idle]; decide)).trans (if_neg (by rw [agrees]; decide))

end Tests

/-- WRITE CONSTANT behind the OPEN guard is answered by its own part. -/
theorem exec_writeConstant {s : State} {f : Frame} {x : ConstKey × Int} (takes : s.TakesEdit f)
    (opened : s.guardLeft.isSome = true) (parsed : parseWriteConstant s f.fields = .ok x) : exec (.writeConstant f) s =
      .next (State.settle s (((s.hunt .service).writeConstantTaken x).answered writeConstantSpec f .closeGuard)) :=
  congrArg Host.Outcome.next (request_behindGuard (q := writeConstantSpec) (parse := parseWriteConstant)
    (act := fun x t => t.writeConstantTaken x) takes rfl opened parsed)

/-- WRITE CONSTANT whose own part only replies changes no constant (R165). -/
theorem exec_writeConstant_replies {s : State} {f : Frame} {x : ConstKey × Int} {r : Reply} (takes : s.TakesEdit f)
    (opened : s.guardLeft.isSome = true) (parsed : parseWriteConstant s f.fields = .ok x)
    (replies : (s.hunt .service).writeConstantTaken x = (s.hunt .service).replies r) :
    ∃ t, exec (.writeConstant f) s = .next t ∧ t.Answers .service f.tag 24 r.status r.reason ∧ s.SameButPorts t := by
  have answered := s.replies_settles f writeConstantSpec r .closeGuard
  rw [takes.2.1] at answered
  refine ⟨_, exec_writeConstant takes opened parsed, ?_⟩
  rw [replies]
  exact answered

/-! ### The owner of a constant (R7, R16, R29, R67, R177) -/

/-- A constant of the list that belongs to a channel has one of the numbers 1 to 12 (R176). -/
theorem ConstKey.no_le_of_channel {key : ConstKey} {c : Motion} (listed : key ∈ constantKeys) (channel : key.channel = some c) :
    key.no ≤ 12 := by
  have numbers : ∀ n ∈ channelConstants, n ≤ 12 := by decide
  rcases mem_constantKeys.1 listed with perChannel | ⟨n, -, rfl⟩
  · obtain ⟨n, number, _, -, rfl⟩ := mem_channelKeys.1 perChannel
    exact numbers n number
  · cases channel

/-- A write of a channel's constant acts on that channel's record alone (R7, R16). -/
theorem State.channelWritten_butChannels (s : State) (no : Nat) (c : Motion) : s.SameButChannels (s.channelWritten no c) := by
  have kept : s.SameButChannels s := by constructor <;> rfl
  have cpr : s.SameButChannels (s.cprWritten c) := by
    unfold State.cprWritten
    split
    exacts [s.onChan_butChannels _ _, kept]
  unfold State.channelWritten
  split
  · refine State.SameButChannels.trans ?_ (State.onChan_butChannels _ c _)
    split
    exacts [cpr, kept]
  · exact kept

/-- The constants that say how a channel counts leave it UNREFERENCED (R16). -/
theorem State.channelWritten_unreferenced (s : State) {no : Nat} (c : Motion) (counts : no ≤ 7) :
    ((s.channelWritten no c).chans.ch.get c).refState = .unreferenced := by
  unfold State.channelWritten
  rw [if_pos counts]
  unfold State.unreference
  rw [State.onChan_chans, PerMotion.get_set_self]
  rfl

/-- The default permissions count the epoch up; no other constant of the machine acts on the zone table (R29). -/
theorem State.machineWritten_zones (s : State) (no : Nat) (old : Constants) : (s.machineWritten no old).zones =
    { s.zones with epoch := if no = 22 ∨ no = 23 ∨ no = 24 then s.zones.epoch + 1 else s.zones.epoch } := by
  unfold State.machineWritten
  split
  · rfl
  · split <;> rfl

theorem State.machineWritten_settings (s : State) (no : Nat) (old : Constants) :
    (s.machineWritten no old).k = s.k ∧ (s.machineWritten no old).fitted = s.fitted ∧
      (s.machineWritten no old).store = s.store := by
  unfold State.machineWritten
  split
  · exact ⟨rfl, rfl, rfl⟩
  · split <;> exact ⟨rfl, rfl, rfl⟩

section Written

variable (s : State) {key : ConstKey} (v : Int)

theorem State.constantTaken_channel {c : Motion} (channel : key.channel = some c) :
    s.constantTaken key v = State.channelWritten { s with k := setConst s.k key v } key.no c := by
  unfold State.constantTaken State.constantWritten
  rw [channel]

theorem State.constantTaken_machine (machine : key.channel = none) :
    s.constantTaken key v = State.machineWritten { s with k := setConst s.k key v } key.no s.k := by
  unfold State.constantTaken State.constantWritten
  rw [machine]

/-- The owner writes no constant of its own and not the store, and the fitted count in force stays (R177, R181). -/
theorem State.constantTaken_settings : (s.constantTaken key v).k = setConst s.k key v ∧
    (s.constantTaken key v).fitted = s.fitted ∧ (s.constantTaken key v).store = s.store := by
  cases owner : key.channel with
  | some c =>
    have same := State.channelWritten_butChannels { s with k := setConst s.k key v } key.no c
    rw [s.constantTaken_channel v owner]
    exact ⟨same.k, same.fitted, same.store⟩
  | none =>
    rw [s.constantTaken_machine v owner]
    exact State.machineWritten_settings _ _ _

/-- A listed constant acts on the zone table by the epoch alone, and only as a default permission (R29). -/
theorem State.constantTaken_zones (listed : key ∈ constantKeys) : (s.constantTaken key v).zones =
    { s.zones with epoch := if key.no = 22 ∨ key.no = 23 ∨ key.no = 24 then s.zones.epoch + 1 else s.zones.epoch } := by
  cases owner : key.channel with
  | some c =>
    have low := key.no_le_of_channel listed owner
    rw [s.constantTaken_channel v owner, (State.channelWritten_butChannels _ key.no c).zones, if_neg (by omega)]
  | none =>
    rw [s.constantTaken_machine v owner]
    exact State.machineWritten_zones _ _ _

theorem State.constantTaken_unreferenced {c : Motion} (channel : key.channel = some c) (counts : key.no ≤ 7) :
    ((s.constantTaken key v).chans.ch.get c).refState = .unreferenced := by
  rw [s.constantTaken_channel v channel]
  exact State.channelWritten_unreferenced _ c counts

end Written

/-- Settles O52: the request goes by its own tests; where both pass, the one place of the constants is written, and the owner of
that constant touches no other setting. -/
theorem writeConstantActs : Obligations.WriteConstantActs := by
  refine ⟨fun s f key v takes opened parsed motions walk agrees => ?_, fun s f key v takes opened parsed =>
    ⟨fun busy => ?_, fun motions walk disagrees => ?_⟩⟩
  · obtain ⟨listed, inRange⟩ := parseWriteConstant_ok parsed
    let u : State := (s.hunt .service).constantTaken key v
    have own : (s.hunt .service).writeConstantTaken (key, v) = u.done :=
      State.writeConstantTaken_done (State.allIdle_iff.2 ⟨motions, walk⟩) agrees
    have taken := exec_writeConstant takes opened parsed
    have answers := State.settle_answers s u.done writeConstantSpec f .closeGuard
    have settled := State.settle_same s (u.done.answered writeConstantSpec f .closeGuard)
    rw [own] at taken
    rw [takes.2.1] at answers
    obtain ⟨constants, fitted, store⟩ := (s.hunt .service).constantTaken_settings (key := key) v
    have written := settled.k.trans constants
    have zones := settled.zones.trans ((s.hunt .service).constantTaken_zones v listed)
    have slots := congrArg ZoneTable.slots zones
    refine ⟨_, taken, answers, written, ?_, fun other ho ne => ?_, settled.store.trans store,
      slots, congrArg ZoneTable.epoch zones, fun c channel counts => ?_, settled.fitted.trans fitted⟩
    · rw [written]
      exact constValue_setConst_self s.k listed inRange
    · rw [written]
      exact constValue_setConst_ne s.k listed ho ne v
    · rw [settled.chans]
      exact (s.hunt .service).constantTaken_unreferenced v channel counts
  · have notIdle : (s.hunt .service).allIdle = false := Bool.eq_false_iff.2 fun idle => busy (State.allIdle_iff.1 idle)
    exact exec_writeConstant_replies takes opened parsed (State.writeConstantTaken_busy notIdle)
  · have idle : (s.hunt .service).allIdle = true := State.allIdle_iff.2 ⟨motions, walk⟩
    exact exec_writeConstant_replies takes opened parsed (State.writeConstantTaken_disagrees idle disagrees)

end Sys2Proof.Machine
end

section
/-! SUPPORT. The beginning of a cold start (11 R180): every output of a part that does not run is off, and the store stays but for what
a cut-off write left. -/

namespace Sys2Proof.Machine

/-! ### A part that does not run (R149, R180) -/

/-- A part whose field outputs are not driven has every one of them off (R52, R92, R95). -/
theorem State.outputs_off {s : State} (undriven : s.driven = false) :
    (∀ g l, s.coilOutput g l = false ∧ s.fieldEnable g = false) ∧
      ∀ m d, s.brakeOutput m = false ∧ s.permitLine m d = false := by
  unfold State.coilOutput State.fieldEnable State.brakeOutput State.permitLine
  rw [undriven]
  exact ⟨fun _ _ => ⟨rfl, rfl⟩, fun _ _ => ⟨rfl, rfl⟩⟩

/-- A part that loads drives no output and no attention line, and answers nothing (R180, steps 1 to 3). -/
theorem State.coldStart_silent (s : State) :
    (∀ g l, s.coldStart.coilOutput g l = false ∧ s.coldStart.fieldEnable g = false) ∧
      (∀ m d, s.coldStart.brakeOutput m = false ∧ s.coldStart.permitLine m d = false) ∧
      ∀ p, (s.coldStart.ports.get p).answer = none ∧ s.coldStart.attentionLine p = false := by
  obtain ⟨generators, motions⟩ := State.outputs_off (s := s.coldStart) rfl
  exact ⟨generators, motions, fun p => ⟨s.coldStart_answer p, rfl⟩⟩

/-! ### The store (R154, R178, R180) -/

/-- The image outlasts a cold start that cuts off no COMMIT. -/
theorem State.coldStart_image {s : State} (idle : s.commit = none) : s.coldStart.store.image = s.store.image := by
  show s.storeCut.image = _
  unfold State.storeCut
  rw [idle]

/-- The marker outlasts a cold start that cuts off no write of it. -/
theorem State.coldStart_marker {s : State} (idle : s.store.markerWrite = none) :
    s.coldStart.store.marker = s.store.marker := by
  show s.storeCut.marker = _
  unfold State.storeCut
  rw [idle]

/-! ### What begins a cold start (R153, R180) -/

/-- POWER_ON is a cold start, with mains present, of a part without a holdup to return from. -/
theorem exec_powerOn {s : State} (fresh : ¬ s.OnBackup) : exec .powerOn s =
    .next { s with inputs := { s.inputs with mains := true } }.coldStart := by
  refine congrArg Host.Outcome.next (if_neg fun held => fresh ?_)
  obtain ⟨runs, holdup⟩ := Bool.and_eq_true_iff.1 held
  exact ⟨of_decide_eq_true runs, of_decide_eq_true holdup⟩

/-- RESET_LINE is a cold start of a part with supply. -/
theorem exec_resetLine {s : State} (supplied : s.power ≠ .stopped) : exec .resetLine s = .next s.coldStart := by
  show execResetLine s = _
  unfold execResetLine
  cases power : s.power with
  | running | loading => rfl
  | stopped => exact absurd power supplied

/-- Settles O54: either command is the cold start of its state, whose records show nothing. -/
theorem coldStartBegins : Obligations.ColdStartBegins :=
  ⟨fun _ fresh => ⟨_, exec_powerOn fresh, rfl, rfl, rfl, State.coldStart_image, State.coldStart_marker,
      State.coldStart_silent _⟩,
    fun s supplied => ⟨_, exec_resetLine supplied, rfl, rfl, rfl, State.coldStart_image, State.coldStart_marker,
      s.coldStart_silent⟩⟩

end Sys2Proof.Machine
end

section
/-! SUPPORT. The reset state keeps every invariant: its records are those of a cold start, and the true conditions are UNREFERENCED of
the four channels. -/

namespace Sys2Proof.Machine

/-! ### The records at reset -/

theorem reset_slot (i : Fin 40) : State.reset.zones.slots.get i = ZoneSlot.empty := Table.get_const _ i

theorem reset_motion (m : Dig) : State.reset.motions.get m = MotionRec.cold := PerDig.get_const _ m

/-- A generator at reset is FREE or has no record. -/
theorem reset_gen (g : Fin 12) : (State.reset.gens.get g).st = .free ∨ (State.reset.gens.get g).st = .noRecord := by
  revert g
  decide +kernel

/-- The true conditions at reset are UNREFERENCED of the four channels (R17, R151). -/
theorem reset_isTrue (key : AlarmKey) : State.reset.isTrue key = true ↔ ∃ c : Motion, key = ⟨7, c.number⟩ := by
  have listed : State.reset.isTrue key = Motion.all.any fun c => decide ((⟨7, c.number⟩ : AlarmKey) = key) := rfl
  rw [listed, List.any_eq_true]
  exact ⟨fun ⟨c, _, same⟩ => ⟨c, (of_decide_eq_true same).symm⟩,
    fun ⟨c, same⟩ => ⟨c, Motion.mem_all c, decide_eq_true same.symm⟩⟩

theorem reset_isTrue_other {code : Nat} (num : Nat) (other : code ≠ 7) : State.reset.isTrue ⟨code, num⟩ = false :=
  Bool.eq_false_iff.2 fun holds => by
    obtain ⟨c, same⟩ := (reset_isTrue _).1 holds
    exact other (congrArg AlarmKey.code same)

/-! ### The invariants at reset -/

/-- The factory image holds no zone. -/
theorem Image.factory_lawful : Image.Lawful Image.factory := by
  intro z stored
  have empty : z ∈ List.replicate 40 StoredZone.empty := stored
  rw [List.eq_of_mem_replicate empty]
  trivial

theorem reset_zonesLawful : State.reset.ZonesLawful := by
  have dark : (State.dark .running [] ⟨some Image.factory, .clear, none⟩ Inputs.atRest).ZonesLawful :=
    State.dark_zonesLawful (fun i held => Option.some.inj held ▸ Image.factory_lawful) (List.forall_mem_nil _)
  exact State.KeepsZones.of_eq rfl rfl rfl rfl dark

theorem reset_countsLawful : State.reset.CountsLawful :=
  ⟨defaults_pass, Channels.cold_lawful defaults_pass⟩

/-- Every channel is UNREFERENCED, every slot EMPTY and no generator at fault, as the four true conditions say. -/
theorem reset_conditionsFollow : State.reset.ConditionsFollow := by
  refine ⟨fun c => ?_, ⟨fun i => ?_, ?_⟩, fun g => ?_⟩
  · have cold : (State.reset.chans.ch.get c).refState = .unreferenced := by cases c <;> rfl
    rw [cold, reset_isTrue_other _ (by decide)]
    exact ⟨⟨nofun, nofun⟩, iff_of_true ((reset_isTrue _).2 ⟨c, rfl⟩) rfl⟩
  · rw [reset_isTrue_other _ (by decide), reset_slot]
    exact ⟨nofun, nofun⟩
  · rw [reset_isTrue_other _ (by decide)]
    refine ⟨nofun, fun ⟨i, stale⟩ => ?_⟩
    rw [reset_slot] at stale
    cases stale
  · rw [reset_isTrue_other _ (by decide), reset_isTrue_other _ (by decide), reset_isTrue_other _ (by decide)]
    unfold Gen.showsWeld Gen.keepsTrying Gen.isLockedOut
    rcases reset_gen g with st | st <;> rw [st] <;> exact ⟨⟨nofun, nofun⟩, ⟨nofun, nofun⟩, nofun, nofun⟩

theorem reset_motionsLawful : State.reset.MotionsLawful := by
  intro m
  rw [reset_motion]
  exact .of_rest (.inl rfl) rfl rfl rfl nofun rfl

/-- No permit shows a direction at reset. -/
theorem reset_permitsLawful : State.reset.PermitsLawful := by
  refine ⟨fun m d permit => ?_, fun d permit => nomatch permit⟩
  rw [reset_motion] at permit
  cases permit

/-- No motion has a demand at reset. -/
theorem reset_readyLaw : State.reset.ReadyLaw := by
  intro _ m waits
  rw [reset_motion] at waits
  exact waits.elim nofun nofun

theorem reset_conditionsDistinct : State.reset.ConditionsDistinct := by
  have keys : ([⟨7, 1⟩, ⟨7, 2⟩, ⟨7, 3⟩, ⟨7, 4⟩] : List AlarmKey).Nodup := by decide
  exact keys

/-- Settles O5: the base case of the laws that every step keeps. -/
theorem invariantsHoldAtReset : Obligations.InvariantsHoldAtReset := by
  obtain ⟨ranges, causes⟩ := (State.countsLawful_iff _).1 reset_countsLawful
  exact ⟨ranges, causes, reset_zonesLawful, reset_conditionsFollow, reset_classesLegal, reset_motionsLawful,
    reset_permitsLawful, .of_mains ⟨rfl, rfl⟩, reset_readyLaw, .of_nil rfl, reset_conditionsDistinct⟩

end Sys2Proof.Machine
end

section
/-! SUPPORT. The machine as a whole: which way a step goes by the queue of waiting commands, what one millisecond does to
the count channels of a part on mains, and the records that the completion of a change leaves alone. -/

namespace Sys2Proof.Machine

/-! ### The two ways a step goes -/

theorem step_of_waiting {s : State} {c : Instr} {rest : List Instr} (waits : s.pending = c :: rest) :
    step s = exec c { s with pending := rest } := by
  unfold step
  rw [waits]

theorem step_of_none_waiting {s : State} (idle : s.pending = []) : step s = .next s.tick := by
  unfold step
  rw [idle]

/-! ### One millisecond on mains -/

theorem State.tick_of_onMains {s : State} (mains : s.OnMains) : s.tick = s.tickBoth.tickRun := by
  have run : s.inHoldup = false := s.inHoldup_of_onMains mains
  unfold State.tick
  rw [mains.1]
  exact if_neg (Bool.eq_false_iff.1 run)

theorem State.tick_chan_of_onMains {s : State} (mains : s.OnMains) (c : Motion) :
    s.tick.chans.ch.get c = (s.chans.ch.get c).tick := by
  rw [s.tick_of_onMains mains]
  exact PerMotion.get_map _ _ c

/-! ### The obligations -/

/-- Settles O3: no operation of the completion can touch the records of `State.SameRecords`. -/
theorem completionLeavesRecords : Obligations.CompletionLeavesRecords := State.settle_same

/-- Settles O1. -/
theorem stepRunsFrontCommand : Obligations.StepRunsFrontCommand := fun _ _ _ => step_of_waiting

/-- Settles O2: a step with no command waiting is a tick, which keeps every term that a permit is composed of
(`State.tick_terms`), and on mains a tick moves only the clock and the timers of the records. -/
theorem idleStepIsOneMillisecond : Obligations.IdleStepIsOneMillisecond := by
  intro s idle mains
  have terms : s.SameTerms s.tick := s.tick_terms
  have ticked : s.tick = s.tickBoth.tickRun := s.tick_of_onMains mains
  have window (c : Motion) : (s.tick.chans.ch.get c).position = (s.chans.ch.get c).position ∧
      (s.tick.chans.ch.get c).windowLeft = (s.chans.ch.get c).windowLeft - 1 := by
    rw [s.tick_chan_of_onMains mains]
    exact ⟨rfl, rfl⟩
  refine ⟨s.tick, step_of_none_waiting idle, ?clock, ?pending, ?power, terms.k, ?inputs, ?zones, terms.res, ?arb, ?supply,
    ?ports, ?store, ?conditions, terms.proven, window, fun m => ⟨terms.state m, terms.permit m, terms.brake m⟩,
    terms.walkState, terms.walkPermit, terms.walkBrake⟩
  case pending => rw [ticked]; exact idle
  all_goals rw [ticked]; rfl

end Sys2Proof.Machine
end
